-- ==== Sys2Proof/Word.lean ====
section
/-! DEFINITION. The words of the part: the widths the manual gives its numbers. -/

namespace Sys2Proof

/-- One byte of either link (R1). -/
abbrev Byte := BitVec 8

/-- A 16-bit value: a distance, a CRC register (section 11.1, R3). -/
abbrev Half := BitVec 16

/-- A 32-bit value: an item, bundle or brick number, a deposit id, a case reference, a parameter value (section 11.1). -/
abbrev Word := BitVec 32

/-- A transport position in encoder counts, modulo 2^24 (section 5.1). -/
abbrev Pos := BitVec 24

/-- A denomination code, 0 to 31, whose bits a route object's mask tests (section 5.3, R45). -/
abbrev Denom := BitVec 5

/-- A series, 0 to 7 (section 5.3). -/
abbrev Series := BitVec 3

/-- A gated pocket: `Gate` number k is pocket k + 1, pockets 1 to 15 (section 5.3). -/
abbrev Gate := Fin 15

/-- A pocket group, 0 to 7. -/
abbrev GroupNo := Fin 8

/-- A route object's index, 0 to 47. -/
abbrev ObjectNo := Fin 48

/-- A deposit slot, 0 to 3. -/
abbrev SlotNo := Fin 4

/-- A serial: its character codes, first character first (section 5.3, R203). -/
abbrev Serial := List Byte

end Sys2Proof
end

