-- ==== Sys2Proof/Config.lean ====
section
/-! DEFINITION. What the part fixes (capacities, levels, codes) and the one free value the manual leaves open. -/

namespace Sys2Proof.Config

/-- Edges the Edge FIFO holds at most (R23). -/
def fifoCapacity : Nat := 8

/-- Entries the Track Queue holds at most (R127). -/
def trackCapacity : Nat := 32

/-- Records the Loss List holds at most (R143). -/
def lossCapacity : Nat := 40

/-- Entries the watch list holds at most (R65). -/
def watchCapacity : Nat := 256

/-- The largest count of a counting-index cell (R66). -/
def cellMax : Nat := 255

/-- Slots of the Deposit Queue (R148). -/
def depositCapacity : Nat := 4

/-- Entries of the Declaration Table (R150). -/
def declarationCapacity : Nat := 8

/-- Pairs of a contribution list (R85). -/
def contributionCapacity : Nat := 8

/-- Reports the Report Queue holds at most (R193). -/
def queueCapacity : Nat := 64

/-- The occupancy from which TRACE reports are dropped (R194). -/
def traceLevel : Nat := 48

/-- The occupancy whose reaching raises BACKLOG (R196). -/
def backlogLevel : Nat := 56

/-- The occupancy whose reaching ends BACKLOG (R196). -/
def clearLevel : Nat := 32

/-- Where the gap measure and every 16-bit held count stop (R27, R101, R147). -/
def countMax : Nat := 65535

/-- Where the loss mark stops (R195). -/
def lossMarkMax : Nat := 255

/-- Idle bytes that bring the receiver from HUNT to WAIT (R8), and that the transmitter sends before a frame (R190, R192). -/
def idleRun : Nat := 4

/-- The start byte of a frame (R1, R190). -/
def startByte : Byte := 0xC3

/-- The idle byte, sent continuously between frames (R1, R190). -/
def idleByte : Byte := 0x00

/-- The notice level of a 16-bit tally (R200). -/
def notice16 : BitVec 16 := 0xE000

/-- The notice level of a 32-bit tally (R200). -/
def notice32 : BitVec 32 := 0xE0000000

/-- Body bytes one report frame carries (section 11.2). -/
def segmentBytes : Nat := 253

/-- The part revision of the part the manual describes (R188). -/
def partRevision : Byte := 1

/-- FREE VALUE. What an item, bundle or brick number counter holds after its largest 32-bit value: the manual gives the
width (R21, R88, R119) and says "increases by one", and does not say what follows 4,294,967,295.
DESIGN CHOICE (notes/assumptions/11.md): nothing is known of it. The argument is a plain counter, so each use is a fresh value. -/
opaque numberPastLast : Nat → Word

end Sys2Proof.Config
end

