-- ==== Sys2Proof/Syntax.lean ====
section
/-! DEFINITION. The commands of the part: one constructor of `Instr` for each row of spec/opcode_table.json. -/

namespace Sys2Proof

/-- The class of a note, as the reader head gives it (section 11.1). -/
inductive NoteClass where
  | genuine | suspect | unrecognised | multiple
deriving DecidableEq, Repr

/-- A NOTE record (section 2.1, section 11.3). Denomination and series are present together (bit 5 of byte 1). -/
structure NoteRecord where
  /-- edge sequence -/
  seq : Byte
  /-- class -/
  cls : NoteClass
  /-- denomination and series, when present -/
  code : Option (Denom × Series)
  /-- fitness, 0 to 3 -/
  fitness : Fin 4
  /-- orientation, 0 to 3 -/
  orientation : Fin 4
  /-- serial, when present -/
  serial : Option Serial
deriving DecidableEq, Repr

/-- A SEPARATOR record (section 2.1, section 11.3). -/
structure SeparatorRecord where
  /-- edge sequence -/
  seq : Byte
  /-- deposit id -/
  depositId : Word
  /-- parent deposit id, when present -/
  parent : Option Word
  /-- deposit kind, 0 to 3 -/
  kind : Fin 4
  /-- end flag -/
  endFlag : Bool
deriving DecidableEq, Repr

/-- The argument bytes of ROUTE_WRITE after the object index, as section 11.3 lays them out. -/
structure RouteArgs where
  /-- class set, bits 3 to 0 -/
  classSet : Byte
  /-- denomination value -/
  denomValue : Byte
  /-- denomination mask -/
  denomMask : Byte
  /-- series: bits 6 to 4 value, bits 2 to 0 mask -/
  series : Byte
  /-- fitness set in bits 7 to 4, orientation set in bits 3 to 0 -/
  fitOrient : Byte
  /-- deposit kind set, bits 3 to 0 -/
  kindSet : Byte
  /-- target: bits 7 and 6 the type, bits 5 to 0 the group -/
  target : Byte
  /-- priority class -/
  priority : Byte
  /-- options: bit 0 quota present, bit 1 trace flag -/
  options : Byte
  /-- quota preset -/
  quota : Half
deriving DecidableEq, Repr

/-- The values of SET_GEOMETRY and of the geometry it replaces (R123, R124). -/
structure Geometry where
  /-- D(0) to D(15): `d[p]` is the distance from the read point to pocket p -/
  d : Vector Half 16
  /-- how far ahead of a note its gate opens -/
  lead : Byte
  /-- how far behind a note its gate closes -/
  lag : Byte
  /-- the margin on each side of an arrival window -/
  tol : Byte
  /-- the distance an edge may travel before its record is taken -/
  admitLimit : Half
deriving DecidableEq, Repr

/-- The commands: the steps of spec/opcode_table.json, one constructor a row. A control request carries its tag and its
arguments as the record carries them (section 11.3); a group parameter's identifier names the group. -/
inductive Instr where
  | feedByte (b : Byte) (faulted : Bool)
  | noteRecord (r : NoteRecord)
  | separatorRecord (r : SeparatorRecord)
  | controlFormatRefusal (tag code : Byte) (args : List Byte)
  | setParamLengthMin (tag : Byte) (value : Word)
  | setParamLengthMax (tag : Byte) (value : Word)
  | setParamRequireDeposit (tag : Byte) (value : Word)
  | setParamQuarantinePocket (tag : Byte) (value : Word)
  | setParamQuarantineLimit (tag : Byte) (value : Word)
  | setParamGapMin (tag : Byte) (value : Word)
  | setParamStallTime (tag : Byte) (value : Word)
  | setParamStartTime (tag : Byte) (value : Word)
  | setParamTraceAll (tag : Byte) (value : Word)
  | setParamTraceRejects (tag : Byte) (value : Word)
  | setParamNoticeMask (tag : Byte) (value : Word)
  | setParamStrapPreset (tag : Byte) (g : GroupNo) (value : Word)
  | setParamDenominationPurity (tag : Byte) (g : GroupNo) (value : Word)
  | setParamDepositPurity (tag : Byte) (g : GroupNo) (value : Word)
  | setParamBrickSize (tag : Byte) (g : GroupNo) (value : Word)
  | setParamLowThreshold (tag : Byte) (g : GroupNo) (value : Word)
  | setParamOverflowAction (tag : Byte) (g : GroupNo) (value : Word)
  | setGeometry (tag : Byte) (geo : Geometry)
  | sync (tag next : Byte)
  | routeWrite (tag index : Byte) (a : RouteArgs)
  | routeLink (tag index list position : Byte)
  | routeUnlink (tag index : Byte)
  | routeSwap (tag : Byte)
  | watchAdd (tag denom : Byte) (caseRef : Word) (serial : List Byte)
  | watchRemove (tag denom : Byte) (serial : List Byte)
  | watchClear (tag : Byte)
  | groupDefine (tag group : Byte) (pockets : List Byte)
  | groupFlush (tag group : Byte)
  | pocketEnable (tag pocket setting : Byte)
  | quarantineRelease (tag : Byte)
  | declare (tag : Byte) (id : Word) (lines : List (Byte × Half))
  | declareCancel (tag : Byte) (id : Word)
  | lineStart (tag : Byte)
  | lineStop (tag : Byte)
  | lineHalt (tag : Byte)
  | lineResume (tag : Byte)
  | recover (tag next : Byte)
  | lineReset (tag : Byte)
  | statusRead (tag : Byte)
  | tallyRead (tag group clear : Byte)
  | encEdge
  | admissionDeadline
  | divertWindowOpen
  | divertWindowClose
  | arrivalWindowEnd
  | stallTimerExpiry
  | leadingEdge
  | trailingEdge
  | arrivalPulse (p : Fin 16)
  | pocketCleared (p : Fin 16)
  | operatorStop
  | hardReset
  | idleByteSent (rdyIn : Bool)
  | frameStart
  | frameSent
deriving DecidableEq, Repr

end Sys2Proof
end

