-- ==== Sys2Proof/Decode.lean ====
section
/-! DEFINITION. The bits of a byte on the two serial links (R1, R190), and the record payloads of the Feed link (section 11.3): their
decoder and encoder, with the record checks of R10 and the format check of R202. No row of spec/opcode_table.json gives bits, so `decodeTableWord` answers none. -/

namespace Sys2Proof

/-- The command a table word spells: the table gives bits to no row. -/
def decodeTableWord (_nbits _w : Nat) : Option Instr := none

/-! ### Bytes on a serial link (R1, R190) -/

/-- The levels of one byte, one a bit time: a low start bit, the data bits least significant first, a high stop bit. -/
def byteLevels (b : Byte) : List Bool := false :: (List.range 8).map b.getLsbD ++ [true]

/-- The levels of bytes sent one after another. -/
def lineLevels (bytes : List Byte) : List Bool := bytes.flatMap byteLevels

/-- The byte event that the ten levels of a byte on FEED_RX are: the data bits, and a fault where the stop bit is low (R1). -/
def feedCommand (levels : List Bool) : Instr :=
  .feedByte (BitVec.ofNat 8 (((levels.drop 1).take 8).foldr (fun bit n => 2 * n + bit.toNat) 0)) (!levels.getD 9 true)

/-! ### Multi-byte values, most significant byte first (section 11.1) -/

/-- Two bytes as one value. -/
def be16 (h l : Byte) : Half := (h ++ l : BitVec 16)

/-- Four bytes as one value. -/
def be32 (a b c d : Byte) : Word := (a ++ b ++ c ++ d : BitVec 32)

/-- A 16-bit value as two bytes. -/
def bytes16 (w : Half) : List Byte := [w.extractLsb' 8 8, w.extractLsb' 0 8]

/-- A position as three bytes. -/
def bytes24 (w : Pos) : List Byte := [w.extractLsb' 16 8, w.extractLsb' 8 8, w.extractLsb' 0 8]

/-- A 32-bit value as four bytes. -/
def bytes32 (w : Word) : List Byte :=
  [w.extractLsb' 24 8, w.extractLsb' 16 8, w.extractLsb' 8 8, w.extractLsb' 0 8]

/-- The serial character set (R203): digits and capital letters. -/
def serialChar (b : Byte) : Bool :=
  (0x30 ≤ b.toNat && b.toNat ≤ 0x39) || (0x41 ≤ b.toNat && b.toNat ≤ 0x5A)

/-! ### NOTE records -/

/-- The class of a two-bit code (section 11.1). -/
def NoteClass.ofCode : BitVec 2 → NoteClass
  | 0 => .genuine
  | 1 => .suspect
  | 2 => .unrecognised
  | 3 => .multiple

/-- The two-bit code of a class (section 11.1). -/
def NoteClass.code : NoteClass → BitVec 2
  | .genuine => 0
  | .suspect => 1
  | .unrecognised => 2
  | .multiple => 3

/-- Whether a class comes with a denomination and a series (R10). -/
def NoteClass.coded : NoteClass → Bool
  | .genuine | .suspect => true
  | .unrecognised | .multiple => false

/-- A NOTE payload as a record, or none where the record check of R10 fails (section 11.3). -/
def parseNote : List Byte → Option NoteRecord
  | seq :: b1 :: b2 :: n :: chars =>
    let cls := NoteClass.ofCode (b1.extractLsb' 6 2)
    if chars.length = n.toNat
        && (n.toNat == 0 || (4 ≤ n.toNat && n.toNat ≤ 12 && chars.all serialChar))
        && (b1.getLsbD 5 == cls.coded) then
      some { seq := seq, cls := cls
             code := if b1.getLsbD 5 then some (b2.extractLsb' 0 5, b2.extractLsb' 5 3) else none
             fitness := (b1.extractLsb' 3 2).toFin, orientation := (b1.extractLsb' 1 2).toFin
             serial := if n.toNat == 0 then none else some chars }
    else none
  | _ => none

/-- The payload of a NOTE record; byte 2 is sent as 0 when it is not read, and the ignored bit as 0. -/
def encodeNote (r : NoteRecord) : List Byte :=
  let b1 : Byte := r.cls.code ++ BitVec.ofBool r.code.isSome ++ BitVec.ofFin (w := 2) r.fitness
    ++ BitVec.ofFin (w := 2) r.orientation ++ (0#1)
  let b2 : Byte := match r.code with
    | some (d, s) => s ++ d
    | none => 0
  let chars := r.serial.getD []
  r.seq :: b1 :: b2 :: BitVec.ofNat 8 chars.length :: chars

/-! ### SEPARATOR records -/

/-- A SEPARATOR payload as a record, or none where its length disagrees with its parent-present bit (R10, section 11.3). -/
def parseSeparator : List Byte → Option SeparatorRecord
  | [seq, i3, i2, i1, i0, b5] =>
    if b5.getLsbD 4 then none
    else some { seq := seq, depositId := be32 i3 i2 i1 i0, parent := none
                kind := (b5.extractLsb' 6 2).toFin, endFlag := b5.getLsbD 5 }
  | [seq, i3, i2, i1, i0, b5, p3, p2, p1, p0] =>
    if b5.getLsbD 4 then
      some { seq := seq, depositId := be32 i3 i2 i1 i0, parent := some (be32 p3 p2 p1 p0)
             kind := (b5.extractLsb' 6 2).toFin, endFlag := b5.getLsbD 5 }
    else none
  | _ => none

/-- The payload of a SEPARATOR record. -/
def encodeSeparator (r : SeparatorRecord) : List Byte :=
  let b5 : Byte := BitVec.ofFin (w := 2) r.kind ++ BitVec.ofBool r.endFlag ++ BitVec.ofBool r.parent.isSome ++ (0#4)
  let parent := match r.parent with
    | some p => bytes32 p
    | none => []
  r.seq :: bytes32 r.depositId ++ b5 :: parent

/-! ### CONTROL records -/

/-- The request a SET_PARAM identifier names, or none where it is not in the parameter table (section 11.6, R13). -/
def parseParam (tag id : Byte) (v : Word) : Option Instr :=
  let g : GroupNo := (id.extractLsb' 0 3).toFin
  match (id.extractLsb' 3 5).toNat with
  | 0 =>
    match id.toNat with
    | 1 => some (.setParamLengthMin tag v)
    | 2 => some (.setParamLengthMax tag v)
    | 3 => some (.setParamRequireDeposit tag v)
    | 4 => some (.setParamQuarantinePocket tag v)
    | 5 => some (.setParamQuarantineLimit tag v)
    | 6 => some (.setParamGapMin tag v)
    | 7 => some (.setParamStallTime tag v)
    | _ => none
  | 1 =>
    match id.toNat with
    | 8 => some (.setParamStartTime tag v)
    | 9 => some (.setParamTraceAll tag v)
    | 10 => some (.setParamTraceRejects tag v)
    | 11 => some (.setParamNoticeMask tag v)
    | _ => none
  | 4 => some (.setParamStrapPreset tag g v)
  | 5 => some (.setParamDenominationPurity tag g v)
  | 6 => some (.setParamDepositPurity tag g v)
  | 7 => some (.setParamBrickSize tag g v)
  | 8 => some (.setParamLowThreshold tag g v)
  | 9 => some (.setParamOverflowAction tag g v)
  | _ => none

/-- The sixteen distances and four margins of a SET_GEOMETRY, from its 37 argument bytes. -/
def parseGeometry (args : List Byte) : Geometry where
  d := Vector.ofFn fun p => be16 (args.getD (2 * p.val) 0) (args.getD (2 * p.val + 1) 0)
  lead := args.getD 32 0
  lag := args.getD 33 0
  tol := args.getD 34 0
  admitLimit := be16 (args.getD 35 0) (args.getD 36 0)

/-- Declaration lines, three bytes each: denomination and declared count. -/
def parseLines : List Byte → Option (List (Byte × Half))
  | [] => some []
  | d :: h :: l :: rest => (parseLines rest).map ((d, be16 h l) :: ·)
  | _ => none

/-- A declaration's lines when they are as many as its count says. -/
def parseCounted (n : Byte) (rest : List Byte) : Option (List (Byte × Half)) :=
  (parseLines rest).filter fun ls => ls.length == n.toNat

/-- The request of a request code and its argument bytes, or none where the format check of R13 and R202 fails. -/
def parseRequest (tag code : Byte) (args : List Byte) : Option Instr :=
  match code.toNat, args with
  | 0x01, [id, a, b, c, d] => parseParam tag id (be32 a b c d)
  | 0x02, _ => if args.length = 37 then some (.setGeometry tag (parseGeometry args)) else none
  | 0x03, [next] => some (.sync tag next)
  | 0x10, [i, cs, dv, dm, se, fo, ks, ta, pr, op, q1, q0] =>
    some (.routeWrite tag i ⟨cs, dv, dm, se, fo, ks, ta, pr, op, be16 q1 q0⟩)
  | 0x11, [i, l, p] => some (.routeLink tag i l p)
  | 0x12, [i] => some (.routeUnlink tag i)
  | 0x13, [] => some (.routeSwap tag)
  | 0x20, d :: c3 :: c2 :: c1 :: c0 :: n :: chars =>
    if chars.length = n.toNat && chars.all serialChar then some (.watchAdd tag d (be32 c3 c2 c1 c0) chars) else none
  | 0x21, d :: n :: chars =>
    if chars.length = n.toNat && chars.all serialChar then some (.watchRemove tag d chars) else none
  | 0x22, [] => some (.watchClear tag)
  | 0x30, g :: n :: ps => if ps.length = n.toNat then some (.groupDefine tag g ps) else none
  | 0x31, [g] => some (.groupFlush tag g)
  | 0x32, [p, s] => some (.pocketEnable tag p s)
  | 0x38, [] => some (.quarantineRelease tag)
  | 0x40, i3 :: i2 :: i1 :: i0 :: n :: rest => (parseCounted n rest).map (.declare tag (be32 i3 i2 i1 i0))
  | 0x41, [i3, i2, i1, i0] => some (.declareCancel tag (be32 i3 i2 i1 i0))
  | 0x50, [] => some (.lineStart tag)
  | 0x51, [] => some (.lineStop tag)
  | 0x52, [] => some (.lineHalt tag)
  | 0x53, [] => some (.lineResume tag)
  | 0x54, [next] => some (.recover tag next)
  | 0x55, [] => some (.lineReset tag)
  | 0x60, [] => some (.statusRead tag)
  | 0x61, [g, c] => some (.tallyRead tag g c)
  | _, _ => none

/-- The command a CONTROL payload carries: its request, or CONTROL_FORMAT_REFUSAL where the format check fails (R13). -/
def parseControl : List Byte → Option Instr
  | tag :: code :: args => some ((parseRequest tag code args).getD (.controlFormatRefusal tag code args))
  | _ => none

/-- The payload of a SET_PARAM record. -/
def encodeParam (tag : Byte) (id : Nat) (v : Word) : List Byte :=
  tag :: 0x01 :: BitVec.ofNat 8 id :: bytes32 v

/-- The argument bytes of a SET_GEOMETRY. -/
def encodeGeometry (a : Geometry) : List Byte :=
  a.d.toList.flatMap bytes16 ++ [a.lead, a.lag, a.tol] ++ bytes16 a.admitLimit

/-- The payload of a control request (section 11.3), or none for a command that is no CONTROL record. -/
def encodeControl : Instr → Option (List Byte)
  | .controlFormatRefusal tag code args => some (tag :: code :: args)
  | .setParamLengthMin tag v => some (encodeParam tag 1 v)
  | .setParamLengthMax tag v => some (encodeParam tag 2 v)
  | .setParamRequireDeposit tag v => some (encodeParam tag 3 v)
  | .setParamQuarantinePocket tag v => some (encodeParam tag 4 v)
  | .setParamQuarantineLimit tag v => some (encodeParam tag 5 v)
  | .setParamGapMin tag v => some (encodeParam tag 6 v)
  | .setParamStallTime tag v => some (encodeParam tag 7 v)
  | .setParamStartTime tag v => some (encodeParam tag 8 v)
  | .setParamTraceAll tag v => some (encodeParam tag 9 v)
  | .setParamTraceRejects tag v => some (encodeParam tag 10 v)
  | .setParamNoticeMask tag v => some (encodeParam tag 11 v)
  | .setParamStrapPreset tag g v => some (encodeParam tag (0x20 + g.val) v)
  | .setParamDenominationPurity tag g v => some (encodeParam tag (0x28 + g.val) v)
  | .setParamDepositPurity tag g v => some (encodeParam tag (0x30 + g.val) v)
  | .setParamBrickSize tag g v => some (encodeParam tag (0x38 + g.val) v)
  | .setParamLowThreshold tag g v => some (encodeParam tag (0x40 + g.val) v)
  | .setParamOverflowAction tag g v => some (encodeParam tag (0x48 + g.val) v)
  | .setGeometry tag a => some (tag :: 0x02 :: encodeGeometry a)
  | .sync tag next => some [tag, 0x03, next]
  | .routeWrite tag i a => some ([tag, 0x10, i, a.classSet, a.denomValue, a.denomMask, a.series, a.fitOrient, a.kindSet,
      a.target, a.priority, a.options] ++ bytes16 a.quota)
  | .routeLink tag i l p => some [tag, 0x11, i, l, p]
  | .routeUnlink tag i => some [tag, 0x12, i]
  | .routeSwap tag => some [tag, 0x13]
  | .watchAdd tag d c chars => some (tag :: 0x20 :: d :: bytes32 c ++ BitVec.ofNat 8 chars.length :: chars)
  | .watchRemove tag d chars => some (tag :: 0x21 :: d :: BitVec.ofNat 8 chars.length :: chars)
  | .watchClear tag => some [tag, 0x22]
  | .groupDefine tag g ps => some (tag :: 0x30 :: g :: BitVec.ofNat 8 ps.length :: ps)
  | .groupFlush tag g => some [tag, 0x31, g]
  | .pocketEnable tag p s => some [tag, 0x32, p, s]
  | .quarantineRelease tag => some [tag, 0x38]
  | .declare tag id ls => some (tag :: 0x40 :: bytes32 id ++ BitVec.ofNat 8 ls.length :: ls.flatMap fun l => l.1 :: bytes16 l.2)
  | .declareCancel tag id => some (tag :: 0x41 :: bytes32 id)
  | .lineStart tag => some [tag, 0x50]
  | .lineStop tag => some [tag, 0x51]
  | .lineHalt tag => some [tag, 0x52]
  | .lineResume tag => some [tag, 0x53]
  | .recover tag next => some [tag, 0x54, next]
  | .lineReset tag => some [tag, 0x55]
  | .statusRead tag => some [tag, 0x60]
  | .tallyRead tag g c => some [tag, 0x61, g, c]
  | .feedByte _ _ | .noteRecord _ | .separatorRecord _ | .encEdge | .admissionDeadline | .divertWindowOpen
  | .divertWindowClose | .arrivalWindowEnd | .stallTimerExpiry | .leadingEdge | .trailingEdge | .arrivalPulse _
  | .pocketCleared _ | .operatorStop | .hardReset | .idleByteSent _ | .frameStart | .frameSent => none

end Sys2Proof
end

