-- ==== Sys2Proof/WellFormed.lean ====
section
/-! DEFINITION. The commands the part can be given: records that passed the receiver's checks (R10, R13) and fit a frame (R2). -/

namespace Sys2Proof

/-- A NOTE record that passes the record check of R10. -/
def NoteRecord.wf (r : NoteRecord) : Bool :=
  r.code.isSome == r.cls.coded
    && match r.serial with
      | some chars => 4 ≤ chars.length && chars.length ≤ 12 && chars.all serialChar
      | none => true

/-- A command the part can be given. A control request has passed the format check and fits the 60 payload bytes of a
CONTROL frame (R2, R202); a CONTROL_FORMAT_REFUSAL names a record that has not passed it. -/
def Instr.wf : Instr → Bool
  | .noteRecord r => r.wf
  | .controlFormatRefusal tag code args => args.length ≤ 58 && (parseRequest tag code args).isNone
  | .watchAdd _ _ _ chars => chars.length ≤ 52 && chars.all serialChar
  | .watchRemove _ _ chars => chars.length ≤ 56 && chars.all serialChar
  | .groupDefine _ _ ps => ps.length ≤ 56
  | .declare _ _ ls => ls.length ≤ 17
  | .feedByte _ _ | .separatorRecord _ | .setParamLengthMin _ _ | .setParamLengthMax _ _ | .setParamRequireDeposit _ _
  | .setParamQuarantinePocket _ _ | .setParamQuarantineLimit _ _ | .setParamGapMin _ _ | .setParamStallTime _ _
  | .setParamStartTime _ _ | .setParamTraceAll _ _ | .setParamTraceRejects _ _ | .setParamNoticeMask _ _
  | .setParamStrapPreset _ _ _ | .setParamDenominationPurity _ _ _ | .setParamDepositPurity _ _ _ | .setParamBrickSize _ _ _
  | .setParamLowThreshold _ _ _ | .setParamOverflowAction _ _ _ | .setGeometry _ _ | .sync _ _ | .routeWrite _ _ _
  | .routeLink _ _ _ _ | .routeUnlink _ _ | .routeSwap _ | .watchClear _ | .groupFlush _ _ | .pocketEnable _ _ _
  | .quarantineRelease _ | .declareCancel _ _ | .lineStart _ | .lineStop _ | .lineHalt _ | .lineResume _ | .recover _ _
  | .lineReset _ | .statusRead _ | .tallyRead _ _ _ | .encEdge | .admissionDeadline | .divertWindowOpen | .divertWindowClose
  | .arrivalWindowEnd | .stallTimerExpiry | .leadingEdge | .trailingEdge | .arrivalPulse _ | .pocketCleared _ | .operatorStop
  | .hardReset | .idleByteSent _ | .frameStart | .frameSent => true

end Sys2Proof
end

