-- ==== Sys2Proof/Machine/State.lean ====
section
/-! DEFINITION. The state of the part, block by block (section 3), its reports, its reset values, and what can stop a step. -/

namespace Sys2Proof.Machine

/-! ### Names (section 11.1) -/

/-- Line states (R167). -/
inductive LineState where
  | idle | run | drain | halt | jammed
deriving DecidableEq, Repr

/-- Resume targets (R169). -/
inductive Resume where
  | run | drain
deriving DecidableEq, Repr

/-- Causes of the cause set (R170). -/
inductive Cause where
  | operator | command | quarantineFull | backlog | depositFull
  | groupFull (g : GroupNo)
deriving DecidableEq, Repr

/-- Jam causes with the item or pocket they concern (R181). -/
inductive JamCause where
  | missing (item : Word)
  | stray (p : Fin 16)
  | trackFull (item : Word)
  | stall
deriving DecidableEq, Repr

/-- What a LINE report names as its cause (R168). -/
inductive LineCause where
  | condition (c : Cause)
  | jam (j : JamCause)
deriving DecidableEq, Repr

/-- Triggers of a LINE report (R168). -/
inductive Trigger where
  | lineStart | lineStop | lineHalt | operator | condition | lineResume | drainEnd | jam | recover | lineReset
deriving DecidableEq, Repr

/-- Reasons of a refused request (R16). -/
inductive RefusalReason where
  | format | range | state | full | duplicate | notFound | pending | causes
deriving DecidableEq, Repr

/-- Item kinds (R28). -/
inductive ItemKind where
  | note | card | unread
deriving DecidableEq, Repr

/-- Disposition reasons (section 11.1). -/
inductive Reason where
  | placed | watch | routed | length | pitch | noDeposit | watchUnheld | noRoute | noSpace | late | card | unread
  | lateRecord | pitchShadowed
deriving DecidableEq, Repr

/-- Close kinds of an item that a TRACE report can carry (R140, R142); DISCARDED closes queue no report. -/
inductive ItemClose where
  | confirmed | shadowed | lost
deriving DecidableEq, Repr

/-- Pocket states (R79). -/
inductive PocketState where
  | unassigned | openState | closing | full
deriving DecidableEq, Repr

/-- The closing kind of a bundle (R78). -/
inductive ClosingKind where
  | full | odd
deriving DecidableEq, Repr

/-- Close kinds of a bundle (R87). -/
inductive BundleClose where
  | full | odd | removedEarly | partialRemoved
deriving DecidableEq, Repr

/-- What a bundle's denomination can be (R78, R82). -/
inductive BundleDenom where
  | code (d : Denom)
  | uncoded
  | mixed
deriving DecidableEq, Repr

/-- A deposit id, or NONE (R78). -/
inductive DepositKey where
  | none
  | id (w : Word)
deriving DecidableEq, Repr

/-- Where an item goes: the run-out pocket 0, or a gated pocket (section 5.3). -/
inductive Dest where
  | runOut
  | gated (g : Gate)
deriving DecidableEq, Repr

/-- Targets of a route object (R39). -/
inductive Target where
  | group (g : GroupNo)
  | quarantine
  | runOut
deriving DecidableEq, Repr

/-- Overflow actions of a group (R106). -/
inductive Overflow where
  | runOut | halt
deriving DecidableEq, Repr

/-- States of a held deposit (R147). -/
inductive DepositState where
  | openState | closing
deriving DecidableEq, Repr

/-- Results of a deposit (R163). -/
inductive DepositResult where
  | balanced | difference | undeclared | incomplete
deriving DecidableEq, Repr

/-- The tallies of the RUNOUT, EVENTS and OUTPUT groups, in the order of the table of R197. -/
inductive EventTally where
  | noRoute | noSpace | late | pitch | pitchShadowed | length | unread | lateRecord | noDeposit | watchUnheld | routed
  | feedErrors | slips | strayRecords | strayArrivals | clearIgnored | depositRepeat | watchHits | watchFalse
  | traceDropped | reportsLost | bundles | bricks | jams | discarded
deriving DecidableEq, Repr

/-- The 57 tallies (R197). -/
inductive Tally where
  | accepted (d : Denom)
  | event (t : EventTally)
deriving DecidableEq, Repr

/-- Tally groups of TALLY_READ (R199). -/
inductive TallyGroup where
  | accepted | runOut | events | output | all
deriving DecidableEq, Repr

/-! ### Records the blocks hold -/

/-- Kinds of Feed frame (section 11.2). -/
inductive FeedKind where
  | note | separator | control
deriving DecidableEq, Repr

/-- The frame in assembly (R4, R6). Each part is absent until its byte has been taken. -/
structure Frame where
  /-- kind -/
  kind : Option FeedKind
  /-- declared length -/
  length : Option Byte
  /-- payload bytes taken so far, in order -/
  payload : List Byte
  /-- CRC register -/
  crc : Half
  /-- first check byte -/
  check : Option Byte
deriving DecidableEq, Repr

/-- The receiver state, with the frame that exists only in RECEIVING and the run that has a meaning only in HUNT (R4). -/
inductive Receiver where
  | wait
  | receiving (f : Frame)
  | hunt (run : Nat)
deriving DecidableEq, Repr

/-- A held edge (R23). Its length is the distance from its leading to its trailing position. -/
structure HeldEdge where
  /-- item number -/
  item : Word
  /-- edge sequence -/
  seq : Byte
  /-- leading position -/
  lead : Pos
  /-- trailing position, absent until the trailing edge is taken -/
  trail : Option Pos
  /-- gap, absent as R27 states -/
  gap : Option Nat
  /-- deadline -/
  deadline : Pos
deriving DecidableEq, Repr

/-- A route object (R39). -/
structure RouteObject where
  /-- class set: bit 0 GENUINE to bit 3 MULTIPLE -/
  classSet : BitVec 4
  /-- denomination value -/
  denomValue : Denom
  /-- denomination mask -/
  denomMask : Denom
  /-- series value -/
  seriesValue : Series
  /-- series mask -/
  seriesMask : Series
  /-- fitness set -/
  fitnessSet : BitVec 4
  /-- orientation set -/
  orientSet : BitVec 4
  /-- deposit kind set -/
  kindSet : BitVec 4
  /-- target -/
  target : Target
  /-- priority class, 0 the most urgent -/
  priority : Nat
  /-- quota preset, when there is one -/
  preset : Option Nat
  /-- quota remaining -/
  remaining : Nat
  /-- spent flag -/
  spent : Bool
  /-- trace flag -/
  trace : Bool
deriving DecidableEq, Repr

/-- A watch-list entry (R65). -/
structure WatchEntry where
  /-- serial -/
  serial : Serial
  /-- denomination, absent for every denomination -/
  denom : Option Denom
  /-- case reference -/
  caseRef : Word
deriving DecidableEq, Repr

/-- A gated-pocket record (R78). -/
structure PocketRec where
  /-- state -/
  state : PocketState
  /-- target in force, absent while the bundle is empty -/
  target : Option Nat
  /-- committed count -/
  committed : Nat
  /-- confirmed count -/
  confirmed : Nat
  /-- bundle denomination -/
  denom : Option BundleDenom
  /-- bundle deposit, in a deposit-pure bundle -/
  deposit : Option DepositKey
  /-- deposit-pure -/
  depositPure : Bool
  /-- closing kind -/
  closing : ClosingKind
  /-- contribution list, in first-seen order -/
  contributions : List (DepositKey × Nat)
  /-- RECOUNT flag -/
  recount : Bool
  /-- MANY_DEPOSITS flag -/
  manyDeposits : Bool
  /-- CARRIED flag -/
  carried : Bool
  /-- late mark -/
  lateMark : Bool
  /-- enabled for placement -/
  enabled : Bool
deriving DecidableEq, Repr

/-- An entry of the quarantine manifest (R97). -/
structure ManifestEntry where
  /-- item number -/
  item : Word
  /-- deposit id -/
  depositId : Option Word
  /-- denomination -/
  denom : Option Denom
  /-- serial -/
  serial : Option Serial
  /-- case reference -/
  caseRef : Option Word
  /-- WATCH or ROUTED -/
  reason : Reason
deriving DecidableEq, Repr

/-- A group record (R106). -/
structure GroupRec where
  /-- member list, in rotation order -/
  members : List Gate
  /-- current member -/
  current : Option Gate
  /-- denomination purity -/
  denomPure : Bool
  /-- deposit purity -/
  depositPure : Bool
  /-- strap preset -/
  strap : Nat
  /-- brick size -/
  brickSize : Nat
  /-- low threshold -/
  lowThreshold : Nat
  /-- overflow action -/
  overflow : Overflow
  /-- low-warning arm -/
  armed : Bool
deriving DecidableEq, Repr

/-- A brick accumulator in use (R117). -/
structure Accumulator where
  /-- key: group -/
  group : GroupNo
  /-- key: denomination code -/
  denom : Denom
  /-- bundle numbers gathered, in close order -/
  bundles : List Word
  /-- note total -/
  total : Nat
  /-- RECOUNT -/
  recount : Bool
  /-- MANY_DEPOSITS -/
  manyDeposits : Bool
  /-- CARRIED -/
  carried : Bool
deriving DecidableEq, Repr

/-- A span of positions (R128). -/
structure Window where
  /-- first position -/
  first : Pos
  /-- last position -/
  last : Pos
deriving DecidableEq, Repr

/-- A divert window with its flags (R126, R131). -/
structure DivertWindow where
  /-- open position -/
  opens : Pos
  /-- close position -/
  closes : Pos
  /-- opened flag -/
  opened : Bool
  /-- closed flag -/
  closed : Bool
deriving DecidableEq, Repr

/-- A shadow pocket with its shadow window (R126, R132). -/
structure Shadow where
  /-- shadow pocket -/
  pocket : Gate
  /-- shadow window -/
  window : Window
deriving DecidableEq, Repr

/-- A Track Queue entry (R126). -/
structure Entry where
  /-- item number -/
  item : Word
  /-- edge sequence -/
  seq : Byte
  /-- kind -/
  kind : ItemKind
  /-- class -/
  cls : Option NoteClass
  /-- denomination -/
  denom : Option Denom
  /-- serial -/
  serial : Option Serial
  /-- deposit slot -/
  slot : Option SlotNo
  /-- leading position -/
  lead : Pos
  /-- length -/
  length : Option Nat
  /-- gap -/
  gap : Option Nat
  /-- destination -/
  dest : Dest
  /-- reason -/
  reason : Reason
  /-- route object -/
  route : Option ObjectNo
  /-- case reference -/
  caseRef : Option Word
  /-- late-record mark -/
  lateMark : Bool
  /-- shadow pocket and window -/
  shadow : Option Shadow
  /-- divert window, present when the destination is gated -/
  divert : Option DivertWindow
  /-- arrival window -/
  arrival : Window
  /-- trace flag -/
  trace : Bool
deriving DecidableEq, Repr

/-- A loss record of the RECOVERY report: the fields of R143 and R186. -/
structure LossLine where
  /-- item number -/
  item : Word
  /-- kind -/
  kind : ItemKind
  /-- deposit id -/
  depositId : Option Word
  /-- destination -/
  dest : Dest
  /-- denomination -/
  denom : Option Denom
deriving DecidableEq, Repr

/-- A record of the Loss List: the fields of R143, and the case reference the lost item carried (R77). -/
structure LossRecord where
  /-- item number -/
  item : Word
  /-- kind -/
  kind : ItemKind
  /-- deposit id -/
  depositId : Option Word
  /-- destination -/
  dest : Dest
  /-- denomination -/
  denom : Option Denom
  /-- case reference -/
  caseRef : Option Word
deriving DecidableEq, Repr

/-- A deposit context (R147) with the slot it holds (R148). -/
structure Deposit where
  /-- slot -/
  slot : SlotNo
  /-- deposit id -/
  id : Word
  /-- parent id -/
  parent : Option Word
  /-- kind -/
  kind : Fin 4
  /-- state -/
  state : DepositState
  /-- the item number of the card that opened the deposit -/
  cardItem : Word
  /-- accepted counts: index d for code d, index 32 for UNCODED; a count of 0 is no line -/
  accepted : Vector Nat 33
  /-- run-out counts in the order of R147 -/
  runOut : Vector Nat 10
  /-- cards -/
  cards : Nat
  /-- quarantine count -/
  quarantine : Nat
  /-- watch hits -/
  watchHits : Nat
  /-- lost count -/
  lost : Nat
  /-- in-flight count -/
  inFlight : Nat
  /-- item count -/
  itemCount : Nat
  /-- first item -/
  firstItem : Option Word
  /-- last item -/
  lastItem : Option Word
  /-- BOUNDARY_LOST -/
  boundaryLost : Bool
deriving DecidableEq, Repr

/-- A Declaration Table entry (R150). -/
structure Declaration where
  /-- deposit id -/
  id : Word
  /-- lines: denomination and declared count -/
  lines : List (Denom × Nat)
  /-- bound -/
  bound : Bool
deriving DecidableEq, Repr

/-- The cause set (R170): each cause held or not. -/
structure CauseSet where
  /-- OPERATOR -/
  operator : Bool
  /-- COMMAND -/
  command : Bool
  /-- QUARANTINE_FULL -/
  quarantineFull : Bool
  /-- BACKLOG -/
  backlog : Bool
  /-- DEPOSIT_FULL -/
  depositFull : Bool
  /-- GROUP_FULL(0) to GROUP_FULL(7) -/
  groupFull : Vector Bool 8
deriving DecidableEq, Repr

/-! ### Reports (section 10.3): the fields each rule gives -/

/-- The summary of a LINE_RESET answer (R187). -/
structure ResetSummary where
  /-- items discarded -/
  items : Nat
  /-- loss records discarded -/
  losses : Nat
  /-- bundles discarded -/
  bundles : Nat
  /-- notes in discarded bundles -/
  notes : Nat
  /-- run-out count discarded -/
  runOut : Nat
  /-- deposits discarded -/
  deposits : Nat
  /-- declarations removed -/
  declarations : Nat
deriving DecidableEq, Repr

/-- The detail of an answer (section 11.5). -/
inductive Detail where
  | none
  | entries (n : Nat)
  | slot (k : Option SlotNo)
  | flush (members bricks : Nat)
  | reset (r : ResetSummary)
  | causes (c : CauseSet)
deriving DecidableEq, Repr

/-- BUNDLE (R89). -/
structure BundleReport where
  /-- bundle number -/
  number : Word
  /-- group -/
  group : GroupNo
  /-- pocket -/
  pocket : Gate
  /-- denomination -/
  denom : Option BundleDenom
  /-- deposit, in a deposit-pure bundle -/
  deposit : Option DepositKey
  /-- contributions -/
  contributions : List (DepositKey × Nat)
  /-- count -/
  count : Nat
  /-- target -/
  target : Nat
  /-- close kind -/
  close : BundleClose
  /-- RECOUNT -/
  recount : Bool
  /-- MANY_DEPOSITS -/
  manyDeposits : Bool
  /-- CARRIED -/
  carried : Bool
  /-- UNBRICKED -/
  unbricked : Bool
deriving DecidableEq, Repr

/-- BRICK (R120). -/
structure BrickReport where
  /-- brick number -/
  number : Word
  /-- complete, or partial -/
  complete : Bool
  /-- group, denomination, bundles, note total and flags, as the accumulator held them -/
  acc : Accumulator
deriving DecidableEq, Repr

/-- A line of a DEPOSIT report (R164); the denomination is absent for UNCODED. -/
structure DepositLine where
  /-- denomination code, or none for UNCODED -/
  denom : Option Denom
  /-- accepted count -/
  accepted : Nat
  /-- declared count, absent when no declaration was bound -/
  declared : Option Nat
deriving DecidableEq, Repr

/-- DEPOSIT (R164). -/
structure DepositReport where
  /-- deposit id -/
  id : Word
  /-- parent id -/
  parent : Option Word
  /-- kind -/
  kind : Fin 4
  /-- result -/
  result : DepositResult
  /-- declared -/
  declared : Bool
  /-- lines -/
  lines : List DepositLine
  /-- run-out counts -/
  runOut : Vector Nat 10
  /-- cards -/
  cards : Nat
  /-- quarantine count -/
  quarantine : Nat
  /-- watch hits -/
  watchHits : Nat
  /-- lost count -/
  lost : Nat
  /-- item count -/
  itemCount : Nat
  /-- card item -/
  cardItem : Word
  /-- first item -/
  firstItem : Option Word
  /-- last item -/
  lastItem : Option Word
  /-- BOUNDARY_LOST -/
  boundaryLost : Bool
  /-- after recovery -/
  afterRecovery : Bool
deriving DecidableEq, Repr

/-- DEPOSIT_FAULT (R154). -/
structure DepositFaultReport where
  /-- NO_SLOT, or ID_IN_USE -/
  noSlot : Bool
  /-- separator deposit id -/
  separatorId : Word
  /-- parent id -/
  parent : Option Word
  /-- card item -/
  cardItem : Word
  /-- open deposit -/
  openDeposit : Option Word
  /-- for each slot, the id and state of its deposit, or none when free -/
  slots : List (Option (DepositState × Word))
deriving DecidableEq, Repr

/-- WATCH_HIT (R76); held exactly when the destination is the quarantine pocket. -/
structure WatchHitReport where
  /-- item number -/
  item : Word
  /-- deposit id -/
  depositId : Option Word
  /-- serial -/
  serial : Serial
  /-- denomination -/
  denom : Option Denom
  /-- case reference -/
  caseRef : Word
  /-- entry denomination -/
  entryDenom : Option Denom
  /-- held -/
  held : Bool
  /-- reason -/
  reason : Reason
  /-- pocket -/
  pocket : Dest
deriving DecidableEq, Repr

/-- QUARANTINE (R99). -/
structure QuarantineReport where
  /-- pocket -/
  pocket : Gate
  /-- RELEASED, or CLEARED -/
  released : Bool
  /-- count -/
  count : Nat
  /-- manifest -/
  manifest : List ManifestEntry
  /-- RECOUNT -/
  recount : Bool
  /-- limit -/
  limit : Nat
deriving DecidableEq, Repr

/-- GROUP_LOW (R113). -/
structure GroupLowReport where
  /-- group -/
  group : GroupNo
  /-- open count -/
  openCount : Nat
  /-- threshold -/
  threshold : Nat
  /-- members in rotation order: pocket, state, enabled flag -/
  members : List (Gate × PocketState × Bool)
  /-- item -/
  item : Option Word
deriving DecidableEq, Repr

/-- ROUTES (R52). -/
structure RoutesReport where
  /-- card item; present with cause BOUNDARY, absent with cause REQUEST -/
  cardItem : Option Word
  /-- deposit id -/
  depositId : Option Word
  /-- ACTIVE indices -/
  active : List ObjectNo
  /-- STANDBY indices -/
  standby : List ObjectNo
deriving DecidableEq, Repr

/-- LINE (R168). -/
structure LineReport where
  /-- from -/
  from_ : LineState
  /-- to -/
  to_ : LineState
  /-- trigger -/
  trigger : Trigger
  /-- cause -/
  cause : Option LineCause
  /-- cause set -/
  causes : CauseSet
  /-- resume target -/
  resume : Option Resume
  /-- position -/
  position : Pos
deriving DecidableEq, Repr

/-- JAM (R183). -/
structure JamReport where
  /-- cause, with its item or pocket -/
  cause : JamCause
  /-- previous state -/
  previous : LineState
  /-- position -/
  position : Pos
  /-- entries lost -/
  entriesLost : Nat
  /-- edges lost -/
  edgesLost : Nat
  /-- cause set -/
  causes : CauseSet
deriving DecidableEq, Repr

/-- RECOVERY (R186). -/
structure RecoveryReport where
  /-- the jam in force -/
  jam : Option JamCause
  /-- next sequence -/
  next : Byte
  /-- loss records -/
  losses : List LossLine
deriving DecidableEq, Repr

/-- TRACE (R142). -/
structure TraceReport where
  /-- item number -/
  item : Word
  /-- kind -/
  kind : ItemKind
  /-- edge sequence -/
  seq : Byte
  /-- class -/
  cls : Option NoteClass
  /-- denomination -/
  denom : Option Denom
  /-- serial -/
  serial : Option Serial
  /-- deposit id -/
  depositId : Option Word
  /-- leading position -/
  lead : Pos
  /-- length -/
  length : Option Nat
  /-- gap -/
  gap : Option Nat
  /-- destination -/
  dest : Dest
  /-- shadow pocket -/
  shadow : Option Gate
  /-- reason -/
  reason : Reason
  /-- route object -/
  route : Option ObjectNo
  /-- case reference -/
  caseRef : Option Word
  /-- close kind -/
  close : ItemClose
  /-- close position -/
  position : Pos
  /-- arrival pocket -/
  arrival : Option (Fin 16)
deriving DecidableEq, Repr

/-- TALLY (R199, R200). -/
structure TallyReport where
  /-- occasion NOTICE, or READ -/
  notice : Bool
  /-- group -/
  group : TallyGroup
  /-- cleared -/
  cleared : Bool
  /-- tallies: number and value -/
  tallies : List (Nat × Word)
deriving DecidableEq, Repr

/-- A pocket in a STATUS report (R201). -/
structure PocketStatus where
  /-- state -/
  state : PocketState
  /-- committed count -/
  committed : Nat
  /-- confirmed count -/
  confirmed : Nat
  /-- target in force -/
  target : Option Nat
  /-- bundle denomination -/
  denom : Option BundleDenom
  /-- RECOUNT -/
  recount : Bool
  /-- MANY_DEPOSITS -/
  manyDeposits : Bool
  /-- CARRIED -/
  carried : Bool
  /-- late mark -/
  lateMark : Bool
  /-- enabled flag -/
  enabled : Bool
deriving DecidableEq, Repr

/-- A group in a STATUS report (R201). -/
structure GroupStatus where
  /-- member list -/
  members : List Gate
  /-- current member -/
  current : Option Gate
  /-- denomination purity -/
  denomPure : Bool
  /-- deposit purity -/
  depositPure : Bool
  /-- strap preset -/
  strap : Nat
  /-- brick size -/
  brickSize : Nat
  /-- low threshold -/
  lowThreshold : Nat
  /-- overflow action -/
  overflow : Overflow
deriving DecidableEq, Repr

/-- A held deposit in a STATUS report (R201). -/
structure DepositStatus where
  /-- state -/
  state : DepositState
  /-- deposit id -/
  id : Word
  /-- in-flight count -/
  inFlight : Nat
  /-- BOUNDARY_LOST -/
  boundaryLost : Bool
deriving DecidableEq, Repr

/-- Receiver states as STATUS tells them (R201). -/
inductive ReceiverStatus where
  | wait | receiving | hunt
deriving DecidableEq, Repr

/-- STATUS (R201), section by section. -/
structure StatusReport where
  /-- line state -/
  line : LineState
  /-- cause set -/
  causes : CauseSet
  /-- resume target -/
  resume : Option Resume
  /-- jam in force -/
  jam : Option JamCause
  /-- receiver state -/
  receiver : ReceiverStatus
  /-- Edge FIFO occupancy -/
  edges : Nat
  /-- edge sequence counter -/
  nextSeq : Byte
  /-- item number counter -/
  nextItem : Word
  /-- Track Queue occupancy -/
  entries : Nat
  /-- Loss List occupancy -/
  losses : Nat
  /-- gate outputs -/
  gates : Vector Bool 15
  /-- the geometry's loaded flag -/
  loaded : Bool
  /-- geometry -/
  geometry : Geometry
  /-- swap-pending -/
  swapPending : Bool
  /-- objects in ACTIVE -/
  active : Nat
  /-- objects in STANDBY -/
  standby : Nat
  /-- objects in FREE -/
  free : Nat
  /-- watch-list entries -/
  watch : Nat
  /-- pockets 1 to 15 -/
  pockets : List PocketStatus
  /-- QUARANTINE_POCKET -/
  quarantine : Option Gate
  /-- manifest length -/
  manifest : Nat
  /-- run-out count -/
  runOut : Nat
  /-- groups 0 to 7 -/
  groups : List GroupStatus
  /-- accumulators 0 to 15: key and list length, or none when free -/
  accumulators : List (Option (GroupNo × Denom × Nat))
  /-- deposit slots 0 to 3 -/
  deposits : List (Option DepositStatus)
  /-- Declaration Table entries -/
  declarations : Nat
  /-- entries bound -/
  bound : Nat
  /-- Report Queue occupancy -/
  reports : Nat
  /-- loss mark -/
  lossMark : Nat
  /-- part revision -/
  revision : Byte
deriving DecidableEq, Repr

/-- The outbound records (section 10.3). -/
inductive Report where
  | answer (tag code : Byte) (refusal : Option RefusalReason) (detail : Detail)
  | bundle (r : BundleReport)
  | brick (r : BrickReport)
  | deposit (r : DepositReport)
  | depositFault (r : DepositFaultReport)
  | watchHit (r : WatchHitReport)
  | quarantine (r : QuarantineReport)
  | runOut (count : Nat) (reasons : Vector Nat 11)
  | groupLow (r : GroupLowReport)
  | routeSpent (object : ObjectNo) (preset priority : Nat) (item : Word)
  | routes (r : RoutesReport)
  | line (r : LineReport)
  | jam (r : JamReport)
  | recovery (r : RecoveryReport)
  | trace (r : TraceReport)
  | tally (r : TallyReport)
  | status (r : StatusReport)
  | ready (revision : Byte)
deriving DecidableEq, Repr

/-- A report in the Report Queue with its loss field (R193, R195). -/
structure Queued where
  /-- the report -/
  report : Report
  /-- loss field -/
  loss : Nat
deriving DecidableEq, Repr

/-- The transmitter (R190, R192): QUIET with its idle count, SENDING with the bytes of the frame in progress, or held while RESET_N is
low, when no byte is sent. -/
inductive Transmitter where
  | quiet (idle : Nat)
  | sending (frame : List Byte)
  | held
deriving DecidableEq, Repr

/-- What REPORT_TX carries (R190): the levels of the bytes sent, high as true, one a bit time, or a level held high with no byte. -/
inductive TxLine where
  | sends (levels : List Bool)
  | high
deriving DecidableEq, Repr

/-! ### The blocks -/

/-- Edge Capture Unit (chapter 2). -/
structure EdgeUnit where
  /-- position counter (R20) -/
  position : Pos
  /-- item number counter (R21) -/
  nextItem : Word
  /-- the most recently captured item (R26) -/
  lastItem : Option Word
  /-- edge sequence counter (R21) -/
  nextSeq : Byte
  /-- gap measure, none while cleared (R27) -/
  gap : Option Nat
  /-- Edge FIFO, oldest first (R23) -/
  fifo : List HeldEdge
deriving DecidableEq, Repr

/-- Route Matcher (chapter 3). FREE is every object in neither list (R41). -/
structure RouteUnit where
  /-- the 48 route objects -/
  objects : Vector RouteObject 48
  /-- ACTIVE, in list order -/
  active : List ObjectNo
  /-- STANDBY, in list order -/
  standby : List ObjectNo
  /-- swap-pending -/
  swapPending : Bool
  /-- LENGTH_MIN -/
  lengthMin : Nat
  /-- LENGTH_MAX -/
  lengthMax : Nat
deriving DecidableEq, Repr

/-- An addressed table of bytes in canonical form: addresses strictly rising, no entry equal to what an unlisted address
reads as. The counting index of R66 is one. -/
abbrev Memory := List Host.Cell

/-- Watch Filter (chapter 4). -/
structure WatchUnit where
  /-- watch list, oldest first -/
  list : List WatchEntry
  /-- counting index -/
  index : Memory
deriving DecidableEq, Repr

/-- Pocket Controller (chapter 5). -/
structure PocketUnit where
  /-- the gated-pocket records -/
  pockets : Vector PocketRec 15
  /-- QUARANTINE_POCKET, none for 0 -/
  quarantine : Option Gate
  /-- QUARANTINE_LIMIT -/
  limit : Nat
  /-- quarantine manifest, in confirmation order -/
  manifest : List ManifestEntry
  /-- run-out count -/
  runOut : Nat
  /-- run-out reason counts, in the order of R101 -/
  runOutReasons : Vector Nat 11
  /-- bundle number counter -/
  nextBundle : Word
deriving DecidableEq, Repr

/-- Group Sequencer (chapter 6). -/
structure GroupUnit where
  /-- the group records -/
  groups : Vector GroupRec 8
  /-- brick accumulators, none when free -/
  accs : Vector (Option Accumulator) 16
  /-- brick number counter -/
  nextBrick : Word
deriving DecidableEq, Repr

/-- Track Monitor (chapter 7). -/
structure TrackUnit where
  /-- the geometry's loaded flag -/
  loaded : Bool
  /-- geometry -/
  geometry : Geometry
  /-- Track Queue, oldest first -/
  queue : List Entry
  /-- the item in waiting for a TRACK_FULL jam (R130) -/
  waiting : Option Entry
  /-- Loss List -/
  losses : List LossRecord
  /-- GATE1 to GATE15; true is divert -/
  gates : Vector Bool 15
  /-- the stall timer's interval in ms, none while stopped -/
  stall : Option Nat
  /-- GAP_MIN -/
  gapMin : Nat
  /-- STALL_TIME -/
  stallTime : Nat
  /-- START_TIME -/
  startTime : Nat
  /-- TRACE_ALL -/
  traceAll : Bool
  /-- TRACE_REJECTS -/
  traceRejects : Bool
deriving DecidableEq, Repr

/-- Deposit Unit (chapter 8). -/
structure DepositUnit where
  /-- Deposit Queue: the held deposits in opening order, each with its slot -/
  deposits : List Deposit
  /-- Declaration Table -/
  declarations : List Declaration
  /-- REQUIRE_DEPOSIT -/
  requireDeposit : Bool
deriving DecidableEq, Repr

/-- Line State Unit (chapter 9). -/
structure LineUnit where
  /-- line state -/
  state : LineState
  /-- cause set -/
  causes : CauseSet
  /-- resume target -/
  resume : Option Resume
  /-- the jam in force -/
  jam : Option JamCause
  /-- output RUN -/
  runOut : Bool
  /-- output FEED_EN -/
  feedEn : Bool
deriving DecidableEq, Repr

/-- Report Unit (chapter 10). -/
structure ReportUnit where
  /-- Report Queue, oldest first -/
  queue : List Queued
  /-- loss mark -/
  lossMark : Nat
  /-- backlog flag -/
  backlog : Bool
  /-- ACCEPTED tallies -/
  accepted : Vector (BitVec 32) 32
  /-- RUNOUT, EVENTS and OUTPUT tallies, in the order of R197 -/
  events : Vector (BitVec 16) 25
  /-- NOTICE_MASK: bit k the k-th tally of `events`, bit 25 ACCEPTED -/
  noticeMask : BitVec 26
  /-- transmitter -/
  tx : Transmitter
  /-- output REPORT_TX (R190) -/
  reportTx : TxLine
  /-- the number of the head report's next unsent segment -/
  segment : Nat
  /-- RDY_IN as last sampled -/
  rdyIn : Bool
deriving DecidableEq, Repr

/-- The whole part, and the commands waiting for it, first in, first out. -/
structure State where
  /-- Feed Receiver (chapter 1) -/
  feed : Receiver
  /-- Edge Capture Unit -/
  edge : EdgeUnit
  /-- Route Matcher -/
  route : RouteUnit
  /-- Watch Filter -/
  watch : WatchUnit
  /-- Pocket Controller -/
  pocket : PocketUnit
  /-- Group Sequencer -/
  group : GroupUnit
  /-- Track Monitor -/
  track : TrackUnit
  /-- Deposit Unit -/
  deposit : DepositUnit
  /-- Line State Unit -/
  line : LineUnit
  /-- Report Unit -/
  report : ReportUnit
  /-- the model's own count of the free values drawn (notes/assumptions/11.md) -/
  freeCount : Nat
  /-- the commands waiting -/
  pending : List Instr
deriving DecidableEq, Repr

/-! ### One update for each block -/

/-- Replace the Feed Receiver's state. -/
def State.setFeed (s : State) (b : Receiver) : State := { s with feed := b }
/-- Replace the Edge Capture Unit's state. -/
def State.setEdge (s : State) (b : EdgeUnit) : State := { s with edge := b }
/-- Replace the Route Matcher's state. -/
def State.setRoute (s : State) (b : RouteUnit) : State := { s with route := b }
/-- Replace the Watch Filter's state. -/
def State.setWatch (s : State) (b : WatchUnit) : State := { s with watch := b }
/-- Replace the Pocket Controller's state. -/
def State.setPocket (s : State) (b : PocketUnit) : State := { s with pocket := b }
/-- Replace the Group Sequencer's state. -/
def State.setGroup (s : State) (b : GroupUnit) : State := { s with group := b }
/-- Replace the Track Monitor's state. -/
def State.setTrack (s : State) (b : TrackUnit) : State := { s with track := b }
/-- Replace the Deposit Unit's state. -/
def State.setDeposit (s : State) (b : DepositUnit) : State := { s with deposit := b }
/-- Replace the Line State Unit's state. -/
def State.setLine (s : State) (b : LineUnit) : State := { s with line := b }
/-- Replace the Report Unit's state. -/
def State.setReport (s : State) (b : ReportUnit) : State := { s with report := b }
/-- Replace the count of free values drawn. -/
def State.setFreeCount (s : State) (n : Nat) : State := { s with freeCount := n }
/-- Replace the queue of commands. -/
def State.setPending (s : State) (q : List Instr) : State := { s with pending := q }

/-! ### Hard-reset values -/

/-- No cause held (R170). -/
def CauseSet.empty : CauseSet :=
  { operator := false, command := false, quarantineFull := false, backlog := false, depositFull := false
    groupFull := Vector.replicate 8 false }

/-- A route object after hard reset (R40). -/
def RouteObject.initial : RouteObject :=
  { classSet := 0, denomValue := 0, denomMask := 0, seriesValue := 0, seriesMask := 0, fitnessSet := 0, orientSet := 0
    kindSet := 0, target := .runOut, priority := 0, preset := none, remaining := 0, spent := false, trace := false }

/-- A gated pocket in the given state with counts 0, an empty bundle, and its flags and late mark clear (R78, R104). The closing kind
of an empty bundle is FULL and its deposit-pure flag clear, the model's choice (notes/assumptions/27.md). -/
def PocketRec.fresh (state : PocketState) (enabled : Bool) : PocketRec :=
  { state := state, target := none, committed := 0, confirmed := 0, denom := none, deposit := none, depositPure := false
    closing := .full, contributions := [], recount := false, manyDeposits := false, carried := false, lateMark := false
    enabled := enabled }

/-- A group after hard reset (R106). -/
def GroupRec.initial : GroupRec :=
  { members := [], current := none, denomPure := true, depositPure := false, strap := 100, brickSize := 10
    lowThreshold := 1, overflow := .halt, armed := false }

/-- The geometry's values after hard reset (R123). -/
def Geometry.initial : Geometry :=
  { d := Vector.replicate 16 0, lead := 0, lag := 0, tol := 0, admitLimit := 600 }

/-- The machine right after hard reset: every block at its hard-reset values and the READY report queued (R188).
The rules are R4, R38, R40, R55, R67, R104, R106, R117, R146, R147, R150, R165, R170, R188, R192, R193, R195, R196, R197, R200. -/
def State.reset : State where
  feed := .hunt 0
  edge := { position := 0, nextItem := 1, lastItem := none, nextSeq := 0, gap := none, fifo := [] }
  route := { objects := Vector.replicate 48 RouteObject.initial, active := [], standby := [], swapPending := false
             lengthMin := 200, lengthMax := 400 }
  watch := { list := [], index := [] }
  pocket := { pockets := Vector.replicate 15 (PocketRec.fresh .unassigned true), quarantine := none, limit := 50
              manifest := [], runOut := 0, runOutReasons := Vector.replicate 11 0, nextBundle := 1 }
  group := { groups := Vector.replicate 8 GroupRec.initial, accs := Vector.replicate 16 none, nextBrick := 1 }
  track := { loaded := false, geometry := Geometry.initial, queue := [], waiting := none, losses := []
             gates := Vector.replicate 15 false, stall := none, gapMin := 40, stallTime := 250, startTime := 1000
             traceAll := false, traceRejects := false }
  deposit := { deposits := [], declarations := [], requireDeposit := false }
  line := { state := .idle, causes := CauseSet.empty, resume := none, jam := none, runOut := false, feedEn := false }
  report := { queue := [{ report := .ready Config.partRevision, loss := 0 }], lossMark := 0, backlog := false
              accepted := Vector.replicate 32 0, events := Vector.replicate 25 0, noticeMask := 0
              tx := .quiet 0, reportTx := .sends (byteLevels Config.idleByte), segment := 0, rdyIn := false }
  freeCount := 0
  pending := []

/-! ### What can stop a step -/

/-- Faults. The manual gives the part none: every error it names is counted, refused with a reason, or a jam, and the part
goes on. There is no constructor, so no step ends in a fault. -/
inductive Fault where
deriving DecidableEq, Repr

/-- Refusals. -/
inductive Refusal where
  /-- A command that has no meaning yet, by its mnemonic. Raised by no arm of exec: every command has its meaning. Safe: the
  model would stop where the part goes on. -/
  | notModelled (mnemonic : String)
deriving DecidableEq, Repr

end Sys2Proof.Machine
end

