-- ==== Sys2Proof/Machine/Operands.lean ====
section
/-! DEFINITION. Arithmetic and operand readings every block shares: positions, held counts, the CRC, pocket and tally numbers,
the counting index as an addressed table, and the order of a request's checks. -/

namespace Sys2Proof.Machine

/-! ### Positions (section 5.1) -/

/-- The forward distance from position a to position b, modulo 2^24. -/
def fwd (a b : Pos) : Nat := (b - a).toNat

/-- A position a number of counts ahead. -/
def ahead (a : Pos) (n : Nat) : Pos := a + BitVec.ofNat 24 n

/-- A position a number of counts behind. -/
def behind (a : Pos) (n : Nat) : Pos := a - BitVec.ofNat 24 n

/-- Whether position x has been reached when the counter is at `now` (R60): the forward distance from x is below 2^23. -/
def reached (x now : Pos) : Bool := fwd x now < 2 ^ 23

/-- Whether a position is within a window (R128). -/
def Window.holds (w : Window) (x : Pos) : Bool := fwd w.first x ≤ fwd w.first w.last

/-! ### Counts that hold at their largest value -/

/-- One more, holding at 65,535 (R27, R101, R147). -/
def bumpCount (n : Nat) : Nat := min (n + 1) Config.countMax

/-- n more, holding at 65,535 (R147, R162). -/
def addCount (n k : Nat) : Nat := min (n + k) Config.countMax

/-! ### The CRC (R3) -/

/-- One bit: shift left, and combine with the polynomial when the bit shifted out differs from the incoming one. -/
def crcBit (reg : Half) (b : Bool) : Half :=
  let shifted := reg <<< 1
  if reg.getLsbD 15 != b then shifted ^^^ 0x1021 else shifted

/-- One byte, most significant bit first. -/
def crcByte (reg : Half) (b : Byte) : Half :=
  [7, 6, 5, 4, 3, 2, 1, 0].foldl (fun r k => crcBit r (b.getLsbD k)) reg

/-- The CRC over bytes in order, from the starting value 0xFFFF. -/
def crc (bytes : List Byte) : Half := bytes.foldl crcByte 0xFFFF

/-- A serial's cell: the low 12 bits of its CRC register (R66). -/
def cellOf (serial : Serial) : Nat := ((crc serial).extractLsb' 0 12).toNat

/-! ### The addressed table (the counting index, R66) -/

/-- What an unlisted cell reads as: 0, the hard-reset value of every cell (R67). -/
def Memory.unlisted : Byte := 0

/-- Read one cell. -/
def Memory.read : Memory → Nat → Byte
  | [], _ => Memory.unlisted
  | (k, v) :: rest, a => if k = a then v else Memory.read rest a

/-- Write one cell, keeping the canonical form. -/
def Memory.write : Memory → Nat → Byte → Memory
  | [], a, v => if v = Memory.unlisted then [] else [(a, v)]
  | (k, w) :: rest, a, v =>
    if a < k then (if v = Memory.unlisted then (k, w) :: rest else (a, v) :: (k, w) :: rest)
    else if k = a then (if v = Memory.unlisted then rest else (a, v) :: rest)
    else (k, w) :: Memory.write rest a v

/-- The canonical form from an address on: addresses strictly rising from `low`, no entry at the unlisted value. -/
def Memory.wfFrom : Nat → Memory → Bool
  | _, [] => true
  | low, (k, v) :: rest => low ≤ k && v != Memory.unlisted && Memory.wfFrom (k + 1) rest

/-- The canonical form. -/
def Memory.wf (m : Memory) : Bool := Memory.wfFrom 0 m

/-! ### Pockets, groups, tallies by number -/

/-- The pocket a pocket number names: 0 the run-out pocket, 1 to 15 the gated pockets (section 5.3). -/
def pocketOf (p : Fin 16) : Dest :=
  if h : p.val = 0 then .runOut else .gated ⟨p.val - 1, by omega⟩

/-- A gated pocket's number. -/
def gateNumber (g : Gate) : Nat := g.val + 1

/-- A destination's pocket number. -/
def Dest.number : Dest → Nat
  | .runOut => 0
  | .gated g => gateNumber g

/-- The gated pocket a byte names, or none for 0 and for values above 15. -/
def gateOfByte (b : Byte) : Option Gate :=
  if h : 1 ≤ b.toNat ∧ b.toNat ≤ 15 then some ⟨b.toNat - 1, by omega⟩ else none

/-- The group a byte names. -/
def groupOfByte (b : Byte) : Option GroupNo :=
  if h : b.toNat < 8 then some ⟨b.toNat, h⟩ else none

/-- The route object a byte names. -/
def objectOfByte (b : Byte) : Option ObjectNo :=
  if h : b.toNat < 48 then some ⟨b.toNat, h⟩ else none

/-- The denomination an optional-denomination byte gives: 0xFF none, 0 to 31 a code (section 11.1). -/
def denomOfByte (b : Byte) : Option Denom :=
  if b.toNat < 32 then some (b.extractLsb' 0 5) else none

/-- The groups in ascending number. -/
def allGroups : List GroupNo := [0, 1, 2, 3, 4, 5, 6, 7]

/-- The gated pockets in ascending number. -/
def allGates : List Gate := [0, 1, 2, 3, 4, 5, 6, 7, 8, 9, 10, 11, 12, 13, 14]

/-- The slots in ascending number. -/
def allSlots : List SlotNo := [0, 1, 2, 3]

/-- The place of a RUNOUT, EVENTS or OUTPUT tally among the 25 (R197). -/
def EventTally.index : EventTally → Fin 25
  | .noRoute => 0 | .noSpace => 1 | .late => 2 | .pitch => 3 | .pitchShadowed => 4 | .length => 5 | .unread => 6
  | .lateRecord => 7 | .noDeposit => 8 | .watchUnheld => 9 | .routed => 10
  | .feedErrors => 11 | .slips => 12 | .strayRecords => 13 | .strayArrivals => 14 | .clearIgnored => 15
  | .depositRepeat => 16 | .watchHits => 17 | .watchFalse => 18
  | .traceDropped => 19 | .reportsLost => 20 | .bundles => 21 | .bricks => 22 | .jams => 23 | .discarded => 24

/-- The group of a RUNOUT, EVENTS or OUTPUT tally (R197). -/
def EventTally.group (t : EventTally) : TallyGroup :=
  if t.index.val < 11 then .runOut else if t.index.val < 19 then .events else .output

/-- The RUNOUT tally of a reason, where the reason has one (R197, R198). -/
def Reason.tally : Reason → Option EventTally
  | .noRoute => some .noRoute | .noSpace => some .noSpace | .late => some .late | .pitch => some .pitch
  | .pitchShadowed => some .pitchShadowed | .length => some .length | .unread => some .unread
  | .lateRecord => some .lateRecord | .noDeposit => some .noDeposit | .watchUnheld => some .watchUnheld
  | .routed => some .routed
  | .placed | .watch | .card => none

/-- The place of a reason among the eleven run-out counts of R101. -/
def Reason.runOutIndex : Reason → Option (Fin 11)
  | .card => some 0 | .unread => some 1 | .lateRecord => some 2 | .length => some 3 | .pitch => some 4
  | .noDeposit => some 5 | .watchUnheld => some 6 | .noRoute => some 7 | .noSpace => some 8 | .late => some 9
  | .routed => some 10
  | .placed | .watch | .pitchShadowed => none

/-- The place of a reason among a deposit's ten run-out counts (R147). -/
def Reason.depositIndex : Reason → Option (Fin 10)
  | .unread => some 0 | .lateRecord => some 1 | .length => some 2 | .pitch => some 3 | .pitchShadowed => some 4
  | .watchUnheld => some 5 | .noRoute => some 6 | .noSpace => some 7 | .late => some 8 | .routed => some 9
  | .placed | .watch | .card | .noDeposit => none

/-- A counter of 32-bit numbers after one more is given (R21, R88, R119): one more, and past the largest value the free
value of notes/assumptions/11.md. -/
def nextNumber (n : Word) (draw : Nat) : Word := if n = 0xFFFFFFFF then Config.numberPastLast draw else n + 1

/-- The count of free values drawn after a number counter has moved on. -/
def drawNumber (n : Word) (draw : Nat) : Nat := if n = 0xFFFFFFFF then draw + 1 else draw

/-! ### The order of checks (R17) -/

/-- The refusal of a request: the reason of the first check that holds. -/
def firstRefusal : List (Bool × RefusalReason) → Option RefusalReason
  | [] => none
  | (holds, reason) :: rest => if holds then some reason else firstRefusal rest

/-- The value of a vector with one place changed. -/
def adjust {α : Type} {n : Nat} (v : Vector α n) (i : Fin n) (f : α → α) : Vector α n := v.set i (f v[i])

end Sys2Proof.Machine
end

