-- ==== Sys2Proof/Machine/Flags.lean ====
section
/-! DEFINITION. The cause set, the tallies and their notice levels, as values. -/

namespace Sys2Proof.Machine

/-! ### The cause set (R170) -/

/-- Whether a cause is held. -/
def CauseSet.holds (c : CauseSet) : Cause → Bool
  | .operator => c.operator
  | .command => c.command
  | .quarantineFull => c.quarantineFull
  | .backlog => c.backlog
  | .depositFull => c.depositFull
  | .groupFull g => c.groupFull[g]

/-- The set with one cause held or not. -/
def CauseSet.put (c : CauseSet) (held : Bool) : Cause → CauseSet
  | .operator => { c with operator := held }
  | .command => { c with command := held }
  | .quarantineFull => { c with quarantineFull := held }
  | .backlog => { c with backlog := held }
  | .depositFull => { c with depositFull := held }
  | .groupFull g => { c with groupFull := c.groupFull.set g held }

/-- The set without OPERATOR and COMMAND (R172, R179). -/
def CauseSet.withoutHeld (c : CauseSet) : CauseSet := { c with operator := false, command := false }

/-- Whether no cause is held. -/
def CauseSet.isEmpty (c : CauseSet) : Bool := c == CauseSet.empty

/-! ### Tallies (R197, R200) -/

/-- Increase one tally by one; it wraps. -/
def ReportUnit.increase (u : ReportUnit) : Tally → ReportUnit
  | .accepted d => { u with accepted := adjust u.accepted d.toFin (· + 1) }
  | .event t => { u with events := adjust u.events t.index (· + 1) }

/-- A tally's value as a TALLY report carries it (section 11.5). -/
def ReportUnit.tallyValue (u : ReportUnit) : Tally → Word
  | .accepted d => u.accepted[d.toFin]
  | .event t => (u.events[t.index]).zeroExtend 32

/-- A tally's number, 0 to 56 (section 11.5). -/
def Tally.number : Tally → Nat
  | .accepted d => d.toNat
  | .event t => 32 + t.index.val

/-- A tally's group. -/
def Tally.group : Tally → TallyGroup
  | .accepted _ => .accepted
  | .event t => t.group

/-- Whether a tally stands at its notice level and is in NOTICE_MASK (R200). Read just after an increase. -/
def ReportUnit.notices (u : ReportUnit) : Tally → Bool
  | .accepted d => u.accepted[d.toFin] == Config.notice32 && u.noticeMask.getLsbD 25
  | .event t => u.events[t.index] == Config.notice16 && u.noticeMask.getLsbD t.index.val

/-- The TALLY report of a notice (R200). -/
def ReportUnit.noticeOf (u : ReportUnit) (t : Tally) : Report :=
  .tally { notice := true, group := t.group, cleared := false, tallies := [(t.number, u.tallyValue t)] }

/-- The tallies of a group with their values, in the order of R197 (R199). -/
def ReportUnit.groupTallies (u : ReportUnit) (g : TallyGroup) : List (Nat × Word) :=
  let acc := u.accepted.toList.zipIdx.map fun p => (p.2, p.1)
  let ev := u.events.toList.zipIdx.map fun p => (32 + p.2, p.1.zeroExtend 32)
  match g with
  | .accepted => acc
  | .runOut => ev.take 11
  | .events => (ev.drop 11).take 8
  | .output => ev.drop 19
  | .all => acc ++ ev

/-- The report unit with a group's tallies set to 0 (R199). -/
def ReportUnit.clearGroup (u : ReportUnit) (g : TallyGroup) : ReportUnit :=
  let within (low high : Nat) : Vector (BitVec 16) 25 :=
    Vector.ofFn fun i => if low ≤ i.val && i.val < high then 0 else u.events[i]
  match g with
  | .accepted => { u with accepted := Vector.replicate 32 0 }
  | .runOut => { u with events := within 0 11 }
  | .events => { u with events := within 11 19 }
  | .output => { u with events := within 19 25 }
  | .all => { u with accepted := Vector.replicate 32 0, events := Vector.replicate 25 0 }

end Sys2Proof.Machine
end

