-- ==== Sys2Proof/Machine/Ops.lean ====
section
/-! DEFINITION. The operations every block calls: handing a report to the Report Unit (R194 to R196), increasing a tally
(R200), changing the line state (R167, R168, R139), raising and ending causes (R171, R178), answering a request (R14). -/

namespace Sys2Proof.Machine

/-! ### The Report Queue -/

/-- Append a report with the loss mark as it stands; the mark returns to 0, and an occupancy of 56 reached with the flag
clear sets the backlog flag (R194, R195, R196). -/
def enqueue (r : Report) (s : State) : State :=
  let u := s.report
  s.setReport { u with
    queue := u.queue ++ [{ report := r, loss := u.lossMark }]
    lossMark := 0
    backlog := u.backlog || u.queue.length + 1 == Config.backlogLevel }

/-- One report lost: the loss mark and REPORTS_LOST increase (R194, R195). -/
def loseOnce (s : State) : State :=
  s.setReport { s.report.increase (.event .reportsLost) with lossMark := min (s.report.lossMark + 1) Config.lossMarkMax }

/-- A report lost, with the notice of REPORTS_LOST lost in its turn when it is due (R200). -/
def loseReport (s : State) : State :=
  let s1 := loseOnce s
  if s1.report.notices (.event .reportsLost) then loseOnce s1 else s1

/-- Admission of a report that is no TRACE (R194). -/
def handPlain (r : Report) (s : State) : State :=
  if s.report.queue.length < Config.queueCapacity then enqueue r s else loseReport s

/-- Increase a tally, with its notice when it passes its level (R197, R200). BACKLOG is not yet handed on. -/
def bumpQuiet (t : Tally) (s : State) : State :=
  let s1 := s.setReport (s.report.increase t)
  if s1.report.notices t then handPlain (s1.report.noticeOf t) s1 else s1

/-- Admission of a report, TRACE on its own terms (R194). BACKLOG is not yet handed on. -/
def hand (r : Report) (s : State) : State :=
  match r with
  | .trace _ =>
    if s.report.queue.length < Config.traceLevel then enqueue r s else bumpQuiet (.event .traceDropped) s
  | _ => handPlain r s

/-! ### The line state -/

/-- What the stall timer holds after the line passes from one state to another (R139). -/
def stallAfter (from_ to_ : LineState) (startTime : Nat) (stall : Option Nat) : Option Nat :=
  match from_, to_ with
  | .idle, .run | .idle, .drain | .halt, .run | .halt, .drain => some startTime
  | _, .run | _, .drain => stall
  | _, .idle | _, .halt | _, .jammed => none

/-- The line enters a state: outputs, resume target, stall timer and gap measure follow (R167, R169, R139, R27). -/
def enterLine (to_ : LineState) (resume : Option Resume) (s : State) : State :=
  let from_ := s.line.state
  let s1 := s.setLine { s.line with
    state := to_, resume := resume
    runOut := to_ == .run || to_ == .drain
    feedEn := to_ == .run }
  let s2 := s1.setTrack { s1.track with stall := stallAfter from_ to_ s.track.startTime s.track.stall }
  if from_ = .idle ∧ to_ = .run then s2.setEdge { s2.edge with gap := none } else s2

/-- The LINE report of a change just made from a state (R168). -/
def lineReport (from_ : LineState) (trigger : Trigger) (cause : Option LineCause) (s : State) : Report :=
  .line { from_ := from_, to_ := s.line.state, trigger := trigger, cause := cause, causes := s.line.causes
          resume := s.line.resume, position := s.edge.position }

/-- A change of line state with its LINE report. -/
def changeLine (to_ : LineState) (resume : Option Resume) (trigger : Trigger) (cause : Option LineCause) (s : State) : State :=
  let s1 := enterLine to_ resume s
  hand (lineReport s.line.state trigger cause s1) s1

/-- Hold or drop a cause, the line state unchanged (R171). -/
def putCause (held : Bool) (c : Cause) (s : State) : State :=
  s.setLine { s.line with causes := s.line.causes.put held c }

/-- A condition cause raised: added, and a line in RUN or DRAIN halts (R171, R178). BACKLOG is not yet handed on. -/
def raiseQuiet (c : Cause) (s : State) : State :=
  if s.line.causes.holds c then s
  else
    let s1 := putCause true c s
    match s.line.state with
    | .run => changeLine .halt (some .run) .condition (some (.condition c)) s1
    | .drain => changeLine .halt (some .drain) .condition (some (.condition c)) s1
    | .idle | .halt | .jammed => s1

/-- The Line State Unit takes BACKLOG when the backlog flag has just been set (R196). -/
def takeBacklog (s : State) : State :=
  if s.report.backlog && !s.line.causes.backlog then raiseQuiet .backlog s else s

/-- A condition cause raised (R171, R178). -/
def raiseCause (c : Cause) (s : State) : State := takeBacklog (raiseQuiet c s)

/-- A condition cause ended; the line does not move (R171). -/
def endCause (c : Cause) (s : State) : State := putCause false c s

/-- A report generated: admitted, dropped or lost, and a BACKLOG it sets taken at once (R194, R196). -/
def emit (r : Report) (s : State) : State := takeBacklog (hand r s)

/-- A tally increased (R197, R200). -/
def bump (t : EventTally) (s : State) : State := takeBacklog (bumpQuiet (.event t) s)

/-- The drain end, tested (R176). -/
def drainEndQuiet (s : State) : State :=
  if s.line.state = .drain ∧ s.track.queue = [] ∧ s.edge.fifo = [] then changeLine .idle none .drainEnd none s else s

/-- The drain end, tested at the end of a work that may have emptied the Track Queue or the Edge FIFO (R176, notes/assumptions/8.md). -/
def drainEnd (s : State) : State := takeBacklog (drainEndQuiet s)

/-! ### Answers -/

/-- The answer of an accepted request (R14). -/
def answer (tag code : Byte) (detail : Detail) (s : State) : State := emit (.answer tag code none detail) s

/-- The detail of a refusal: the whole cause set with CAUSES, nothing otherwise (R174, R179). -/
def refusalDetail (reason : RefusalReason) (s : State) : Detail :=
  if reason = .causes then .causes s.line.causes else .none

/-- A request refused: its answer and nothing else (R16). -/
def refuse (tag code : Byte) (reason : RefusalReason) (s : State) : State :=
  emit (.answer tag code (some reason) (refusalDetail reason s)) s

/-- A request with its checks in order (R17): refused with the first reason that holds, or answered and then carried out. -/
def request (tag code : Byte) (checks : List (Bool × RefusalReason)) (detail : Detail) (effect : State → State) (s : State) :
    State :=
  match firstRefusal checks with
  | some reason => refuse tag code reason s
  | none => effect (answer tag code detail s)

/-- A request of the Line State Unit, taken whole (R173): BACKLOG set by its own reports is taken when the request is done
(notes/assumptions/7.md). -/
def lineRequest (tag code : Byte) (checks : List (Bool × RefusalReason)) (detail : Detail) (effect : State → State) (s : State) :
    State :=
  match firstRefusal checks with
  | some reason => refuse tag code reason s
  | none => takeBacklog (effect (hand (.answer tag code none detail) s))

/-- Take the next value of the item number counter's successor (R21). -/
def stepItemNumber (s : State) : State :=
  (s.setEdge { s.edge with nextItem := nextNumber s.edge.nextItem s.freeCount, lastItem := some s.edge.nextItem
                           nextSeq := s.edge.nextSeq + 1 }).setFreeCount (drawNumber s.edge.nextItem s.freeCount)

end Sys2Proof.Machine
end

