-- ==== Sys2Proof/Machine/Deposits.lean ====
section
/-! DEFINITION. The Deposit Unit's own work: questions, attribution, counts, close and reconciliation (chapter 8). -/

namespace Sys2Proof.Machine

/-! ### Questions (R149) -/

/-- The OPEN deposit. -/
def openDeposit (s : State) : Option Deposit := s.deposit.deposits.find? fun d => d.state == .openState

/-- The deposit that holds a slot. -/
def depositAt (k : SlotNo) (s : State) : Option Deposit := s.deposit.deposits.find? fun d => d.slot == k

/-- The id of the deposit an entry's slot holds. -/
def depositId (slot : Option SlotNo) (s : State) : Option Word := (slot.bind (depositAt · s)).map (·.id)

/-- A deposit id, or NONE. -/
def DepositKey.ofId : Option Word → DepositKey
  | Option.some w => .id w
  | Option.none => .none

/-- The id of the OPEN deposit, or NONE (R109, R82). -/
def openKey (s : State) : DepositKey := .ofId ((openDeposit s).map (·.id))

/-- The free slot of lowest number (R148). -/
def freeSlot (s : State) : Option SlotNo := allSlots.find? fun k => (depositAt k s).isNone

/-- The Declaration Table entry of an id. -/
def declarationOf (id : Word) (s : State) : Option Declaration := s.deposit.declarations.find? fun d => d.id == id

/-- The declaration bound to a deposit: its declaration field (R147, R150). -/
def boundDeclaration (id : Word) (s : State) : Option Declaration :=
  s.deposit.declarations.find? fun d => d.id == id && d.bound

/-! ### Updates -/

/-- Change the context of the deposit that holds a slot. -/
def modifyDeposit (k : SlotNo) (f : Deposit → Deposit) (s : State) : State :=
  s.setDeposit { s.deposit with deposits := s.deposit.deposits.map fun d => if d.slot = k then f d else d }

/-- Change the context of the deposit of an entry's slot; an item with no slot changes no deposit (R159). -/
def modifySlot (slot : Option SlotNo) (f : Deposit → Deposit) (s : State) : State :=
  match slot with
  | some k => modifyDeposit k f s
  | none => s

/-- The accepted line a note counts in: its code, or UNCODED (R147). -/
def acceptedIndex : Option Denom → Fin 33
  | some d => ⟨d.toNat, by have := d.isLt; omega⟩
  | none => 32

/-- A confirmation at a member counted in its deposit (R84, R159). -/
def countAccepted (slot : Option SlotNo) (denom : Option Denom) (s : State) : State :=
  modifySlot slot (fun d => { d with accepted := adjust d.accepted (acceptedIndex denom) bumpCount }) s

/-- A confirmation at the quarantine pocket counted in its deposit (R97, R159). -/
def countQuarantine (slot : Option SlotNo) (s : State) : State :=
  modifySlot slot (fun d => { d with quarantine := bumpCount d.quarantine }) s

/-- A watch hit counted in its deposit (R74, R75). -/
def countWatchHit (slot : Option SlotNo) (s : State) : State :=
  modifySlot slot (fun d => { d with watchHits := bumpCount d.watchHits }) s

/-- An item attributed to the deposit of a slot (R158). -/
def attributeItem (slot : Option SlotNo) (item : Word) (hit : Bool) (s : State) : State :=
  modifySlot slot (fun d => { d with
    inFlight := d.inFlight + 1
    itemCount := bumpCount d.itemCount
    firstItem := some (d.firstItem.getD item)
    lastItem := some item
    watchHits := if hit then bumpCount d.watchHits else d.watchHits }) s

/-! ### Close and reconciliation -/

/-- The declared count of a denomination; 0 for UNCODED and for a denomination the declaration lacks (R163). -/
def declaredCount (decl : Declaration) : Option Denom → Nat
  | some d => ((decl.lines.find? fun l => l.1 == d).map (·.2)).getD 0
  | none => 0

/-- The 33 denominations of accepted lines, in ascending code, UNCODED last (R164). -/
def lineDenoms : List (Option Denom) := (List.range 32).map (fun n => some (BitVec.ofNat 5 n)) ++ [none]

/-- The lines of a DEPOSIT report (R164). -/
def depositLines (d : Deposit) (decl : Option Declaration) : List DepositLine :=
  lineDenoms.filterMap fun k =>
    let acc := d.accepted[acceptedIndex k]
    match decl with
    | some dl =>
      if acc = 0 ∧ declaredCount dl k = 0 then none
      else some { denom := k, accepted := acc, declared := some (declaredCount dl k) }
    | none => if acc = 0 then none else some { denom := k, accepted := acc, declared := none }

/-- The result of a closing deposit: the first case that holds (R163). -/
def depositResult (d : Deposit) (decl : Option Declaration) : DepositResult :=
  if d.lost > 0 ∨ d.boundaryLost then .incomplete
  else match decl with
    | none => .undeclared
    | some dl =>
      if (lineDenoms.any fun k => d.accepted[acceptedIndex k] != declaredCount dl k)
          ∨ d.runOut.toList.any (· > 0) ∨ d.quarantine > 0 then .difference
      else .balanced

/-- The DEPOSIT report of a close (R164). -/
def depositReport (d : Deposit) (decl : Option Declaration) (afterRecovery : Bool) : Report :=
  .deposit { id := d.id, parent := d.parent, kind := d.kind, result := depositResult d decl, declared := decl.isSome
             lines := depositLines d decl, runOut := d.runOut, cards := d.cards, quarantine := d.quarantine
             watchHits := d.watchHits, lost := d.lost, itemCount := d.itemCount, cardItem := d.cardItem
             firstItem := d.firstItem, lastItem := d.lastItem, boundaryLost := d.boundaryLost, afterRecovery := afterRecovery }

/-- A deposit closed, in the order of R161. -/
def closeDeposit (d : Deposit) (afterRecovery : Bool) (s : State) : State :=
  let s1 := emit (depositReport d (boundDeclaration d.id s) afterRecovery) s
  let s2 := s1.setDeposit { s1.deposit with
    declarations := s1.deposit.declarations.filter fun e => !(e.id == d.id && e.bound)
    deposits := s1.deposit.deposits.filter fun e => e.slot != d.slot }
  endCause .depositFull s2

/-- The test for close of the deposit in a slot (R161). -/
def testClose (k : SlotNo) (afterRecovery : Bool) (s : State) : State :=
  match depositAt k s with
  | some d =>
    if d.state = .closing ∧ d.inFlight = 0 ∧ s.line.state ≠ .jammed then closeDeposit d afterRecovery s else s
  | none => s

/-- The count an item's close changes in its deposit (R160). -/
def countClose (kind : ItemKind) (reason : Reason) (dest : Dest) (close : ItemClose) (d : Deposit) : Deposit :=
  match close with
  | .lost => { d with lost := bumpCount d.lost }
  | .shadowed =>
    if kind = .card then { d with cards := bumpCount d.cards } else { d with runOut := adjust d.runOut 4 bumpCount }
  | .confirmed =>
    match dest with
    | .gated _ => d
    | .runOut =>
      if kind = .card then { d with cards := bumpCount d.cards }
      else match reason.depositIndex with
        | some i => { d with runOut := adjust d.runOut i bumpCount }
        | none => d

/-- A close handed to the Deposit Unit (R160). -/
def closeInDeposit (e : Entry) (close : ItemClose) (s : State) : State :=
  match e.slot with
  | none => s
  | some k =>
    let s1 := modifyDeposit k (fun d =>
      let d1 := countClose e.kind e.reason e.dest close d
      { d1 with inFlight := d1.inFlight - 1 }) s
    testClose k false s1

/-- The losses of a jam, one number for each deposit (R162). -/
def loseInDeposits (lost : List Entry) (s : State) : State :=
  s.setDeposit { s.deposit with deposits := s.deposit.deposits.map fun d =>
    let n := lost.countP fun e => e.slot == some d.slot
    { d with lost := addCount d.lost n, inFlight := d.inFlight - n } }

end Sys2Proof.Machine
end

