-- ==== Sys2Proof/Machine/Pockets.lean ====
section
/-! DEFINITION. The Pocket Controller and the Group Sequencer: commitment, confirmation, bundle close and the brick cascade,
odd closes, withdrawals, recount marks, pocket-cleared, the low warning, placement (chapters 5 and 6). -/

namespace Sys2Proof.Machine

/-! ### Reading and writing one record -/

/-- A gated pocket's record. -/
def pocketAt (g : Gate) (s : State) : PocketRec := s.pocket.pockets[g]

/-- Replace a gated pocket's record. -/
def putPocket (g : Gate) (r : PocketRec) (s : State) : State :=
  s.setPocket { s.pocket with pockets := s.pocket.pockets.set g r }

/-- A group's record. -/
def groupAt (k : GroupNo) (s : State) : GroupRec := s.group.groups[k]

/-- Replace a group's record. -/
def putGroup (k : GroupNo) (r : GroupRec) (s : State) : State :=
  s.setGroup { s.group with groups := s.group.groups.set k r }

/-- The group a gated pocket is a member of (R108: at most one). -/
def groupOf (g : Gate) (s : State) : Option GroupNo := allGroups.find? fun k => (groupAt k s).members.contains g

/-- A pocket's record with its bundle empty: the fields of the bundle in progress cleared (R78). -/
def PocketRec.emptied (r : PocketRec) (state : PocketState) : PocketRec := PocketRec.fresh state r.enabled

/-- The in-flight count (R78). -/
def PocketRec.inFlight (r : PocketRec) : Nat := r.committed - r.confirmed

/-! ### The low warning and the end of GROUP_FULL (R111, R112) -/

/-- The count of OPEN enabled members (R112). -/
def openCount (k : GroupNo) (s : State) : Nat :=
  (groupAt k s).members.countP fun g => (pocketAt g s).state == .openState && (pocketAt g s).enabled

/-- The GROUP_LOW report (R113). -/
def groupLowReport (k : GroupNo) (item : Option Word) (s : State) : Report :=
  .groupLow { group := k, openCount := openCount k s, threshold := (groupAt k s).lowThreshold
              members := (groupAt k s).members.map fun g => (g, (pocketAt g s).state, (pocketAt g s).enabled)
              item := item }

/-- The count taken again, and the low-warning arm with it (R112). -/
def recountGroup (k : GroupNo) (item : Option Word) (s : State) : State :=
  let g := groupAt k s
  if openCount k s ≤ g.lowThreshold then
    if g.armed then emit (groupLowReport k item s) (putGroup k { g with armed := false } s) else s
  else
    if g.armed then s else putGroup k { g with armed := true } s

/-- The low-warning arm set without a report (R112): armed when the count is above the threshold. -/
def setArm (k : GroupNo) (s : State) : State :=
  putGroup k { groupAt k s with armed := (groupAt k s).lowThreshold < openCount k s } s

/-- A member's change of state handed to the Group Sequencer (R103, R111, R112). -/
def memberChanged (g : Gate) (old : PocketState) (item : Option Word) (s : State) : State :=
  match groupOf g s with
  | none => s
  | some k =>
    let now := (pocketAt g s).state
    if old = now then s
    else recountGroup k item (if now = .openState then endCause (.groupFull k) s else s)

/-- A pocket-cleared event handed to the Group Sequencer, with the member's state after it (R103, R111, R112). -/
def memberCleared (g : Gate) (s : State) : State :=
  match groupOf g s with
  | none => s
  | some k => recountGroup k none (if (pocketAt g s).state = .openState then endCause (.groupFull k) s else s)

/-! ### Bricks (R117 to R120) -/

/-- The accumulator of a key, or else the free accumulator of lowest index (R118). -/
def accumulatorFor (k : GroupNo) (d : Denom) (s : State) : Option (Fin 16) :=
  let all : List (Fin 16) := [0, 1, 2, 3, 4, 5, 6, 7, 8, 9, 10, 11, 12, 13, 14, 15]
  match all.find? fun i => (s.group.accs[i]).any fun a => a.group == k && a.denom == d with
  | some i => some i
  | none => all.find? fun i => (s.group.accs[i]).isNone

/-- A bundle joins an accumulator (R118). -/
def joinAccumulator (i : Fin 16) (k : GroupNo) (d : Denom) (number : Word) (count : Nat) (r : PocketRec) (s : State) : State :=
  let a := (s.group.accs[i]).getD
    { group := k, denom := d, bundles := [], total := 0, recount := false, manyDeposits := false, carried := false }
  let a1 : Accumulator := { a with
    bundles := a.bundles ++ [number], total := a.total + count, recount := a.recount || r.recount
    manyDeposits := a.manyDeposits || r.manyDeposits, carried := a.carried || r.carried }
  s.setGroup { s.group with accs := s.group.accs.set i (some a1) }

/-- A brick closes, complete or partial (R119). -/
def closeBrick (i : Fin 16) (complete : Bool) (s : State) : State :=
  match s.group.accs[i] with
  | none => s
  | some a =>
    let number := s.group.nextBrick
    let s1 := (s.setGroup { s.group with nextBrick := nextNumber number s.freeCount }).setFreeCount (drawNumber number s.freeCount)
    let s2 := bump .bricks (emit (.brick { number := number, complete := complete, acc := a }) s1)
    s2.setGroup { s2.group with accs := s2.group.accs.set i none }

/-- A brick whose accumulator's list has reached the brick size closes complete (R118, R119). -/
def completeBrick (i : Option (Fin 16)) (k : GroupNo) (s : State) : State :=
  match i with
  | none => s
  | some i =>
    match s.group.accs[i] with
    | some a => if (groupAt k s).brickSize ≤ a.bundles.length then closeBrick i true s else s
    | none => s

/-! ### Closing a bundle (R87 to R89) -/

/-- The code of a bundle the cascade is offered: closed FULL with a code, and a brick size above 0 (R88, R118). -/
def offeredCode (close : BundleClose) (r : PocketRec) (brickSize : Nat) : Option Denom :=
  match close, r.denom with
  | .full, some (.code d) => if brickSize = 0 then none else some d
  | _, _ => none

/-- Steps 1 to 5 of a close (R88) of the bundle in record r at pocket g; the caller hands on the change of state. That a
BACKLOG halt or a notice of BUNDLES is reported between the BUNDLE and the BRICK report is the model's choice
(notes/assumptions/31.md). -/
def closeBundle (g : Gate) (r : PocketRec) (close : BundleClose) (s : State) : State :=
  match groupOf g s with
  | none => s
  | some k =>
    let number := s.pocket.nextBundle
    let count := if close = .full then r.target.getD r.confirmed else r.confirmed
    let s1 := (s.setPocket { s.pocket with nextBundle := nextNumber number s.freeCount }).setFreeCount (drawNumber number s.freeCount)
    let code := offeredCode close r (groupAt k s).brickSize
    let acc := code.bind fun d => accumulatorFor k d s1
    let s2 := match code, acc with
      | some d, some i => joinAccumulator i k d number count r s1
      | _, _ => s1
    let report : Report := .bundle
      { number := number, group := k, pocket := g, denom := r.denom
        deposit := if r.depositPure then r.deposit else none
        contributions := r.contributions, count := count, target := r.target.getD 0, close := close
        recount := r.recount, manyDeposits := r.manyDeposits, carried := r.carried
        unbricked := code.isSome && acc.isNone }
    completeBrick acc k (bump .bundles (emit report s2))

/-! ### Commitment (R81, R82, R96, R110) -/

/-- The bundle denomination a note gives (R82). -/
def BundleDenom.ofNote : Option Denom → BundleDenom
  | some d => .code d
  | none => .uncoded

/-- The record after one commitment (R81, R82), with the group's preset and purity at this moment and the OPEN deposit. -/
def PocketRec.commit (r : PocketRec) (strap : Nat) (depositPure : Bool) (denom : Option Denom) (deposit : DepositKey) : PocketRec :=
  let started : PocketRec := match r.target with
    | some _ =>
      { r with denom := if r.denom = some (BundleDenom.ofNote denom) then r.denom else some .mixed }
    | none =>
      { r with target := some strap, depositPure := depositPure, closing := .full
               denom := some (BundleDenom.ofNote denom)
               deposit := if depositPure then some deposit else none }
  { started with
    committed := r.committed + 1
    state := if started.target = some (r.committed + 1) then .closing else .openState }

/-- A commitment at a member of a group, made through the Group Sequencer (R61, R81, R110). -/
def commitMember (k : GroupNo) (g : Gate) (denom : Option Denom) (item : Word) (s : State) : State :=
  let grp := groupAt k s
  let r := pocketAt g s
  let s1 := putGroup k { grp with current := some g } s
  let s2 := putPocket g (r.commit grp.strap grp.depositPure denom (openKey s)) s1
  memberChanged g r.state (some item) s2

/-- A commitment at the quarantine pocket (R96). -/
def commitQuarantine (q : Gate) (s : State) : State :=
  let r := pocketAt q s
  if r.committed + 1 = s.pocket.limit then
    raiseCause .quarantineFull (putPocket q { r with committed := r.committed + 1, state := .full } s)
  else putPocket q { r with committed := r.committed + 1 } s

/-! ### Confirmation (R84, R85, R97, R101) -/

/-- The contribution list after one confirmed note of a deposit, and whether MANY_DEPOSITS is set (R85). -/
def addContribution (list : List (DepositKey × Nat)) (key : DepositKey) : List (DepositKey × Nat) × Bool :=
  if list.any fun p => p.1 == key then (list.map fun p => if p.1 = key then (p.1, p.2 + 1) else p, false)
  else if list.length < Config.contributionCapacity then (list ++ [(key, 1)], false)
  else (list, true)

/-- The record after one confirmation at a member (R84, R85). -/
def PocketRec.confirm (r : PocketRec) (key : DepositKey) : PocketRec :=
  let confirmed := r.confirmed + 1
  let state := if r.target = some confirmed then PocketState.full else r.state
  if r.depositPure then { r with confirmed := confirmed, state := state }
  else
    let (list, many) := addContribution r.contributions key
    { r with confirmed := confirmed, state := state, contributions := list, manyDeposits := r.manyDeposits || many }

/-- The close kind of a bundle whose last note has arrived (R84). -/
def ClosingKind.close : ClosingKind → BundleClose
  | .full => .full
  | .odd => .odd

/-- A confirmation at a member (R84, R198). -/
def confirmMember (g : Gate) (e : Entry) (s : State) : State :=
  let old := pocketAt g s
  let r := old.confirm (.ofId (depositId e.slot s))
  let s1 := countAccepted e.slot e.denom (putPocket g r s)
  let s2 := match e.denom with
    | some d => takeBacklog (bumpQuiet (.accepted d) s1)
    | none => s1
  if r.target = some r.confirmed then memberChanged g old.state none (closeBundle g r r.closing.close s2) else s2

/-- A confirmation at the quarantine pocket (R97). -/
def confirmQuarantine (q : Gate) (e : Entry) (s : State) : State :=
  let r := pocketAt q s
  let s1 := putPocket q { r with confirmed := r.confirmed + 1 } s
  let s2 := s1.setPocket { s1.pocket with
    manifest := s1.pocket.manifest ++ [{ item := e.item, depositId := depositId e.slot s, denom := e.denom
                                         serial := e.serial, caseRef := e.caseRef, reason := e.reason }] }
  countQuarantine e.slot s2

/-- A confirmation at pocket 0 (R101). -/
def confirmRunOut (e : Entry) (s : State) : State :=
  s.setPocket { s.pocket with
    runOut := bumpCount s.pocket.runOut
    runOutReasons := match e.reason.runOutIndex with
      | some i => adjust s.pocket.runOutReasons i bumpCount
      | none => s.pocket.runOutReasons }

/-- A confirmation handed to the Pocket Controller (R135). -/
def confirmAt (e : Entry) (s : State) : State :=
  match e.dest with
  | .runOut => confirmRunOut e s
  | .gated g => if s.pocket.quarantine = some g then confirmQuarantine g e s else confirmMember g e s

/-! ### Recount marks, odd closes, withdrawals (R86, R90, R91, R100) -/

/-- A recount mark (R86). -/
def recountMark (p : Dest) (s : State) : State :=
  match p with
  | .runOut => s
  | .gated g =>
    let r := pocketAt g s
    if s.pocket.quarantine = some g then putPocket g { r with recount := true } s
    else match r.state with
      | .openState | .closing => putPocket g { r with recount := true } s
      | .full => putPocket g { r with lateMark := true } s
      | .unassigned => s

/-- Whether an odd close asked of a member changes it (R90). -/
def PocketRec.oddClosable (r : PocketRec) : Bool := r.state == .openState && 0 < r.committed

/-- An odd close asked of a member (R90). -/
def oddClose (g : Gate) (s : State) : State :=
  let r := pocketAt g s
  if r.oddClosable then
    let odd : PocketRec := { r with target := some r.committed, closing := .odd }
    if r.confirmed = r.committed then
      let full : PocketRec := { odd with state := .full }
      memberChanged g r.state none (closeBundle g full .odd (putPocket g full s))
    else memberChanged g r.state none (putPocket g { odd with state := .closing } s)
  else s

/-- A member's record after a withdrawal of n places, n above 0 (R91; for one place in IDLE, R137 and notes/assumptions/10.md). -/
def PocketRec.withdraw (r : PocketRec) (n : Nat) : PocketRec :=
  let committed := r.committed - n
  let state := if r.state = .closing then PocketState.openState else r.state
  if committed = 0 ∧ r.confirmed = 0 then r.emptied state
  else { r with committed := committed, state := state, recount := r.recount || 0 < r.confirmed }

/-- A withdrawal at the quarantine pocket (R100). -/
def withdrawQuarantine (q : Gate) (n : Nat) (s : State) : State :=
  let r := pocketAt q s
  let committed := r.committed - n
  if r.state = .full ∧ committed < s.pocket.limit then
    endCause .quarantineFull (putPocket q { r with committed := committed, recount := true, state := .openState } s)
  else putPocket q { r with committed := committed, recount := true } s

/-- A withdrawal at a gated pocket: nothing when it lost nothing (R91, R100). -/
def withdrawAt (g : Gate) (n : Nat) (s : State) : State :=
  if n = 0 then s
  else if s.pocket.quarantine = some g then withdrawQuarantine g n s
  else
    let r := pocketAt g s
    memberChanged g r.state none (putPocket g (r.withdraw n) s)

/-- The withdrawals of a jam, pocket by pocket (R91, R144). -/
def withdrawAll (lost : List Entry) (s : State) : State :=
  allGates.foldl (fun s g => withdrawAt g (lost.countP fun e => e.dest == .gated g) s) s

/-! ### Pocket-cleared (R92, R93, R98, R102) -/

/-- The record of a carried bundle (R93). -/
def PocketRec.carry (r : PocketRec) (strap : Nat) : PocketRec :=
  let target := match r.closing with
    | .full => max strap r.inFlight
    | .odd => r.inFlight
  { r with
    committed := r.inFlight, confirmed := 0, target := some target, contributions := []
    recount := true, carried := true, manyDeposits := false, lateMark := false
    state := if target = r.inFlight then .closing else .openState }

/-- The pocket-cleared input at a gated pocket that is not the quarantine pocket (R92). -/
def clearMember (g : Gate) (s : State) : State :=
  let r := pocketAt g s
  match r.state with
  | .unassigned => bump .clearIgnored s
  | .full => memberCleared g (putPocket g { r.emptied .openState with recount := r.lateMark } s)
  | .openState | .closing =>
    if 0 < r.inFlight then
      let s1 := if 0 < r.confirmed then closeBundle g r .removedEarly s else s
      let strap := match groupOf g s with
        | some k => (groupAt k s).strap
        | none => 0
      memberCleared g (putPocket g (r.carry strap) s1)
    else if 0 < r.confirmed then memberCleared g (putPocket g (r.emptied .openState) (closeBundle g r .partialRemoved s))
    else
      memberCleared g
        (bump .clearIgnored (putPocket g { r with recount := false, manyDeposits := false, carried := false } s))

/-- The quarantine pocket emptied with its report (R98, R99). -/
def emptyQuarantine (q : Gate) (released : Bool) (s : State) : State :=
  let r := pocketAt q s
  let s1 := emit (.quarantine { pocket := q, released := released, count := r.confirmed, manifest := s.pocket.manifest
                                recount := r.recount, limit := s.pocket.limit }) s
  let s2 := putPocket q { r with committed := 0, confirmed := 0, recount := false, state := .openState } s1
  let s3 := s2.setPocket { s2.pocket with manifest := [] }
  if r.state = .full then endCause .quarantineFull s3 else s3

/-- The pocket-cleared input at the quarantine pocket (R98). -/
def clearQuarantine (q : Gate) (s : State) : State :=
  let r := pocketAt q s
  if 0 < r.inFlight then bump .clearIgnored s
  else if 0 < r.committed then emptyQuarantine q false s
  else bump .clearIgnored (putPocket q { r with recount := false } s)

/-- The pocket-cleared input at pocket 0 (R102). -/
def clearRunOut (s : State) : State :=
  if s.pocket.runOut = 0 then bump .clearIgnored s
  else
    let s1 := emit (.runOut s.pocket.runOut s.pocket.runOutReasons) s
    s1.setPocket { s1.pocket with runOut := 0, runOutReasons := Vector.replicate 11 0 }

/-! ### Placement (R109, R110) -/

/-- The members in search order: from the current member on, then from the first (R109). -/
def searchOrder (grp : GroupRec) : List Gate :=
  match grp.current with
  | some c => grp.members.dropWhile (· != c) ++ grp.members.takeWhile (· != c)
  | none => grp.members

/-- Whether a member can take a note (R109). -/
def placeable (denomPure : Bool) (denom : BundleDenom) (deposit : DepositKey) (r : PocketRec) : Bool :=
  r.state == .openState && r.enabled
    && (r.target.isNone
      || ((!denomPure || r.denom == some denom)
        && (!r.depositPure || r.deposit == some deposit)
        && r.closing == .full))

/-- The member offered for a note (R109). -/
def place (k : GroupNo) (denom : Option Denom) (s : State) : Option Gate :=
  (searchOrder (groupAt k s)).find? fun g =>
    placeable (groupAt k s).denomPure (BundleDenom.ofNote denom) (openKey s) (pocketAt g s)

/-- The overflow action of a failed placement (R110). -/
def overflowAction (k : GroupNo) (s : State) : State :=
  match (groupAt k s).overflow with
  | .runOut => s
  | .halt => raiseCause (.groupFull k) s

/-! ### Closures at a boundary (R115) -/

/-- Whether a boundary closes a member's bundle: OPEN with commitments, deposit-pure, and of the closing deposit (R115). -/
def PocketRec.closedBy (r : PocketRec) (key : DepositKey) : Bool := r.oddClosable && r.depositPure && r.deposit == some key

/-- The deposit-pure closures of a boundary (R115). -/
def closePure (key : DepositKey) (s : State) : State :=
  allGroups.foldl (fun s k =>
    (groupAt k s).members.foldl (fun s g => if (pocketAt g s).closedBy key then oddClose g s else s) s) s

/-! ### Resets (R105, R121) -/

/-- LINE_RESET in the Pocket Controller (R105); QUARANTINE_FULL ends. -/
def resetPockets (s : State) : State :=
  let pockets := Vector.ofFn fun g : Gate =>
    let r := s.pocket.pockets[g]
    if r.state = .unassigned then r else r.emptied .openState
  endCause .quarantineFull (s.setPocket { s.pocket with
    pockets := pockets, manifest := [], runOut := 0, runOutReasons := Vector.replicate 11 0 })

/-- LINE_RESET in the Group Sequencer (R121): current members, accumulators, arms; every GROUP_FULL ends. -/
def resetGroups (s : State) : State :=
  let groups := Vector.ofFn fun k : GroupNo => { s.group.groups[k] with current := s.group.groups[k].members.head? }
  let s1 := s.setGroup { s.group with groups := groups, accs := Vector.replicate 16 none }
  allGroups.foldl (fun s k => endCause (.groupFull k) (setArm k s)) s1

end Sys2Proof.Machine
end

