-- ==== Sys2Proof/Machine/Params.lean ====
section
/-! DEFINITION. The seventeen SET_PARAM rows (R19, section 11.6): one meaning for each parameter. -/

namespace Sys2Proof.Machine

/-- What a meaning answers with. -/
abbrev Result := Host.Outcome State Fault Refusal

/-- A SET_PARAM: its checks in order, its answer, and the write (R17, R19). -/
def setParam (tag : Byte) (checks : List (Bool × RefusalReason)) (write : State → State) (s : State) : State :=
  request tag 0x01 checks .none write s

/-- A value outside a parameter's range (R19). -/
def outside (low high : Nat) (v : Word) : Bool := v.toNat < low || high < v.toNat

/-- A change of a group's record. -/
def modifyGroup (g : GroupNo) (f : GroupRec → GroupRec) (s : State) : State := putGroup g (f (groupAt g s)) s

/-- LENGTH_MIN (R55). -/
def execSetParamLengthMin (tag : Byte) (v : Word) (s : State) : Result :=
  .next (setParam tag [(outside 1 2000 v || s.route.lengthMax < v.toNat, .range)]
    (fun s => s.setRoute { s.route with lengthMin := v.toNat }) s)

/-- LENGTH_MAX (R55). -/
def execSetParamLengthMax (tag : Byte) (v : Word) (s : State) : Result :=
  .next (setParam tag [(outside 1 2000 v || v.toNat < s.route.lengthMin, .range)]
    (fun s => s.setRoute { s.route with lengthMax := v.toNat }) s)

/-- REQUIRE_DEPOSIT (R149). -/
def execSetParamRequireDeposit (tag : Byte) (v : Word) (s : State) : Result :=
  .next (setParam tag [(outside 0 1 v, .range)]
    (fun s => s.setDeposit { s.deposit with requireDeposit := v == 1 }) s)

/-- The quarantine pocket changed: the former becomes UNASSIGNED, the new one OPEN and empty (R95). -/
def selectQuarantine (new : Option Gate) (s : State) : State :=
  if new = s.pocket.quarantine then s
  else
    let s1 := match s.pocket.quarantine with
      | some q => putPocket q ((pocketAt q s).emptied .unassigned) s
      | none => s
    let s2 := match new with
      | some q => putPocket q ((pocketAt q s1).emptied .openState) s1
      | none => s1
    s2.setPocket { s2.pocket with quarantine := new, manifest := [] }

/-- QUARANTINE_POCKET (R95). -/
def execSetParamQuarantinePocket (tag : Byte) (v : Word) (s : State) : Result :=
  let new := gateOfByte (v.extractLsb' 0 8)
  let held := s.pocket.quarantine.any fun q => 0 < (pocketAt q s).committed || s.pocket.manifest != []
  .next (setParam tag
    [(outside 0 15 v, .range), (s.line.state != .idle, .state), (new.any fun g => (groupOf g s).isSome, .duplicate),
     (new != s.pocket.quarantine && held, .state)]
    (selectQuarantine new) s)

/-- The quarantine limit changed, with the change of state and cause it brings (R96). -/
def setQuarantineLimit (limit : Nat) (s : State) : State :=
  let s1 := s.setPocket { s.pocket with limit := limit }
  match s.pocket.quarantine with
  | none => s1
  | some q =>
    let r := pocketAt q s
    if r.state = .openState ∧ r.committed = limit then raiseCause .quarantineFull (putPocket q { r with state := .full } s1)
    else if r.state = .full ∧ r.committed < limit then endCause .quarantineFull (putPocket q { r with state := .openState } s1)
    else s1

/-- QUARANTINE_LIMIT (R96). -/
def execSetParamQuarantineLimit (tag : Byte) (v : Word) (s : State) : Result :=
  let below := s.pocket.quarantine.any fun q => v.toNat < (pocketAt q s).committed
  .next (setParam tag [(outside 1 64 v || below, .range)] (setQuarantineLimit v.toNat) s)

/-- GAP_MIN (R125). -/
def execSetParamGapMin (tag : Byte) (v : Word) (s : State) : Result :=
  let below := s.track.loaded && v.toNat < s.track.geometry.lead.toNat + s.track.geometry.lag.toNat
  .next (setParam tag [(outside 0 65535 v || below, .range)]
    (fun s => s.setTrack { s.track with gapMin := v.toNat }) s)

/-- STALL_TIME (R139). -/
def execSetParamStallTime (tag : Byte) (v : Word) (s : State) : Result :=
  .next (setParam tag [(outside 10 2000 v, .range)] (fun s => s.setTrack { s.track with stallTime := v.toNat }) s)

/-- START_TIME (R139). -/
def execSetParamStartTime (tag : Byte) (v : Word) (s : State) : Result :=
  .next (setParam tag [(outside 100 5000 v, .range)] (fun s => s.setTrack { s.track with startTime := v.toNat }) s)

/-- TRACE_ALL (R141). -/
def execSetParamTraceAll (tag : Byte) (v : Word) (s : State) : Result :=
  .next (setParam tag [(outside 0 1 v, .range)] (fun s => s.setTrack { s.track with traceAll := v == 1 }) s)

/-- TRACE_REJECTS (R141). -/
def execSetParamTraceRejects (tag : Byte) (v : Word) (s : State) : Result :=
  .next (setParam tag [(outside 0 1 v, .range)] (fun s => s.setTrack { s.track with traceRejects := v == 1 }) s)

/-- NOTICE_MASK (R200, R202). -/
def execSetParamNoticeMask (tag : Byte) (v : Word) (s : State) : Result :=
  .next (setParam tag [(outside 0 (2 ^ 26 - 1) v, .range)]
    (fun s => s.setReport { s.report with noticeMask := v.extractLsb' 0 26 }) s)

/-- Strap preset of a group (R83, R107). -/
def execSetParamStrapPreset (tag : Byte) (g : GroupNo) (v : Word) (s : State) : Result :=
  .next (setParam tag [(outside 1 200 v, .range)] (modifyGroup g fun r => { r with strap := v.toNat }) s)

/-- Denomination purity of a group; the write ends GROUP_FULL(g) (R107, R111). -/
def execSetParamDenominationPurity (tag : Byte) (g : GroupNo) (v : Word) (s : State) : Result :=
  .next (setParam tag [(outside 0 1 v, .range)]
    (fun s => endCause (.groupFull g) (modifyGroup g (fun r => { r with denomPure := v == 1 }) s)) s)

/-- Deposit purity of a group; the write ends GROUP_FULL(g) (R107, R111). -/
def execSetParamDepositPurity (tag : Byte) (g : GroupNo) (v : Word) (s : State) : Result :=
  .next (setParam tag [(outside 0 1 v, .range)]
    (fun s => endCause (.groupFull g) (modifyGroup g (fun r => { r with depositPure := v == 1 }) s)) s)

/-- Whether an accumulator keyed to a group is in use (R107, R108). -/
def accumulating (g : GroupNo) (s : State) : Bool := s.group.accs.toList.any fun a => a.any (·.group == g)

/-- Brick size of a group (R107). A value outside the range is refused RANGE also while an accumulator is in use, by the order of R17
(notes/assumptions/28.md). -/
def execSetParamBrickSize (tag : Byte) (g : GroupNo) (v : Word) (s : State) : Result :=
  .next (setParam tag [(outside 0 20 v || v == 1, .range), (accumulating g s, .state)]
    (modifyGroup g fun r => { r with brickSize := v.toNat }) s)

/-- Low threshold of a group; the write sets the arm (R107, R112). -/
def execSetParamLowThreshold (tag : Byte) (g : GroupNo) (v : Word) (s : State) : Result :=
  .next (setParam tag [(outside 0 7 v, .range)]
    (fun s => setArm g (modifyGroup g (fun r => { r with lowThreshold := v.toNat }) s)) s)

/-- Overflow action of a group; a write of RUNOUT ends GROUP_FULL(g) (R107, R111). -/
def execSetParamOverflowAction (tag : Byte) (g : GroupNo) (v : Word) (s : State) : Result :=
  .next (setParam tag [(outside 0 1 v, .range)]
    (fun s =>
      let s1 := modifyGroup g (fun r => { r with overflow := if v == 0 then .runOut else .halt }) s
      if v == 0 then endCause (.groupFull g) s1 else s1) s)

end Sys2Proof.Machine
end

