-- ==== Sys2Proof/Machine/DepositEdit.lean ====
section
/-! DEFINITION. DECLARE and DECLARE_CANCEL (R151, R152). -/

namespace Sys2Proof.Machine

/-- The lines of a DECLARE that lie outside their ranges (R151). -/
def linesFaulty (lines : List (Byte × Half)) : Bool :=
  lines.isEmpty || 16 < lines.length || lines.any (fun l => 31 < l.1.toNat || l.2 == 0)
    || !decide (lines.map (·.1)).Nodup

/-- The slot of the held deposit of an id, OPEN or CLOSING (R151). -/
def heldSlot (id : Word) (s : State) : Option SlotNo := (s.deposit.deposits.find? fun d => d.id == id).map (·.slot)

/-- The entry of a DECLARE (R150, R151). -/
def newDeclaration (id : Word) (lines : List (Byte × Half)) (s : State) : Declaration :=
  { id := id, lines := lines.map fun l => (l.1.extractLsb' 0 5, l.2.toNat), bound := (heldSlot id s).isSome }

/-- DECLARE (R151). -/
def execDeclare (tag : Byte) (id : Word) (lines : List (Byte × Half)) (s : State) : Result :=
  .next (request tag 0x40
    [(linesFaulty lines, .range), ((declarationOf id s).isSome, .duplicate),
     (Config.declarationCapacity ≤ s.deposit.declarations.length, .full)]
    (.slot (heldSlot id s))
    (fun s => s.setDeposit { s.deposit with declarations := s.deposit.declarations ++ [newDeclaration id lines s] }) s)

/-- DECLARE_CANCEL (R152). -/
def execDeclareCancel (tag : Byte) (id : Word) (s : State) : Result :=
  .next (request tag 0x41
    [((declarationOf id s).isNone, .notFound), ((declarationOf id s).any (·.bound), .state)] .none
    (fun s => s.setDeposit { s.deposit with declarations := s.deposit.declarations.filter fun d => d.id != id }) s)

end Sys2Proof.Machine
end

