-- ==== Sys2Proof/Machine/Routes.lean ====
section
/-! DEFINITION. The Route Matcher's table (matching, winner, quota, exchange; chapter 3) and the Watch Filter's lookup (chapter 4). -/

namespace Sys2Proof.Machine

/-! ### Matching and the winner (R45, R46) -/

/-- Whether a masked key field admits a value: mask 0, or a value that agrees in every masked bit (R45). -/
def maskAdmits {w : Nat} (mask value : BitVec w) (v : Option (BitVec w)) : Bool :=
  mask == 0 || v.any fun x => (x ^^^ value) &&& mask == 0

/-- Whether a deposit kind set admits the OPEN deposit's kind, or the want of an OPEN deposit (R45). -/
def kindAdmits (set : BitVec 4) (kind : Option (Fin 4)) : Bool :=
  match kind with
  | some k => set.getLsbD k.val
  | none => set == 15

/-- Whether a note matches a route object (R45). Bit k of the fitness, orientation and deposit kind sets stands for value k, the model's
choice (notes/assumptions/26.md); the class set's order is section 11.3's. -/
def RouteObject.admits (o : RouteObject) (r : NoteRecord) (kind : Option (Fin 4)) : Bool :=
  o.classSet.getLsbD r.cls.code.toNat
    && maskAdmits o.denomMask o.denomValue (r.code.map (·.1))
    && maskAdmits o.seriesMask o.seriesValue (r.code.map (·.2))
    && o.fitnessSet.getLsbD r.fitness.val
    && o.orientSet.getLsbD r.orientation.val
    && kindAdmits o.kindSet kind

/-- A route object. -/
def objectAt (k : ObjectNo) (s : State) : RouteObject := s.route.objects[k]

/-- Replace a route object. -/
def putObject (k : ObjectNo) (o : RouteObject) (s : State) : State :=
  s.setRoute { s.route with objects := s.route.objects.set k o }

/-- Of the objects read so far, the one that wins: the lower priority class, and the earlier of equals (R46). -/
def pickLower (prio : ObjectNo → Nat) (best : Option ObjectNo) (k : ObjectNo) : Option ObjectNo :=
  match best with
  | none => some k
  | some b => if prio k < prio b then some k else some b

/-- The winner for a note (R46). -/
def winner (r : NoteRecord) (s : State) : Option ObjectNo :=
  let kind := (openDeposit s).map (·.kind)
  let candidates := s.route.active.filter fun k => !(objectAt k s).spent && (objectAt k s).admits r kind
  candidates.foldl (pickLower fun k => (objectAt k s).priority) none

/-! ### Quotas (R47, R48) -/

/-- The winner's quota decreases at a commitment, and is spent at 0 (R47, R48). -/
def spendQuota (k : ObjectNo) (item : Word) (s : State) : State :=
  let o := objectAt k s
  match o.preset with
  | none => s
  | some preset =>
    if o.remaining - 1 = 0 then
      emit (.routeSpent k preset o.priority item) (putObject k { o with remaining := 0, spent := true } s)
    else putObject k { o with remaining := o.remaining - 1 } s

/-! ### The lists (R41 to R44, R51) -/

/-- An object entering ACTIVE: its quota loaded, or 0 without one, and its spent flag cleared (R43, R51). -/
def RouteObject.armed (o : RouteObject) : RouteObject := { o with remaining := o.preset.getD 0, spent := false }

/-- An object leaving ACTIVE: its spent flag cleared, its quota remaining kept (R44, R51). -/
def RouteObject.retired (o : RouteObject) : RouteObject := { o with spent := false }

/-- Whether an object is in FREE: in neither list (R41). -/
def isFree (k : ObjectNo) (s : State) : Bool := !s.route.active.contains k && !s.route.standby.contains k

/-- A list with an object put behind the given number of others, at the tail when there are fewer (R43). -/
def placeInList (list : List ObjectNo) (k : ObjectNo) (position : Nat) : List ObjectNo :=
  list.take position ++ k :: list.drop position

/-- The exchange of ACTIVE and STANDBY (R51). -/
def exchange (s : State) : State :=
  let u := s.route
  let objects := Vector.ofFn fun k : ObjectNo =>
    if u.standby.contains k then (u.objects[k]).armed
    else if u.active.contains k then (u.objects[k]).retired
    else u.objects[k]
  s.setRoute { u with objects := objects, active := u.standby, standby := u.active }

/-- The ROUTES report of an exchange just made (R52). -/
def routesReport (cardItem depositId : Option Word) (s : State) : Report :=
  .routes { cardItem := cardItem, depositId := depositId, active := s.route.active, standby := s.route.standby }

/-- A pending swap taken at a boundary (R50). -/
def swapAtBoundary (cardItem : Word) (depositId : Option Word) (s : State) : State :=
  if s.route.swapPending then
    let s1 := exchange s
    let s2 := s1.setRoute { s1.route with swapPending := false }
    emit (routesReport (some cardItem) depositId s2) s2
  else s

/-! ### The watch lookup (R72, R73) -/

/-- Whether an entry matches a serial and the item's denomination (R72). -/
def WatchEntry.hits (e : WatchEntry) (serial : Serial) (denom : Option Denom) : Bool :=
  e.serial == serial && (e.denom.isNone || e.denom == denom)

/-- A lookup: the oldest match, with the tally it counts (R72, R73). -/
def lookup (serial : Serial) (denom : Option Denom) (s : State) : State × Option WatchEntry :=
  if s.watch.index.read (cellOf serial) = 0 then (s, none)
  else match s.watch.list.find? (·.hits serial denom) with
    | some e => (bump .watchHits s, some e)
    | none => (bump .watchFalse s, none)

end Sys2Proof.Machine
end

