-- ==== Sys2Proof/Machine/Track.lean ====
section
/-! DEFINITION. The Track Monitor: windows and entries, gates, item closes, arrivals, missing items (chapter 7), and the entry
into JAMMED (R182). -/

namespace Sys2Proof.Machine

/-! ### Geometry and windows (R128) -/

/-- D(p), the distance from the read point to a destination. -/
def distance (geo : Geometry) : Dest → Nat
  | .runOut => geo.d[0].toNat
  | .gated g => (geo.d[g.val + 1]'(by omega)).toNat

/-- The open position of a gated pocket for an item: its leading position plus D(p) less LEAD (R60, R128). -/
def openPosition (geo : Geometry) (lead : Pos) (g : Gate) : Pos :=
  behind (ahead lead (distance geo (.gated g))) geo.lead.toNat

/-- The divert window at a gated destination (R128). -/
def divertWindow (geo : Geometry) (lead : Pos) (length : Nat) (g : Gate) : DivertWindow :=
  { opens := openPosition geo lead g
    closes := ahead lead (length + distance geo (.gated g) + geo.lag.toNat)
    opened := false, closed := false }

/-- The arrival window at a destination, or the shadow window at a shadow pocket (R128). -/
def arrivalWindow (geo : Geometry) (lead : Pos) (length : Nat) (d : Dest) : Window :=
  { first := behind (ahead lead (distance geo d)) geo.tol.toNat
    last := ahead lead (distance geo d + length + geo.tol.toNat) }

/-! ### Gates (R131) -/

/-- Whether an entry holds gate g in divert. -/
def Entry.holdsGate (g : Gate) (e : Entry) : Bool :=
  e.dest == .gated g && e.divert.any fun w => w.opened && !w.closed

/-- The gate outputs a Track Queue asks for (R131). -/
def gatesOf (queue : List Entry) : Vector Bool 15 := Vector.ofFn fun g : Gate => queue.any (·.holdsGate g)

/-- Replace the Track Queue and set the gate outputs with it (R131). -/
def setQueue (queue : List Entry) (s : State) : State :=
  s.setTrack { s.track with queue := queue, gates := gatesOf queue }

/-- A divert window at the position reached: opened at its open position, closed at its close position. -/
def DivertWindow.reach (w : DivertWindow) (x : Pos) : DivertWindow :=
  { w with opened := w.opened || w.opens == x, closed := w.closed || w.closes == x }

/-- All open and close positions reached now are taken before the gates are set (R131, notes/assumptions/20.md). -/
def takeGateExpiries (s : State) : State :=
  setQueue (s.track.queue.map fun e => { e with divert := e.divert.map (·.reach s.edge.position) }) s

/-! ### Item close and TRACE (R140, R142) -/

/-- The TRACE report of an item's close (R142). -/
def traceReport (e : Entry) (close : ItemClose) (arrival : Option (Fin 16)) (s : State) : Report :=
  .trace { item := e.item, kind := e.kind, seq := e.seq, cls := e.cls, denom := e.denom, serial := e.serial
           depositId := depositId e.slot s, lead := e.lead, length := e.length, gap := e.gap, dest := e.dest
           shadow := e.shadow.map (·.pocket), reason := e.reason, route := e.route, caseRef := e.caseRef
           close := close, position := s.edge.position, arrival := arrival }

/-- The RUNOUT tally of a close (R198). -/
def tallyClose (e : Entry) (close : ItemClose) (s : State) : State :=
  match close, e.dest with
  | .shadowed, _ => bump .pitchShadowed s
  | .confirmed, .runOut =>
    match e.reason.tally with
    | some t => bump t s
    | none => s
  | .confirmed, .gated _ => s
  | .lost, _ => s

/-- An item closes: tally, TRACE report when one is due, hand-off to the Deposit Unit (R140, notes/assumptions/15.md). -/
def closeItem (e : Entry) (close : ItemClose) (arrival : Option (Fin 16)) (traced : Bool) (s : State) : State :=
  let s1 := tallyClose e close s
  let s2 := if traced then emit (traceReport e close arrival s1) s1 else s1
  closeInDeposit e close s2

/-- The Track Queue without an entry. -/
def removeEntry (e : Entry) (s : State) : State := setQueue (s.track.queue.erase e) s

/-! ### The entry into JAMMED (R182, R144, R36) -/

/-- The loss record of an entry (R143), with the case reference it carries (R77). -/
def lossRecord (s : State) (e : Entry) : LossRecord :=
  { item := e.item, kind := e.kind, depositId := depositId e.slot s, dest := e.dest, denom := e.denom, caseRef := e.caseRef }

/-- The loss record of a held edge (R36). -/
def edgeLoss (e : HeldEdge) : LossRecord :=
  { item := e.item, kind := .unread, depositId := none, dest := .runOut, denom := none, caseRef := none }

/-- The items in flight at the Track Monitor: the Track Queue, then the item in waiting (R144). -/
def inFlightItems (s : State) : List Entry := s.track.queue ++ s.track.waiting.toList

/-- Steps 1 to 3 of R144: the items become loss records and every gate is through. -/
def loseQueue (s : State) : State :=
  let records := (inFlightItems s).map (lossRecord s)
  setQueue [] (s.setTrack { s.track with waiting := none, losses := s.track.losses ++ records })

/-- The TRACE reports of lost items (R144 step 5). -/
def traceLosses (lost : List Entry) (s : State) : State :=
  lost.foldl (fun s e => if e.trace then emit (traceReport e .lost none s) s else s) s

/-- The held edges move to the tail of the Loss List (R36). -/
def loseEdges (s : State) : State :=
  let s1 := s.setTrack { s.track with losses := s.track.losses ++ s.edge.fifo.map edgeLoss }
  s1.setEdge { s1.edge with fifo := [] }

/-- The entry into JAMMED, taken whole in the order of R182. -/
def enterJam (cause : JamCause) (s : State) : State :=
  let previous := s.line.state
  let lost := inFlightItems s
  let edges := s.edge.fifo.length
  let s1 := enterLine .jammed none s
  let s2 := loseQueue (s1.setLine { s1.line with jam := some cause })
  let s3 := loseInDeposits lost (traceLosses lost (withdrawAll lost s2))
  let s4 := bump .jams (loseEdges s3)
  let s5 := emit (.jam { cause := cause, previous := previous, position := s4.edge.position, entriesLost := lost.length
                         edgesLost := edges, causes := s4.line.causes }) s4
  emit (lineReport previous .jam (some (.jam cause)) s5) s5

/-- A jam cause handed to the Line State Unit (R181). -/
def handJam (cause : JamCause) (s : State) : State :=
  if s.line.state = .jammed then s else enterJam cause s

/-! ### Making an entry (R129, R130, R132, R141) -/

/-- The outcome of a disposition (R62), with the watch entry hit. -/
structure Disposition where
  /-- destination -/
  dest : Dest
  /-- reason -/
  reason : Reason
  /-- route object -/
  route : Option ObjectNo
  /-- route trace -/
  routeTrace : Bool
  /-- the watch entry hit -/
  hit : Option WatchEntry
deriving DecidableEq, Repr

/-- A disposition to run-out with a reason and no route object. -/
def Disposition.toRunOut (reason : Reason) : Disposition :=
  { dest := .runOut, reason := reason, route := none, routeTrace := false, hit := none }

/-- An admitted item's fields (R28). -/
structure Item where
  /-- the edge it was built from -/
  edge : HeldEdge
  /-- kind -/
  kind : ItemKind
  /-- class -/
  cls : Option NoteClass
  /-- denomination -/
  denom : Option Denom
  /-- serial -/
  serial : Option Serial
deriving DecidableEq, Repr

/-- The length of a held edge, absent with its trailing position (R23). -/
def HeldEdge.length (e : HeldEdge) : Option Nat := e.trail.map (fwd e.lead)

/-- The shadow pocket of an item with reason PITCH (R132). -/
def shadowPocket (item : Word) (lead : Pos) (s : State) : Option Gate :=
  match s.track.queue.find? fun e => e.item == item - 1 with
  | none => none
  | some before =>
    match before.dest, before.divert with
    | .gated p, some w =>
      let d := fwd (ahead lead (distance s.track.geometry (.gated p))) w.closes
      if 0 < d ∧ d < 2 ^ 23 then some p else none
    | _, _ => none

/-- The length an entry's windows use: the item's own, or LENGTH_MAX (R128). -/
def windowLength (length : Option Nat) (s : State) : Nat := length.getD s.route.lengthMax

/-- The trace flag of an entry (R141). -/
def traceFlag (disp : Disposition) (s : State) : Bool :=
  s.track.traceAll || (s.track.traceRejects && disp.dest == .runOut) || disp.routeTrace

/-- The entry of an admitted item (R129). -/
def makeEntry (i : Item) (disp : Disposition) (slot : Option SlotNo) (s : State) : Entry :=
  let geo := s.track.geometry
  let len := windowLength i.edge.length s
  let shadow := if disp.reason = .pitch then shadowPocket i.edge.item i.edge.lead s else none
  { item := i.edge.item, seq := i.edge.seq, kind := i.kind, cls := i.cls, denom := i.denom, serial := i.serial, slot := slot
    lead := i.edge.lead, length := i.edge.length, gap := i.edge.gap, dest := disp.dest, reason := disp.reason
    route := disp.route, caseRef := disp.hit.map (·.caseRef), lateMark := false
    shadow := shadow.map fun p => { pocket := p, window := arrivalWindow geo i.edge.lead len (.gated p) }
    divert := match disp.dest with
      | .gated g => some (divertWindow geo i.edge.lead len g)
      | .runOut => none
    arrival := arrivalWindow geo i.edge.lead len disp.dest
    trace := traceFlag disp s }

/-- An admitted item taken by the Track Monitor (R129), or kept in waiting for a TRACK_FULL jam (R130). The waiting
item has the fields its entry would have had, a PITCH item's shadow pocket with them (notes/assumptions/29.md). -/
def enterTrack (i : Item) (disp : Disposition) (slot : Option SlotNo) (s : State) : State :=
  let e := makeEntry i disp slot s
  if s.track.queue.length < Config.trackCapacity then s.setTrack { s.track with queue := s.track.queue ++ [e] }
  else handJam (.trackFull e.item) (s.setTrack { s.track with waiting := some e })

/-! ### Arrivals (R133 to R136) -/

/-- Whether an entry is a candidate for a pulse at pocket p and position x (R134). -/
def Entry.candidate (p : Dest) (x : Pos) (e : Entry) : Bool :=
  (e.dest == p && e.arrival.holds x)
    || e.shadow.any fun sh => Dest.gated sh.pocket == p && sh.window.holds x

/-- A confirmation at the destination (R135). -/
def confirmEntry (e : Entry) (p : Fin 16) (s : State) : State :=
  closeItem e .confirmed (some p) e.trace (confirmAt e (removeEntry e s))

/-- A shadow confirmation (R133). -/
def confirmShadow (e : Entry) (p : Fin 16) (s : State) : State :=
  closeItem { e with reason := .pitchShadowed } .shadowed (some p) e.trace (recountMark (pocketOf p) (removeEntry e s))

/-- A stray arrival (R136). -/
def strayArrival (p : Fin 16) (s : State) : State :=
  let s1 := bump .strayArrivals s
  match s.line.state with
  | .run | .drain | .halt => handJam (.stray p) (recountMark (pocketOf p) s1)
  | .idle | .jammed => s1

/-- An arrival pulse matched to the oldest candidate (R134). -/
def takeArrival (p : Fin 16) (s : State) : State :=
  match s.track.queue.find? (·.candidate (pocketOf p) s.edge.position) with
  | none => strayArrival p s
  | some e => drainEnd (if e.dest = pocketOf p then confirmEntry e p s else confirmShadow e p s)

/-! ### Missing items (R137) -/

/-- An item declared missing in IDLE (R137). -/
def declareMissing (e : Entry) (s : State) : State :=
  let s1 := removeEntry e s
  let s2 := match e.dest with
    | .gated g => withdrawAt g 1 s1
    | .runOut => s1
  closeItem e .lost none true s2

/-- The entries whose arrival window ends at the present position, oldest first. -/
def endedEntries (s : State) : List Entry := s.track.queue.filter fun e => e.arrival.last == s.edge.position

/-- The ends of arrival windows at the present position (R137). -/
def takeArrivalEnds (s : State) : State :=
  match s.line.state, endedEntries s with
  | .jammed, _ => s
  | .idle, ended => ended.foldl (fun s e => declareMissing e s) s
  | .run, e :: _ | .drain, e :: _ | .halt, e :: _ => handJam (.missing e.item) s
  | .run, [] | .drain, [] | .halt, [] => s

end Sys2Proof.Machine
end

