-- ==== Sys2Proof/Machine/Admission.lean ====
section
/-! DEFINITION. Admission: the disposition decision and the card disposition (R54 to R63), separators and their boundaries
(R153 to R157), the search for a record's edge, slips, late and stray records, deadlines (R28 to R35). -/

namespace Sys2Proof.Machine

/-! ### The disposition decision (R54) -/

/-- Check 1: a length or a gap that fails (R55, R63). -/
def admissionFault (e : HeldEdge) (s : State) : Option Reason :=
  let lengthOk := e.length.any fun n => s.route.lengthMin ≤ n && n ≤ s.route.lengthMax
  if !lengthOk then some .length
  else if e.gap.any (· < s.track.gapMin) then some .pitch
  else none

/-- Check 6: the open position of gated pocket g has already been reached (R60). -/
def tooLate (e : HeldEdge) (g : Gate) (s : State) : Bool :=
  reached (openPosition s.track.geometry e.lead g) s.edge.position

/-- The quarantine pocket, when there is one and it is not FULL (R57, R59). -/
def quarantineOpen (s : State) : Option Gate := s.pocket.quarantine.filter fun q => (pocketAt q s).state != .full

/-- The WATCH_HIT report of a hit (R76). -/
def watchHitReport (item : Word) (depositId : Option Word) (serial : Serial) (denom : Option Denom) (w : WatchEntry)
    (reason : Reason) (dest : Dest) : Report :=
  .watchHit { item := item, depositId := depositId, serial := serial, denom := denom, caseRef := w.caseRef
              entryDenom := w.denom, held := reason == .watch, reason := reason, pocket := dest }

/-- The end of a decision that hit a watch entry: the timing check, the commitment, and the WATCH_HIT report (R57, R61). -/
def decideWatch (e : HeldEdge) (serial : Serial) (denom : Option Denom) (w : WatchEntry) (s : State) : State × Disposition :=
  let report (disp : Disposition) (s : State) : State × Disposition :=
    (emit (watchHitReport e.item ((openDeposit s).map (·.id)) serial denom w disp.reason disp.dest) s, disp)
  match quarantineOpen s with
  | none => report { Disposition.toRunOut .watchUnheld with hit := some w } s
  | some q =>
    if tooLate e q s then report { Disposition.toRunOut .late with hit := some w } s
    else report { dest := .gated q, reason := .watch, route := none, routeTrace := false, hit := some w } (commitQuarantine q s)

/-- Checks 4 to 7 for a note that missed the watch list (R58 to R61). -/
def decideRoute (e : HeldEdge) (r : NoteRecord) (s : State) : State × Disposition :=
  match winner r s with
  | none => (s, .toRunOut .noRoute)
  | some k =>
    let o := objectAt k s
    let denom := r.code.map (·.1)
    let out (dest : Dest) (reason : Reason) : Disposition :=
      { dest := dest, reason := reason, route := some k, routeTrace := o.trace, hit := none }
    match o.target with
    | .runOut => (spendQuota k e.item s, out .runOut .routed)
    | .quarantine =>
      match quarantineOpen s with
      | none => (s, out .runOut .noSpace)
      | some q =>
        if tooLate e q s then (s, out .runOut .late)
        else (spendQuota k e.item (commitQuarantine q s), out (.gated q) .routed)
    | .group g =>
      if (groupAt g s).members = [] then (s, out .runOut .noSpace)
      else match place g denom s with
        | none => (overflowAction g s, out .runOut .noSpace)
        | some p =>
          if tooLate e p s then (s, out .runOut .late)
          else (spendQuota k e.item (commitMember g p denom e.item s), out (.gated p) .placed)

/-- The disposition decision of a NOTE item (R54). -/
def decision (e : HeldEdge) (r : NoteRecord) (s : State) : State × Disposition :=
  match admissionFault e s with
  | some reason => (s, .toRunOut reason)
  | none =>
    if s.deposit.requireDeposit && (openDeposit s).isNone then (s, .toRunOut .noDeposit)
    else match r.serial with
      | none => decideRoute e r s
      | some serial =>
        match lookup serial (r.code.map (·.1)) s with
        | (s1, some w) => decideWatch e serial (r.code.map (·.1)) w s1
        | (s1, none) => decideRoute e r s1

/-- The card disposition (R63). -/
def cardDisposition (e : HeldEdge) (s : State) : Disposition := .toRunOut ((admissionFault e s).getD .card)

/-! ### Separators (R153 to R157) -/

/-- The DEPOSIT_FAULT report (R154). -/
def depositFault (noSlot : Bool) (r : SeparatorRecord) (item : Word) (s : State) : Report :=
  .depositFault { noSlot := noSlot, separatorId := r.depositId, parent := r.parent, cardItem := item
                  openDeposit := (openDeposit s).map (·.id)
                  slots := allSlots.map fun k => (depositAt k s).map fun d => (d.state, d.id) }

/-- A lost boundary (R154). -/
def loseBoundary (noSlot : Bool) (r : SeparatorRecord) (item : Word) (s : State) : State :=
  let s1 := modifySlot ((openDeposit s).map (·.slot)) (fun d => { d with boundaryLost := true }) s
  let s2 := emit (depositFault noSlot r item s1) s1
  if noSlot then raiseCause .depositFull s2 else s2

/-- A deposit as it opens (R147, R155). -/
def newDeposit (k : SlotNo) (r : SeparatorRecord) (item : Word) : Deposit :=
  { slot := k, id := r.depositId, parent := r.parent, kind := r.kind, state := .openState, cardItem := item
    accepted := Vector.replicate 33 0, runOut := Vector.replicate 10 0, cards := 0, quarantine := 0, watchHits := 0
    lost := 0, inFlight := 0, itemCount := 0, firstItem := none, lastItem := none, boundaryLost := false }

/-- Step 4 of a boundary: the new deposit opens in a slot and its waiting declaration is bound (R155). -/
def openNew (k : SlotNo) (r : SeparatorRecord) (item : Word) (s : State) : State :=
  s.setDeposit { s.deposit with
    deposits := s.deposit.deposits ++ [newDeposit k r item]
    declarations := s.deposit.declarations.map fun e => if e.id = r.depositId then { e with bound := true } else e }

/-- Steps 1 to 3 of a boundary for the deposit that was OPEN (R155, R157). -/
def endOpen (d : Option Deposit) (test : Bool) (s : State) : State :=
  let s1 := modifySlot (d.map (·.slot)) (fun d => { d with state := .closing }) s
  let s2 := closePure (.ofId (d.map (·.id))) s1
  match d with
  | some d => if test then testClose d.slot false s2 else s2
  | none => s2

/-- A boundary taken, and the slot its card is attributed to (R155); a late separator's card is not attributed again (R157). -/
def takeBoundary (r : SeparatorRecord) (item : Word) (late : Bool) (s : State) : State × Option SlotNo :=
  let before := openDeposit s
  let s1 := endOpen before (!r.endFlag || late) s
  if r.endFlag then (swapAtBoundary item none s1, before.map (·.slot))
  else match freeSlot s1 with
    | some k => (swapAtBoundary item (some r.depositId) (openNew k r item s1), some k)
    | none => (s1, none)

/-- Whether a CLOSING deposit carries an id (R153). -/
def idInUse (id : Word) (s : State) : Bool := s.deposit.deposits.any fun d => d.state == .closing && d.id == id

/-- A separator taken whole: the first case of R153 that holds, and the slot its card is attributed to. -/
def takeSeparator (r : SeparatorRecord) (item : Word) (late : Bool) (s : State) : State × Option SlotNo :=
  let before := openDeposit s
  if before.any (·.id == r.depositId) then (bump .depositRepeat s, before.map (·.slot))
  else if !r.endFlag && idInUse r.depositId s then (loseBoundary false r item s, before.map (·.slot))
  else if !r.endFlag && (freeSlot s).isNone then (loseBoundary true r item s, before.map (·.slot))
  else takeBoundary r item late s

/-! ### Admission (R28) -/

/-- The FIFO without its head. -/
def popEdge (s : State) : State := s.setEdge { s.edge with fifo := s.edge.fifo.tail }

/-- The end of an admission: attribution, then entry in the Track Queue (R28, R158). -/
def finishAdmission (i : Item) (disp : Disposition) (slot : Option SlotNo) (s : State) : State :=
  enterTrack i disp slot (attributeItem slot i.edge.item disp.hit.isSome s)

/-- The slot of the OPEN deposit (R158). -/
def openSlot (s : State) : Option SlotNo := (openDeposit s).map (·.slot)

/-- An item admitted without a record (R28). -/
def unreadItem (e : HeldEdge) : Item := { edge := e, kind := .unread, cls := none, denom := none, serial := none }

/-- The oldest held edge admitted UNREAD (R28); nothing when the FIFO is empty (R35). -/
def admitUnread (s : State) : State :=
  match s.edge.fifo with
  | [] => s
  | e :: _ => finishAdmission (unreadItem e) (.toRunOut .unread) (openSlot s) (popEdge s)

/-- A number of edges admitted UNREAD, oldest first (R29, R31). -/
def admitUnreads : Nat → State → State
  | 0, s => s
  | n + 1, s => admitUnreads n (admitUnread s)

/-- The oldest held edge admitted with a NOTE record (R28). -/
def admitNote (e : HeldEdge) (r : NoteRecord) (s : State) : State :=
  let (s1, disp) := decision e r (popEdge s)
  finishAdmission { edge := e, kind := .note, cls := some r.cls, denom := r.code.map (·.1), serial := r.serial } disp
    (openSlot s1) s1

/-- The oldest held edge admitted with a SEPARATOR record (R28, R63). -/
def admitCard (e : HeldEdge) (r : SeparatorRecord) (s : State) : State :=
  let s1 := popEdge s
  let disp := cardDisposition e s1
  let (s2, slot) := takeSeparator r e.item false s1
  finishAdmission { edge := e, kind := .card, cls := none, denom := none, serial := none } disp slot s2

/-! ### Records (R30 to R33) -/

/-- The first element with a property changed. -/
def updateFirst {α : Type} (p : α → Bool) (f : α → α) : List α → List α
  | [] => []
  | x :: xs => if p x then f x :: xs else x :: updateFirst p f xs

/-- An UNREAD entry with a sequence that has not taken a late record (R30). -/
def Entry.awaits (seq : Byte) (e : Entry) : Bool := e.kind == .unread && e.seq == seq && !e.lateMark

/-- The entry a late record changes (R32). -/
def updateAwaiting (seq : Byte) (f : Entry → Entry) (s : State) : State :=
  s.setTrack { s.track with queue := updateFirst (·.awaits seq) f s.track.queue }

/-- An entry that has taken its late record (R32). -/
def Entry.takeLate (cls : Option NoteClass) (denom : Option Denom) (serial : Option Serial) (caseRef : Option Word)
    (e : Entry) : Entry :=
  { e with cls := cls, denom := denom, serial := serial, reason := .lateRecord, lateMark := true
           caseRef := caseRef }

/-- A late NOTE record applied to its entry (R32, R75). -/
def applyLateNote (e : Entry) (r : NoteRecord) (s : State) : State :=
  let denom := r.code.map (·.1)
  let take (caseRef : Option Word) (s : State) : State :=
    updateAwaiting r.seq (·.takeLate (some r.cls) denom r.serial caseRef) s
  match r.serial with
  | none => take none s
  | some serial =>
    match lookup serial denom s with
    | (s1, none) => take none s1
    | (s1, some w) =>
      let s2 := countWatchHit e.slot (take (some w.caseRef) s1)
      emit (watchHitReport e.item (depositId e.slot s2) serial denom w .lateRecord .runOut) s2

/-- A late SEPARATOR record applied to its entry (R32, R157). -/
def applyLateSeparator (e : Entry) (r : SeparatorRecord) (s : State) : State :=
  (takeSeparator r e.item true (updateAwaiting r.seq (·.takeLate none none none none) s)).1

/-- A stray record (R33). -/
def strayRecord (s : State) : State := bump .strayRecords s

/-- A record taken: match, slip, late or stray by its sequence (R30, R31, R35). -/
def takeRecord (seq : Byte) (admitEdge : HeldEdge → State → State) (applyLate : Entry → State → State) (s : State) : State :=
  match s.edge.fifo.findIdx? (·.seq == seq) with
  | some n =>
    let s1 := admitUnreads n s
    match s1.edge.fifo with
    | [] => strayRecord s1
    | e :: _ => if n = 0 then admitEdge e s1 else bump .slips (admitEdge e s1)
  | none =>
    match s.track.queue.find? (·.awaits seq) with
    | some e => applyLate e s
    | none => strayRecord s

/-- A NOTE record taken (R30). -/
def takeNote (r : NoteRecord) (s : State) : State :=
  takeRecord r.seq (fun e => admitNote e r) (fun e => applyLateNote e r) s

/-- A SEPARATOR record taken (R30). -/
def takeSeparatorRecord (r : SeparatorRecord) (s : State) : State :=
  takeRecord r.seq (fun e => admitCard e r) (fun e => applyLateSeparator e r) s

/-! ### Deadlines (R29) -/

/-- How many edges are admitted when the counter stands at a position: every edge up to the youngest whose deadline it is. -/
def dueEdges (now : Pos) (fifo : List HeldEdge) : Nat :=
  fifo.length - (fifo.reverse.takeWhile fun e => e.deadline != now).length

/-- The deadlines reached at the present position taken (R29). -/
def takeDeadlines (s : State) : State := admitUnreads (dueEdges s.edge.position s.edge.fifo) s

end Sys2Proof.Machine
end

