-- ==== Sys2Proof/Machine/ReportLayout.lean ====
section
/-! DEFINITION. The bytes of the Report link: report bodies (section 11.5), segments and frames (R190, R191, section 11.2). -/

namespace Sys2Proof.Machine

/-! ### Common encoding (section 11.1) -/

/-- A one-byte number. -/
def byteOf (n : Nat) : Byte := BitVec.ofNat 8 n

/-- A count or distance, two bytes. -/
def countBytes (n : Nat) : List Byte := bytes16 (BitVec.ofNat 16 n)

/-- A flag sent as 0 or 1. -/
def flagByte (b : Bool) : Byte := if b then 1 else 0

/-- An optional field: a presence byte, then the field when present. -/
def optionBytes {α : Type} (f : α → List Byte) : Option α → List Byte
  | some x => 1 :: f x
  | none => [0]

/-- A list: a count byte, then the items. -/
def listBytes {α : Type} (f : α → List Byte) (xs : List α) : List Byte := byteOf xs.length :: xs.flatMap f

/-- A denomination field; 0xFF when absent. -/
def denomByte : Option Denom → Byte
  | some d => d.zeroExtend 8
  | none => 0xFF

/-- A bundle's denomination field. -/
def bundleDenomByte : Option BundleDenom → Byte
  | some (.code d) => d.zeroExtend 8
  | some .mixed => 0xFD
  | some .uncoded => 0xFE
  | none => 0xFF

/-- A serial, its length first; length 0 when absent. -/
def serialBytes (s : Option Serial) : List Byte := byteOf (s.getD []).length :: s.getD []

/-- Result and reason codes. -/
def RefusalReason.code : RefusalReason → Byte
  | .format => 1 | .range => 2 | .state => 3 | .full => 4 | .duplicate => 5 | .notFound => 6 | .pending => 7 | .causes => 8

/-- Disposition reason codes. -/
def Reason.code : Reason → Byte
  | .placed => 0 | .watch => 1 | .routed => 2 | .length => 3 | .pitch => 4 | .noDeposit => 5 | .watchUnheld => 6
  | .noRoute => 7 | .noSpace => 8 | .late => 9 | .card => 10 | .unread => 11 | .lateRecord => 12 | .pitchShadowed => 13

/-- Line state codes. -/
def LineState.code : LineState → Byte
  | .idle => 0 | .run => 1 | .drain => 2 | .halt => 3 | .jammed => 4

/-- A resume target as a line state code. -/
def Resume.code : Resume → Byte
  | .run => 1 | .drain => 2

/-- Pocket state codes. -/
def PocketState.code : PocketState → Byte
  | .unassigned => 0 | .openState => 1 | .closing => 2 | .full => 3

/-- Item kind codes. -/
def ItemKind.code : ItemKind → Byte
  | .note => 0 | .card => 1 | .unread => 2

/-- Close kind codes of an item. -/
def ItemClose.code : ItemClose → Byte
  | .confirmed => 0 | .shadowed => 1 | .lost => 2

/-- Jam cause codes. -/
def JamCause.code : JamCause → Byte
  | .missing _ => 0 | .stray _ => 1 | .trackFull _ => 2 | .stall => 3

/-- The item a jam cause gives. -/
def JamCause.item : JamCause → Option Word
  | .missing i | .trackFull i => some i
  | .stray _ | .stall => none

/-- The pocket a jam cause gives. -/
def JamCause.pocket : JamCause → Option (Fin 16)
  | .stray p => some p
  | .missing _ | .trackFull _ | .stall => none

/-- A cause's bit in the cause set (section 11.1). -/
def Cause.bit : Cause → Nat
  | .operator => 0 | .command => 1 | .quarantineFull => 2 | .backlog => 3 | .depositFull => 4
  | .groupFull g => 5 + g.val

/-- The cause set as 16 bits, most significant group first (section 11.1). -/
def CauseSet.bits (c : CauseSet) : Half :=
  let g (k : GroupNo) : BitVec 1 := BitVec.ofBool c.groupFull[k]
  (0#3) ++ g 7 ++ g 6 ++ g 5 ++ g 4 ++ g 3 ++ g 2 ++ g 1 ++ g 0 ++ BitVec.ofBool c.depositFull
    ++ BitVec.ofBool c.backlog ++ BitVec.ofBool c.quarantineFull ++ BitVec.ofBool c.command ++ BitVec.ofBool c.operator

/-- The cause set, two bytes. -/
def causeBytes (c : CauseSet) : List Byte := bytes16 c.bits

/-- Bundle flags, one byte (section 11.1). -/
def bundleFlags (recount manyDeposits carried unbricked : Bool) : Byte :=
  (0#4) ++ BitVec.ofBool unbricked ++ BitVec.ofBool carried ++ BitVec.ofBool manyDeposits ++ BitVec.ofBool recount

/-- A destination pocket. -/
def destByte (d : Dest) : Byte := byteOf d.number

/-- A gated pocket's number as a byte. -/
def gateByte (g : Gate) : Byte := byteOf (gateNumber g)

/-- A resume target; 0xFF when absent. -/
def resumeByte : Option Resume → Byte
  | some r => r.code
  | none => 0xFF

/-- A jam in force: its cause code, optional item, optional pocket. -/
def jamBytes : Option JamCause → List Byte
  | some j => j.code :: optionBytes bytes32 j.item ++ optionBytes (fun p => [byteOf p.val]) j.pocket
  | none => [0xFF, 0, 0]

/-! ### Bodies (section 11.5) -/

/-- The detail of an answer. -/
def Detail.bytes : Detail → List Byte
  | .none => []
  | .entries n => countBytes n
  | .slot (some k) => [byteOf k.val]
  | .slot Option.none => [0xFF]
  | .flush members bricks => [byteOf members, byteOf bricks]
  | .reset r => countBytes r.items ++ [byteOf r.losses, byteOf r.bundles] ++ countBytes r.notes ++ countBytes r.runOut
      ++ [byteOf r.deposits, byteOf r.declarations]
  | .causes c => causeBytes c

/-- The result code of an answer. -/
def resultCode : Option RefusalReason → Byte
  | some r => r.code
  | none => 0

/-- A contribution: presence, id, count (notes/assumptions/13.md). -/
def contributionBytes (p : DepositKey × Nat) : List Byte :=
  match p.1 with
  | .none => 0 :: countBytes p.2
  | .id w => 1 :: bytes32 w ++ countBytes p.2

/-- A bundle's deposit: presence 2 for NONE. -/
def bundleDepositBytes : Option DepositKey → List Byte
  | Option.none => [0]
  | some (.id w) => 1 :: bytes32 w
  | some .none => [2]

/-- Close kinds of a bundle. -/
def BundleClose.code : BundleClose → Byte
  | .full => 0 | .odd => 1 | .removedEarly => 2 | .partialRemoved => 3

/-- The body of BUNDLE. -/
def BundleReport.body (r : BundleReport) : List Byte :=
  bytes32 r.number ++ [byteOf r.group.val, gateByte r.pocket, bundleDenomByte r.denom, r.close.code]
    ++ countBytes r.count ++ countBytes r.target ++ [bundleFlags r.recount r.manyDeposits r.carried r.unbricked]
    ++ bundleDepositBytes r.deposit ++ listBytes contributionBytes r.contributions

/-- The body of BRICK. -/
def BrickReport.body (r : BrickReport) : List Byte :=
  bytes32 r.number ++ [byteOf r.acc.group.val, denomByte (some r.acc.denom), flagByte (!r.complete)]
    ++ bytes32 (BitVec.ofNat 32 r.acc.total) ++ [bundleFlags r.acc.recount r.acc.manyDeposits r.acc.carried false]
    ++ listBytes bytes32 r.acc.bundles

/-- Results of a deposit. -/
def DepositResult.code : DepositResult → Byte
  | .balanced => 0 | .difference => 1 | .undeclared => 2 | .incomplete => 3

/-- A line of DEPOSIT; UNCODED as 0xFE. -/
def DepositLine.bytes (l : DepositLine) : List Byte :=
  (match l.denom with
    | some d => denomByte (some d)
    | none => 0xFE) :: countBytes l.accepted
    ++ (match l.declared with
      | some n => countBytes n
      | none => [0xFF, 0xFF])

/-- The body of DEPOSIT. -/
def DepositReport.body (r : DepositReport) : List Byte :=
  bytes32 r.id ++ optionBytes bytes32 r.parent
    ++ [byteOf r.kind.val, r.result.code,
        (0#5) ++ BitVec.ofBool r.afterRecovery ++ BitVec.ofBool r.boundaryLost ++ BitVec.ofBool r.declared]
    ++ listBytes DepositLine.bytes r.lines ++ r.runOut.toList.flatMap countBytes
    ++ [r.cards, r.quarantine, r.watchHits, r.lost, r.itemCount].flatMap countBytes
    ++ bytes32 r.cardItem ++ optionBytes bytes32 r.firstItem ++ optionBytes bytes32 r.lastItem

/-- A slot's state code. -/
def DepositState.code : DepositState → Byte
  | .openState => 1 | .closing => 2

/-- The body of DEPOSIT_FAULT. -/
def DepositFaultReport.body (r : DepositFaultReport) : List Byte :=
  flagByte (!r.noSlot) :: bytes32 r.separatorId ++ optionBytes bytes32 r.parent ++ bytes32 r.cardItem
    ++ optionBytes bytes32 r.openDeposit
    ++ r.slots.flatMap fun
      | some (st, id) => st.code :: bytes32 id
      | none => [0, 0, 0, 0, 0]

/-- The body of WATCH_HIT. -/
def WatchHitReport.body (r : WatchHitReport) : List Byte :=
  bytes32 r.item ++ optionBytes bytes32 r.depositId ++ serialBytes (some r.serial) ++ [denomByte r.denom] ++ bytes32 r.caseRef
    ++ [denomByte r.entryDenom, flagByte r.held, r.reason.code, destByte r.pocket]

/-- An entry of QUARANTINE. -/
def ManifestEntry.bytes (e : ManifestEntry) : List Byte :=
  bytes32 e.item ++ optionBytes bytes32 e.depositId ++ [denomByte e.denom] ++ serialBytes e.serial
    ++ optionBytes bytes32 e.caseRef ++ [e.reason.code]

/-- The body of QUARANTINE. -/
def QuarantineReport.body (r : QuarantineReport) : List Byte :=
  [gateByte r.pocket, flagByte r.released, byteOf r.count, flagByte r.recount, byteOf r.limit]
    ++ r.manifest.flatMap ManifestEntry.bytes

/-- The body of GROUP_LOW. -/
def GroupLowReport.body (r : GroupLowReport) : List Byte :=
  byteOf r.group.val :: countBytes r.openCount ++ [byteOf r.threshold]
    ++ listBytes (fun m => [gateByte m.1, m.2.1.code, flagByte m.2.2]) r.members ++ optionBytes bytes32 r.item

/-- The body of ROUTES. -/
def RoutesReport.body (r : RoutesReport) : List Byte :=
  flagByte r.cardItem.isSome :: optionBytes bytes32 r.cardItem ++ optionBytes bytes32 r.depositId
    ++ listBytes (fun k => [byteOf k.val]) r.active ++ listBytes (fun k => [byteOf k.val]) r.standby

/-- Trigger codes. -/
def Trigger.code : Trigger → Byte
  | .lineStart => 0 | .lineStop => 1 | .lineHalt => 2 | .operator => 3 | .condition => 4 | .lineResume => 5 | .drainEnd => 6
  | .jam => 7 | .recover => 8 | .lineReset => 9

/-- The cause field of LINE. -/
def lineCauseByte : Option LineCause → Byte
  | some (.condition c) => byteOf (0x10 + c.bit)
  | some (.jam j) => j.code
  | none => 0xFF

/-- The body of LINE. -/
def LineReport.body (r : LineReport) : List Byte :=
  [r.from_.code, r.to_.code, r.trigger.code, lineCauseByte r.cause] ++ causeBytes r.causes ++ [resumeByte r.resume]
    ++ bytes24 r.position

/-- The body of JAM. -/
def JamReport.body (r : JamReport) : List Byte :=
  jamBytes (some r.cause) ++ [r.previous.code] ++ bytes24 r.position ++ countBytes r.entriesLost ++ countBytes r.edgesLost
    ++ causeBytes r.causes

/-- A loss record of RECOVERY. -/
def LossLine.bytes (l : LossLine) : List Byte :=
  bytes32 l.item ++ [l.kind.code] ++ optionBytes bytes32 l.depositId ++ [destByte l.dest, denomByte l.denom]

/-- The body of RECOVERY. -/
def RecoveryReport.body (r : RecoveryReport) : List Byte :=
  jamBytes r.jam ++ [r.next] ++ listBytes LossLine.bytes r.losses

/-- The body of TRACE. -/
def TraceReport.body (r : TraceReport) : List Byte :=
  bytes32 r.item
    ++ [r.kind.code, r.seq,
        match r.cls with
        | some c => c.code.zeroExtend 8
        | none => 0xFF,
        denomByte r.denom]
    ++ serialBytes r.serial ++ optionBytes bytes32 r.depositId ++ bytes24 r.lead ++ optionBytes countBytes r.length
    ++ optionBytes countBytes r.gap
    ++ [destByte r.dest,
        match r.shadow with
        | some g => gateByte g
        | none => 0,
        r.reason.code,
        match r.route with
        | some k => byteOf k.val
        | none => 0xFF]
    ++ optionBytes bytes32 r.caseRef ++ [r.close.code] ++ bytes24 r.position
    ++ [match r.arrival with
        | some p => byteOf p.val
        | none => 0xFF]

/-- Tally group codes. -/
def TallyGroup.code : TallyGroup → Byte
  | .accepted => 0 | .runOut => 1 | .events => 2 | .output => 3 | .all => 4

/-- The body of TALLY. -/
def TallyReport.body (r : TallyReport) : List Byte :=
  [flagByte r.notice, r.group.code, flagByte r.cleared] ++ listBytes (fun t => byteOf t.1 :: bytes32 t.2) r.tallies

/-- A geometry's distances and margins as STATUS carries them. -/
def geometryBytes (g : Geometry) : List Byte := encodeGeometry g

/-- The gate outputs: bit p is GATEp (section 11.5). -/
def gateBytes (g : Vector Bool 15) : List Byte :=
  bytes16 (g.toList.zipIdx.foldl (fun w p => if p.1 then w ||| (1#16 <<< (p.2 + 1)) else w) 0)

/-- A pocket of STATUS. -/
def PocketStatus.bytes (p : PocketStatus) : List Byte :=
  p.state.code :: countBytes p.committed ++ countBytes p.confirmed ++ countBytes (p.target.getD 0)
    ++ [bundleDenomByte p.denom, bundleFlags p.recount p.manyDeposits p.carried false, flagByte p.lateMark, flagByte p.enabled]

/-- A group of STATUS. -/
def GroupStatus.bytes (g : GroupStatus) : List Byte :=
  listBytes (fun p => [gateByte p]) g.members
    ++ [match g.current with
        | some p => gateByte p
        | none => 0xFF,
        flagByte g.denomPure, flagByte g.depositPure, byteOf g.strap, byteOf g.brickSize, byteOf g.lowThreshold,
        flagByte (g.overflow == .halt)]

/-- An accumulator of STATUS. -/
def accumulatorBytes : Option (GroupNo × Denom × Nat) → List Byte
  | some (g, d, n) => [byteOf g.val, denomByte (some d), byteOf n]
  | none => [0xFF, 0xFF, 0]

/-- A slot of STATUS. -/
def slotBytes : Option DepositStatus → List Byte
  | some d => d.state.code :: bytes32 d.id ++ [byteOf d.inFlight, flagByte d.boundaryLost]
  | none => [0, 0, 0, 0, 0, 0, 0]

/-- Receiver state codes. -/
def ReceiverStatus.code : ReceiverStatus → Byte
  | .wait => 0 | .receiving => 1 | .hunt => 2

/-- The body of STATUS, section by section. -/
def StatusReport.body (r : StatusReport) : List Byte :=
  [r.line.code] ++ causeBytes r.causes ++ [resumeByte r.resume] ++ jamBytes r.jam
    ++ [r.receiver.code, byteOf r.edges, r.nextSeq] ++ bytes32 r.nextItem
    ++ [byteOf r.entries, byteOf r.losses] ++ gateBytes r.gates ++ [flagByte r.loaded] ++ geometryBytes r.geometry
    ++ [flagByte r.swapPending, byteOf r.active, byteOf r.standby, byteOf r.free] ++ countBytes r.watch
    ++ r.pockets.flatMap PocketStatus.bytes
    ++ [match r.quarantine with
        | some q => gateByte q
        | none => 0,
        byteOf r.manifest] ++ countBytes r.runOut
    ++ r.groups.flatMap GroupStatus.bytes ++ r.accumulators.flatMap accumulatorBytes
    ++ r.deposits.flatMap slotBytes ++ [byteOf r.declarations, byteOf r.bound]
    ++ [byteOf r.reports, byteOf r.lossMark, r.revision]

/-- The code of a report's kind (section 11.5). -/
def Report.code : Report → Byte
  | .answer _ _ _ _ => 0x81 | .bundle _ => 0x82 | .brick _ => 0x83 | .deposit _ => 0x84 | .depositFault _ => 0x85
  | .watchHit _ => 0x86 | .quarantine _ => 0x87 | .runOut _ _ => 0x88 | .groupLow _ => 0x89 | .routeSpent _ _ _ _ => 0x8A
  | .routes _ => 0x8B | .line _ => 0x8C | .jam _ => 0x8D | .recovery _ => 0x8E | .trace _ => 0x8F | .tally _ => 0x90
  | .status _ => 0x91 | .ready _ => 0x92

/-- The body of a report (section 11.5). -/
def Report.body : Report → List Byte
  | .answer tag code refusal detail => [tag, code, resultCode refusal, byteOf detail.bytes.length] ++ detail.bytes
  | .bundle r => r.body
  | .brick r => r.body
  | .deposit r => r.body
  | .depositFault r => r.body
  | .watchHit r => r.body
  | .quarantine r => r.body
  | .runOut n reasons => countBytes n ++ reasons.toList.flatMap countBytes
  | .groupLow r => r.body
  | .routeSpent k preset priority item => byteOf k.val :: countBytes preset ++ [byteOf priority] ++ bytes32 item
  | .routes r => r.body
  | .line r => r.body
  | .jam r => r.body
  | .recovery r => r.body
  | .trace r => r.body
  | .tally r => r.body
  | .status r => r.body
  | .ready revision => [revision]

/-! ### Segments and frames (R190, R191, section 11.2) -/

/-- How many segments a report takes: one for each 253 bytes of body begun, and one at least. -/
def Report.segments (r : Report) : Nat := max 1 ((r.body.length + Config.segmentBytes - 1) / Config.segmentBytes)

/-- Whether a segment is a report's last. -/
def Report.lastSegment (r : Report) (n : Nat) : Bool := r.segments ≤ n + 1

/-- The payload of a segment: loss field, segment byte, and the segment's share of the body. -/
def segmentPayload (q : Queued) (n : Nat) : List Byte :=
  byteOf q.loss :: (BitVec.ofBool (q.report.lastSegment n) ++ BitVec.ofNat 7 n : BitVec 8)
    :: (q.report.body.drop (Config.segmentBytes * n)).take Config.segmentBytes

/-- A Feed or Report frame: the start byte, kind, length, payload, and the CRC over kind, length and payload. -/
def frameBytes (kind : Byte) (payload : List Byte) : List Byte :=
  let covered := kind :: byteOf payload.length :: payload
  Config.startByte :: covered ++ bytes16 (crc covered)

/-- The frame of a segment of a queued report. -/
def reportFrame (q : Queued) (n : Nat) : List Byte := frameBytes q.report.code (segmentPayload q n)

end Sys2Proof.Machine
end

