-- ==== Sys2Proof/Machine/Reports.lean ====
section
/-! DEFINITION. STATUS_READ (R201), TALLY_READ (R199), and the transmitter's steps (R190 to R192, R196). -/

namespace Sys2Proof.Machine

/-! ### STATUS_READ (R201) -/

/-- The receiver state as STATUS tells it. -/
def Receiver.status : Receiver → ReceiverStatus
  | .wait => .wait
  | .receiving _ => .receiving
  | .hunt _ => .hunt

/-- A pocket as STATUS tells it. -/
def PocketRec.status (r : PocketRec) : PocketStatus :=
  { state := r.state, committed := r.committed, confirmed := r.confirmed, target := r.target, denom := r.denom
    recount := r.recount, manyDeposits := r.manyDeposits, carried := r.carried, lateMark := r.lateMark, enabled := r.enabled }

/-- A group as STATUS tells it. -/
def GroupRec.status (g : GroupRec) : GroupStatus :=
  { members := g.members, current := g.current, denomPure := g.denomPure, depositPure := g.depositPure, strap := g.strap
    brickSize := g.brickSize, lowThreshold := g.lowThreshold, overflow := g.overflow }

/-- A held deposit as STATUS tells it. -/
def Deposit.status (d : Deposit) : DepositStatus :=
  { state := d.state, id := d.id, inFlight := d.inFlight, boundaryLost := d.boundaryLost }

/-- The STATUS report of the part as it stands, with a Report Queue occupancy given (R201, notes/assumptions/9.md). -/
def statusOf (s : State) (occupancy : Nat) : StatusReport :=
  { line := s.line.state, causes := s.line.causes, resume := s.line.resume, jam := s.line.jam
    receiver := s.feed.status, edges := s.edge.fifo.length, nextSeq := s.edge.nextSeq, nextItem := s.edge.nextItem
    entries := s.track.queue.length, losses := s.track.losses.length, gates := s.track.gates, loaded := s.track.loaded
    geometry := s.track.geometry
    swapPending := s.route.swapPending, active := s.route.active.length, standby := s.route.standby.length
    free := 48 - s.route.active.length - s.route.standby.length
    watch := s.watch.list.length
    pockets := s.pocket.pockets.toList.map (·.status), quarantine := s.pocket.quarantine
    manifest := s.pocket.manifest.length, runOut := s.pocket.runOut
    groups := s.group.groups.toList.map (·.status)
    accumulators := s.group.accs.toList.map fun a => a.map fun a => (a.group, a.denom, a.bundles.length)
    deposits := allSlots.map fun k => (depositAt k s).map (·.status)
    declarations := s.deposit.declarations.length, bound := s.deposit.declarations.countP (·.bound)
    reports := occupancy, lossMark := s.report.lossMark, revision := Config.partRevision }

/-- STATUS_READ (R201). -/
def execStatusRead (tag : Byte) (s : State) : Result :=
  let s1 := answer tag 0x60 .none s
  .next (emit (.status (statusOf s s1.report.queue.length)) s1)

/-! ### TALLY_READ (R199) -/

/-- The tally group a byte names (R199, section 11.3). -/
def tallyGroupOf (b : Byte) : Option TallyGroup :=
  match b.toNat with
  | 0 => some .accepted
  | 1 => some .runOut
  | 2 => some .events
  | 3 => some .output
  | 4 => some .all
  | _ => none

/-- The TALLY report of a read, and the clear once it is admitted (R199). -/
def readTallies (g : TallyGroup) (clear : Bool) (tallies : List (Nat × Word)) (s : State) : State :=
  let admitted := s.report.queue.length < Config.queueCapacity
  let s1 := hand (.tally { notice := false, group := g, cleared := clear && admitted, tallies := tallies }) s
  takeBacklog (if clear && admitted then s1.setReport (s1.report.clearGroup g) else s1)

/-- TALLY_READ (R199). -/
def execTallyRead (tag group clear : Byte) (s : State) : Result :=
  .next (match tallyGroupOf group with
    | some g =>
      request tag 0x61 [(1 < clear.toNat, .range)] .none (readTallies g (clear == 1) (s.report.groupTallies g)) s
    | none => request tag 0x61 [(true, .range)] .none id s)

/-! ### The transmitter (R190, R192) -/

/-- What REPORT_TX carries in a transmitter state: the bits of the idle byte between frames, those of the frame in progress, or a high
level (R190). -/
def Transmitter.line : Transmitter → TxLine
  | .quiet _ => .sends (byteLevels Config.idleByte)
  | .sending frame => .sends (lineLevels frame)
  | .held => .high

/-- The transmitter enters a state, and REPORT_TX follows it (R190). -/
def setTransmitter (tx : Transmitter) (s : State) : State := s.setReport { s.report with tx := tx, reportTx := tx.line }

/-- An idle byte has been sent: it is counted, and RDY_IN sampled at its end (R192, notes/assumptions/6.md). -/
def execIdleByteSent (rdyIn : Bool) (s : State) : Result :=
  .next (match s.report.tx with
    | .quiet idle => setTransmitter (.quiet (min (idle + 1) Config.idleRun)) (s.setReport { s.report with rdyIn := rdyIn })
    | .sending _ | .held => s)

/-- A frame starts when the idle count is 4, a report is queued and RDY_IN is high (R192). -/
def execFrameStart (s : State) : Result :=
  .next (match s.report.tx, s.report.queue with
    | .quiet idle, q :: _ =>
      if idle = Config.idleRun ∧ s.report.rdyIn then
        setTransmitter (.sending (reportFrame q s.report.segment)) s
      else s
    | _, _ => s)

/-- The head report leaves the queue, and BACKLOG ends when the occupancy comes to 32 (R193, R196). -/
def removeHead (s : State) : State :=
  let u := s.report
  let s1 := s.setReport { u with queue := u.queue.tail, segment := 0 }
  if u.backlog && u.queue.tail.length == Config.clearLevel then
    endCause .backlog (s1.setReport { s1.report with backlog := false })
  else s1

/-- The last check byte of a frame has been sent (R192). -/
def execFrameSent (s : State) : Result :=
  .next (match s.report.tx with
    | .quiet _ | .held => s
    | .sending _ =>
      let s1 := setTransmitter (.quiet 0) s
      match s.report.queue with
      | [] => s1
      | q :: _ =>
        if q.report.lastSegment s.report.segment then removeHead s1
        else s1.setReport { s1.report with segment := s.report.segment + 1 })

end Sys2Proof.Machine
end

