-- ==== Sys2Proof/Machine/Events.lean ====
section
/-! DEFINITION. The events of the transport and the sensors: encoder, expiries, read point, arrivals, pocket-cleared, reset. -/

namespace Sys2Proof.Machine

/-- Every expiry still outstanding at the present position: gates, admission deadlines, ends of arrival windows
(R20, notes/assumptions/3.md). -/
def takeExpiries (s : State) : State := takeArrivalEnds (takeDeadlines (takeGateExpiries s))

/-- The position counter, the gap measure and the stall timer at an edge on ENC (R20, R27, R139). -/
def advance (s : State) : State :=
  let s1 := s.setEdge { s.edge with position := s.edge.position + 1, gap := s.edge.gap.map bumpCount }
  s1.setTrack { s1.track with stall := s.track.stall.map fun _ => s.track.stallTime }

/-- ENC_EDGE (R20). -/
def execEncEdge (s : State) : Result := .next (advance (takeExpiries s))

/-- ADMISSION_DEADLINE (R29). -/
def execAdmissionDeadline (s : State) : Result := .next (takeDeadlines s)

/-- DIVERT_WINDOW_OPEN (R131). -/
def execDivertWindowOpen (s : State) : Result := .next (takeGateExpiries s)

/-- DIVERT_WINDOW_CLOSE (R131). -/
def execDivertWindowClose (s : State) : Result := .next (takeGateExpiries s)

/-- ARRIVAL_WINDOW_END (R137). -/
def execArrivalWindowEnd (s : State) : Result := .next (takeArrivalEnds s)

/-- The stall timer stopped (R139). -/
def stopStall (s : State) : State := s.setTrack { s.track with stall := none }

/-- STALL_TIMER_EXPIRY (R139). -/
def execStallTimerExpiry (s : State) : Result :=
  .next (if s.track.stall.isSome then handJam .stall (stopStall s) else s)

/-- An item captured: a new edge at the tail of the FIFO (R21, R23, R24). -/
def captureEdge (s : State) : State :=
  let e : HeldEdge := { item := s.edge.nextItem, seq := s.edge.nextSeq, lead := s.edge.position, trail := none
                        gap := s.edge.gap, deadline := ahead s.edge.position s.track.geometry.admitLimit.toNat }
  stepItemNumber (s.setEdge { s.edge with fifo := s.edge.fifo ++ [e] })

/-- An item captured in JAMMED and discarded at once (R24). -/
def discardEdge (s : State) : State := bump .discarded (stepItemNumber s)

/-- The FIFO with a place for a new edge: at 8 edges the oldest is admitted UNREAD (R25). -/
def makeRoom (s : State) : State := if Config.fifoCapacity ≤ s.edge.fifo.length then admitUnread s else s

/-- LEADING_EDGE (R24, R25). -/
def execLeadingEdge (s : State) : Result :=
  .next (if !s.track.loaded then s
    else
      let s1 := if s.line.state = .jammed then s else makeRoom s
      if s1.line.state = .jammed then discardEdge s1 else captureEdge s1)

/-- The FIFO after a trailing edge: the youngest edge ends when it is the last item captured and has no trailing position (R26). -/
def endYoungest (last : Option Word) (position : Pos) (fifo : List HeldEdge) : List HeldEdge :=
  match fifo.getLast? with
  | some e =>
    if last = some e.item ∧ e.trail = none then fifo.dropLast ++ [{ e with trail := some position }] else fifo
  | none => fifo

/-- TRAILING_EDGE (R26, R27). -/
def execTrailingEdge (s : State) : Result :=
  .next (s.setEdge { s.edge with gap := some 0, fifo := endYoungest s.edge.lastItem s.edge.position s.edge.fifo })

/-- ARRIVAL_PULSE (R134). -/
def execArrivalPulse (p : Fin 16) (s : State) : Result := .next (takeArrival p s)

/-- POCKET_CLEARED (R92, R98, R102). -/
def execPocketCleared (p : Fin 16) (s : State) : Result :=
  .next (match pocketOf p with
    | .runOut => clearRunOut s
    | .gated g => if s.pocket.quarantine = some g then clearQuarantine g s else clearMember g s)

/-- The part while RESET_N is low: every block at its hard-reset values, RUN, FEED_EN and the gates low, the Report Queue empty,
REPORT_TX high and no byte sent (R188, R190). -/
def holdReset (s : State) : State :=
  setTransmitter .held
    (((State.reset.setReport { State.reset.report with queue := [] }).setFreeCount s.freeCount).setPending s.pending)

/-- RESET_N rises: the transmitter is QUIET with an idle count of 0, and the READY report is queued (R188, R192). -/
def releaseReset (s : State) : State := hand (.ready Config.partRevision) (setTransmitter (.quiet 0) s)

/-- HARD_RESET: RESET_N low, and its release (R188, notes/assumptions/17.md). -/
def execHardReset (s : State) : Result := .next (releaseReset (holdReset s))

end Sys2Proof.Machine
end

