-- ==== Sys2Proof/Machine/GroupEdit.lean ====
section
/-! DEFINITION. GROUP_DEFINE, GROUP_FLUSH, POCKET_ENABLE, QUARANTINE_RELEASE (R108, R116, R114, R98). -/

namespace Sys2Proof.Machine

/-- The pockets of a GROUP_DEFINE, or none when one is 0 or above 15. -/
def gatesOfBytes (ps : List Byte) : Option (List Gate) := ps.mapM gateOfByte

/-- Whether a list names something twice. -/
def repeats {α : Type} [DecidableEq α] : List α → Bool
  | [] => false
  | x :: xs => xs.contains x || repeats xs

/-- Whether a pocket holds counts (R108). -/
def holdsNotes (g : Gate) (s : State) : Bool := 0 < (pocketAt g s).committed || 0 < (pocketAt g s).confirmed

/-- Whether a pocket may not join group k: it is in another group, or it is the quarantine pocket (R108). -/
def belongsElsewhere (k : GroupNo) (g : Gate) (s : State) : Bool :=
  (groupOf g s).any (· != k) || s.pocket.quarantine == some g

/-- The checks of GROUP_DEFINE once group and pockets are read (R108). -/
def defineChecks (k : GroupNo) (gates : List Gate) (s : State) : List (Bool × RefusalReason) :=
  [(8 < gates.length || repeats gates, .range), (s.line.state != .idle, .state),
   (gates.any fun g => belongsElsewhere k g s, .duplicate),
   ((gates ++ (groupAt k s).members).any fun g => holdsNotes g s, .state), (accumulating k s, .state)]

/-- The effect of GROUP_DEFINE (R108). -/
def defineGroup (k : GroupNo) (gates : List Gate) (s : State) : State :=
  let s1 := (groupAt k s).members.foldl (fun s g => putPocket g ((pocketAt g s).emptied .unassigned) s) s
  let s2 := gates.foldl (fun s g => putPocket g ((pocketAt g s).emptied .openState) s) s1
  let s3 := putGroup k { groupAt k s2 with members := gates, current := gates.head? } s2
  endCause (.groupFull k) (setArm k s3)

/-- GROUP_DEFINE (R108). -/
def execGroupDefine (tag group : Byte) (pockets : List Byte) (s : State) : Result :=
  .next (match groupOfByte group, gatesOfBytes pockets with
    | some k, some gates => request tag 0x30 (defineChecks k gates s) .none (defineGroup k gates) s
    | _, _ => request tag 0x30 [(true, .range)] .none id s)

/-- The members an odd close is asked of by a flush (R116). -/
def flushMembers (k : GroupNo) (s : State) : List Gate := (groupAt k s).members.filter fun g => (pocketAt g s).oddClosable

/-- The accumulators keyed to a group, in ascending index (R116). -/
def flushAccumulators (k : GroupNo) (s : State) : List (Fin 16) :=
  (List.finRange 16).filter fun i => (s.group.accs[i]).any (·.group == k)

/-- The effect of GROUP_FLUSH (R116). -/
def flushGroup (k : GroupNo) (s : State) : State :=
  let s1 := (groupAt k s).members.foldl (fun s g => oddClose g s) s
  (flushAccumulators k s1).foldl (fun s i => closeBrick i false s) s1

/-- GROUP_FLUSH (R116). -/
def execGroupFlush (tag group : Byte) (s : State) : Result :=
  .next (match groupOfByte group with
    | some k =>
      request tag 0x31 [(s.line.state != .idle, .state), ((groupAt k s).members == [], .notFound)]
        (.flush (flushMembers k s).length (flushAccumulators k s).length) (flushGroup k) s
    | none => request tag 0x31 [(true, .range)] .none id s)

/-- The effect of POCKET_ENABLE (R114, R111, R112). -/
def enablePocket (g : Gate) (include_ : Bool) (s : State) : State :=
  let s1 := putPocket g { pocketAt g s with enabled := include_ } s
  match groupOf g s with
  | none => s1
  | some k =>
    recountGroup k none (if include_ && (pocketAt g s).state == .openState then endCause (.groupFull k) s1 else s1)

/-- POCKET_ENABLE (R114). -/
def execPocketEnable (tag pocket setting : Byte) (s : State) : Result :=
  .next (match gateOfByte pocket with
    | some g => request tag 0x32 [(1 < setting.toNat, .range)] .none (enablePocket g (setting == 1)) s
    | none => request tag 0x32 [(true, .range)] .none id s)

/-- QUARANTINE_RELEASE (R98). -/
def execQuarantineRelease (tag : Byte) (s : State) : Result :=
  .next (match s.pocket.quarantine with
    | some q => request tag 0x38 [(0 < (pocketAt q s).inFlight, .state)] .none (emptyQuarantine q true) s
    | none => request tag 0x38 [(true, .notFound)] .none id s)

end Sys2Proof.Machine
end

