-- ==== Sys2Proof/Machine/Setup.lean ====
section
/-! DEFINITION. SET_GEOMETRY (R124) and SYNC (R22). -/

namespace Sys2Proof.Machine

/-- D(1) to D(15), then D(0): the distances in the order that R124 asks to rise. -/
def trackOrder (g : Geometry) : List Nat := (g.d.toList.drop 1 ++ g.d.toList.take 1).map (·.toNat)

/-- Whether a list rises strictly. -/
def rises : List Nat → Bool
  | a :: b :: rest => a < b && rises (b :: rest)
  | _ => true

/-- The relations of R124 that a geometry breaks. -/
def geometryFaulty (g : Geometry) (gapMin : Nat) : Bool :=
  (trackOrder g).any (· == 0) || g.admitLimit == 0
    || !rises (trackOrder g)
    || gapMin < g.lead.toNat + g.lag.toNat
    || g.d[0].toNat ≤ g.admitLimit.toNat + g.tol.toNat

/-- SET_GEOMETRY (R124). -/
def execSetGeometry (tag : Byte) (g : Geometry) (s : State) : Result :=
  .next (request tag 0x02 [(geometryFaulty g s.track.gapMin, .range), (s.line.state != .idle, .state)] .none
    (fun s => s.setTrack { s.track with geometry := g, loaded := true }) s)

/-- The edge sequence counter set (R22, R21). -/
def setSequence (next : Byte) (s : State) : State := s.setEdge { s.edge with nextSeq := next }

/-- SYNC (R22). -/
def execSync (tag next : Byte) (s : State) : Result := .next (request tag 0x03 [] .none (setSequence next) s)

end Sys2Proof.Machine
end

