-- ==== Sys2Proof/Machine/Line.lean ====
section
/-! DEFINITION. The requests of the Line State Unit and the operator stop (R173 to R179, R185, R187). -/

namespace Sys2Proof.Machine

/-- LINE_START (R174). -/
def execLineStart (tag : Byte) (s : State) : Result :=
  .next (lineRequest tag 0x50
    [(s.line.state != .idle || !s.track.loaded, .state), (!s.line.causes.isEmpty, .causes)] .none
    (changeLine .run none .lineStart none) s)

/-- The resume target set to DRAIN (R175). -/
def resumeToDrain (s : State) : State := s.setLine { s.line with resume := some .drain }

/-- The effect of LINE_STOP (R175, R176). -/
def stopLine (s : State) : State :=
  match s.line.state with
  | .run => drainEndQuiet (changeLine .drain none .lineStop none s)
  | .halt => resumeToDrain s
  | .idle | .drain | .jammed => s

/-- LINE_STOP (R175). -/
def execLineStop (tag : Byte) (s : State) : Result :=
  .next (lineRequest tag 0x51 [(s.line.state == .jammed, .state)] .none stopLine s)

/-- A held cause added, and a line in RUN or DRAIN brought to HALT (R177). -/
def haltLine (c : Cause) (trigger : Trigger) (s : State) : State :=
  match s.line.state with
  | .run => changeLine .halt (some .run) trigger none (putCause true c s)
  | .drain => changeLine .halt (some .drain) trigger none (putCause true c s)
  | .halt => putCause true c s
  | .idle | .jammed => s

/-- LINE_HALT (R177). -/
def execLineHalt (tag : Byte) (s : State) : Result :=
  .next (lineRequest tag 0x52 [(s.line.state == .jammed, .state)] .none (haltLine .command .lineHalt) s)

/-- The operator stop (R177). -/
def execOperatorStop (s : State) : Result := .next (takeBacklog (haltLine .operator .operator s))

/-- OPERATOR and COMMAND removed (R172). -/
def dropHeld (s : State) : State := s.setLine { s.line with causes := s.line.causes.withoutHeld }

/-- The line state of a resume target. -/
def Resume.state : Resume → LineState
  | .run => .run
  | .drain => .drain

/-- The effect of LINE_RESUME (R179, R176). -/
def resumeLine (s : State) : State :=
  match s.line.resume with
  | some t => drainEndQuiet (changeLine t.state none .lineResume none (dropHeld s))
  | none => s

/-- LINE_RESUME (R179). -/
def execLineResume (tag : Byte) (s : State) : Result :=
  .next (lineRequest tag 0x53
    [(s.line.state != .halt, .state), (!s.line.causes.withoutHeld.isEmpty, .causes)] .none resumeLine s)

/-- The jam in force becomes absent (R185, R187). -/
def dropJam (s : State) : State := s.setLine { s.line with jam := none }

/-- The Loss List emptied (R185, R187). -/
def dropLosses (s : State) : State := s.setTrack { s.track with losses := [] }

/-- A loss record as the RECOVERY report lists it (R186). -/
def LossRecord.line (l : LossRecord) : LossLine :=
  { item := l.item, kind := l.kind, depositId := l.depositId, dest := l.dest, denom := l.denom }

/-- The RECOVERY report (R186). -/
def recoveryReport (next : Byte) (s : State) : Report :=
  .recovery { jam := s.line.jam, next := next, losses := s.track.losses.map (·.line) }

/-- Every CLOSING deposit closed that can be, in opening order (R162, R185). -/
def closeAfterRecovery (s : State) : State :=
  s.deposit.deposits.foldl (fun s d => testClose d.slot true s) s

/-- The effect of RECOVER, in the order of R185. -/
def recoverLine (next : Byte) (s : State) : State :=
  let s1 := dropLosses (hand (recoveryReport next s) s)
  let s2 := dropJam (dropHeld (setSequence next s1))
  closeAfterRecovery (changeLine .idle none .recover none s2)

/-- RECOVER (R185). -/
def execRecover (tag next : Byte) (s : State) : Result :=
  .next (lineRequest tag 0x54 [(s.line.state != .jammed, .state)] .none (recoverLine next) s)

/-! ### LINE_RESET (R187) -/

/-- How many items a LINE_RESET discards (R37, R145). -/
def discardedItems (s : State) : Nat := s.edge.fifo.length + (inFlightItems s).length

/-- The gated pockets whose bundle a LINE_RESET discards (R105). -/
def discardedBundles (s : State) : List Gate :=
  allGates.filter fun g => (pocketAt g s).state != .unassigned && 0 < (pocketAt g s).committed

/-- The summary of a LINE_RESET (R187). -/
def resetSummary (s : State) : ResetSummary :=
  { items := discardedItems s
    losses := s.track.losses.length
    bundles := (discardedBundles s).length
    notes := ((discardedBundles s).map fun g => (pocketAt g s).confirmed).sum
    runOut := s.pocket.runOut
    deposits := s.deposit.deposits.length
    declarations := s.deposit.declarations.countP (·.bound) }

/-- A number of items closed DISCARDED (R37, R145). -/
def discardItems : Nat → State → State
  | 0, s => s
  | n + 1, s => discardItems n (bumpQuiet (.event .discarded) s)

/-- Steps 1 and 2 of R187: the Edge FIFO and the Track Queue. -/
def resetItems (s : State) : State :=
  let s1 := s.setEdge { s.edge with fifo := [], gap := none }
  let s2 := setQueue [] (dropLosses (s1.setTrack { s1.track with waiting := none }))
  discardItems (discardedItems s) s2

/-- Step 5 of R187: the Deposit Unit (R165). -/
def resetDeposits (s : State) : State :=
  endCause .depositFull (s.setDeposit { s.deposit with
    deposits := [], declarations := s.deposit.declarations.filter fun d => !d.bound })

/-- The effect of LINE_RESET, in the order of R187. -/
def resetLine (s : State) : State :=
  let from_ := s.line.state
  let s1 := dropJam (dropHeld (resetDeposits (resetGroups (resetPockets (resetItems s)))))
  if from_ = .idle then enterLine .idle none s1 else changeLine .idle none .lineReset none s1

/-- LINE_RESET (R187). -/
def execLineReset (tag : Byte) (s : State) : Result :=
  .next (lineRequest tag 0x55 [] (.reset (resetSummary s)) resetLine s)

end Sys2Proof.Machine
end

