-- ==== Sys2Proof/Machine/RouteEdit.lean ====
section
/-! DEFINITION. The requests that edit the route table: ROUTE_WRITE, ROUTE_LINK, ROUTE_UNLINK, ROUTE_SWAP (R42 to R44, R49). -/

namespace Sys2Proof.Machine

/-- The target a target byte gives: type in bits 7 and 6, group in bits 5 to 0; none where R42 and R202 refuse it. -/
def targetOf (b : Byte) : Option Target :=
  match (b.extractLsb' 6 2).toNat with
  | 0 => (groupOfByte (b &&& 0x3F)).map .group
  | 1 => some .quarantine
  | 2 => some .runOut
  | _ => none

/-- Whether a ROUTE_WRITE presents a quota. -/
def quotaPresent (a : RouteArgs) : Bool := a.options.getLsbD 0

/-- The values of a ROUTE_WRITE that lie outside their fields (R42, R202). -/
def routeFaulty (a : RouteArgs) : Bool :=
  15 < a.classSet.toNat || 31 < a.denomValue.toNat || 31 < a.denomMask.toNat || 15 < a.kindSet.toNat
    || (targetOf a.target).isNone || 3 < a.priority.toNat || (quotaPresent a && a.quota == 0)

/-- An object with the fields of a ROUTE_WRITE in place of its own; quota remaining and spent flag kept (R42). -/
def RouteObject.written (o : RouteObject) (a : RouteArgs) : RouteObject :=
  { o with
    classSet := a.classSet.extractLsb' 0 4
    denomValue := a.denomValue.extractLsb' 0 5
    denomMask := a.denomMask.extractLsb' 0 5
    seriesValue := a.series.extractLsb' 4 3
    seriesMask := a.series.extractLsb' 0 3
    fitnessSet := a.fitOrient.extractLsb' 4 4
    orientSet := a.fitOrient.extractLsb' 0 4
    kindSet := a.kindSet.extractLsb' 0 4
    target := (targetOf a.target).getD .runOut
    priority := a.priority.toNat
    preset := if quotaPresent a then some a.quota.toNat else none
    trace := a.options.getLsbD 1 }

/-- An object index above 47, or checks on the object it names. -/
def objectChecks (index : Byte) (range : Bool) (checks : ObjectNo → List (Bool × RefusalReason)) : List (Bool × RefusalReason) :=
  match objectOfByte index with
  | none => [(true, .range)]
  | some k => (range, .range) :: checks k

/-- An effect on the object an index names. -/
def onObject (index : Byte) (f : ObjectNo → State → State) (s : State) : State :=
  match objectOfByte index with
  | none => s
  | some k => f k s

/-- The write of R42: re-armed when the object is in ACTIVE. -/
def writeObject (a : RouteArgs) (k : ObjectNo) (s : State) : State :=
  let o := (objectAt k s).written a
  putObject k (if s.route.active.contains k then o.armed else o) s

/-- ROUTE_WRITE (R42). -/
def execRouteWrite (tag index : Byte) (a : RouteArgs) (s : State) : Result :=
  .next (request tag 0x10
    (objectChecks index (routeFaulty a) fun k =>
      [(s.route.active.contains k && s.line.state != .idle, .state),
       (s.route.standby.contains k && s.route.swapPending, .pending)])
    .none (onObject index (writeObject a)) s)

/-- The link of R43; list 1 is ACTIVE, 0 STANDBY. -/
def linkObject (list position : Byte) (k : ObjectNo) (s : State) : State :=
  if list = 1 then
    let s1 := putObject k (objectAt k s).armed s
    s1.setRoute { s1.route with active := placeInList s1.route.active k position.toNat }
  else s.setRoute { s.route with standby := placeInList s.route.standby k position.toNat }

/-- ROUTE_LINK (R43). -/
def execRouteLink (tag index list position : Byte) (s : State) : Result :=
  .next (request tag 0x11
    (objectChecks index (1 < list.toNat) fun k =>
      [(!isFree k s, .state),
       (list == 1 && s.line.state != .idle, .state),
       (list == 0 && s.route.swapPending, .pending)])
    .none (onObject index (linkObject list position)) s)

/-- The unlink of R44. -/
def unlinkObject (k : ObjectNo) (s : State) : State :=
  if s.route.active.contains k then
    let s1 := putObject k (objectAt k s).retired s
    s1.setRoute { s1.route with active := s1.route.active.erase k }
  else s.setRoute { s.route with standby := s.route.standby.erase k }

/-- ROUTE_UNLINK (R44). -/
def execRouteUnlink (tag index : Byte) (s : State) : Result :=
  .next (request tag 0x12
    (objectChecks index false fun k =>
      [(isFree k s, .state),
       (s.route.active.contains k && s.line.state != .idle, .state),
       (s.route.standby.contains k && s.route.swapPending, .pending)])
    .none (onObject index unlinkObject) s)

/-- What an accepted ROUTE_SWAP does: the exchange at once in IDLE, the swap-pending flag otherwise (R49). -/
def swap (idle : Bool) (s : State) : State :=
  if idle then
    let s1 := exchange s
    emit (routesReport none none s1) s1
  else s.setRoute { s.route with swapPending := true }

/-- ROUTE_SWAP (R49). -/
def execRouteSwap (tag : Byte) (s : State) : Result :=
  .next (request tag 0x13 [(s.route.swapPending, .pending)] .none (swap (s.line.state == .idle)) s)

end Sys2Proof.Machine
end

