-- ==== Sys2Proof/Machine/WatchEdit.lean ====
section
/-! DEFINITION. WATCH_ADD, WATCH_REMOVE, WATCH_CLEAR (R68 to R70). -/

namespace Sys2Proof.Machine

/-- A denomination byte that is neither a code nor 0xFF (R202). -/
def denomFaulty (d : Byte) : Bool := 31 < d.toNat && d != 0xFF

/-- A serial of a wrong number of characters (R68, R69). -/
def serialLengthFaulty (chars : List Byte) : Bool := chars.length < 4 || 12 < chars.length

/-- A character outside the serial character set: the format check of R202, made by the receiver before dispatch
(notes/assumptions/22.md). -/
def serialFormatFaulty (chars : List Byte) : Bool := !chars.all serialChar

/-- Whether an entry is the one a serial and an optional denomination name (R65, R69). -/
def WatchEntry.named (e : WatchEntry) (serial : Serial) (denom : Option Denom) : Bool := e.serial == serial && e.denom == denom

/-- Whether the watch list holds the entry of a serial and an optional denomination. -/
def watched (serial : Serial) (denom : Option Denom) (s : State) : Bool := s.watch.list.any (·.named serial denom)

/-- An entry joins the list and its cell goes up (R68). -/
def addWatch (e : WatchEntry) (s : State) : State :=
  let cell := cellOf e.serial
  s.setWatch { list := s.watch.list ++ [e], index := s.watch.index.write cell (s.watch.index.read cell + 1) }

/-- An entry leaves the list and its cell goes down (R69). -/
def removeWatch (serial : Serial) (denom : Option Denom) (s : State) : State :=
  let cell := cellOf serial
  s.setWatch { list := s.watch.list.eraseP (·.named serial denom)
               index := s.watch.index.write cell (s.watch.index.read cell - 1) }

/-- WATCH_ADD (R68). -/
def execWatchAdd (tag denom : Byte) (caseRef : Word) (serial : List Byte) (s : State) : Result :=
  let d := denomOfByte denom
  .next (request tag 0x20
    [(serialFormatFaulty serial, .format),
     (serialLengthFaulty serial || denomFaulty denom, .range),
     (watched serial d s, .duplicate),
     (Config.watchCapacity ≤ s.watch.list.length, .full),
     (s.watch.index.read (cellOf serial) == 255, .full)]
    (.entries (s.watch.list.length + 1)) (addWatch { serial := serial, denom := d, caseRef := caseRef }) s)

/-- WATCH_REMOVE (R69). -/
def execWatchRemove (tag denom : Byte) (serial : List Byte) (s : State) : Result :=
  let d := denomOfByte denom
  .next (request tag 0x21
    [(serialFormatFaulty serial, .format),
     (serialLengthFaulty serial || denomFaulty denom, .range),
     (!watched serial d s, .notFound)]
    (.entries (s.watch.list.length - 1)) (removeWatch serial d) s)

/-- WATCH_CLEAR (R70). -/
def execWatchClear (tag : Byte) (s : State) : Result :=
  .next (request tag 0x22 [] (.entries s.watch.list.length) (fun s => s.setWatch { list := [], index := [] }) s)

end Sys2Proof.Machine
end

