-- ==== Sys2Proof/Machine/Feed.lean ====
section
/-! DEFINITION. The Feed Receiver: bytes, frames, record checks, delivery (R4 to R11, R13). -/

namespace Sys2Proof.Machine

/-! ### Records delivered whole -/

/-- NOTE_RECORD (R30). -/
def execNoteRecord (r : NoteRecord) (s : State) : Result := .next (takeNote r s)

/-- SEPARATOR_RECORD (R30). -/
def execSeparatorRecord (r : SeparatorRecord) (s : State) : Result := .next (takeSeparatorRecord r s)

/-- CONTROL_FORMAT_REFUSAL (R13). -/
def execControlFormatRefusal (tag code : Byte) (_args : List Byte) (s : State) : Result := .next (refuse tag code .format s)

/-- A record delivered: the meaning of the command it spells (R11, R13). A command that no record spells is never parsed. -/
def deliver (i : Instr) (s : State) : Result :=
  match i with
  | .noteRecord r => execNoteRecord r s
  | .separatorRecord r => execSeparatorRecord r s
  | .controlFormatRefusal tag code args => execControlFormatRefusal tag code args s
  | .setParamLengthMin tag v => execSetParamLengthMin tag v s
  | .setParamLengthMax tag v => execSetParamLengthMax tag v s
  | .setParamRequireDeposit tag v => execSetParamRequireDeposit tag v s
  | .setParamQuarantinePocket tag v => execSetParamQuarantinePocket tag v s
  | .setParamQuarantineLimit tag v => execSetParamQuarantineLimit tag v s
  | .setParamGapMin tag v => execSetParamGapMin tag v s
  | .setParamStallTime tag v => execSetParamStallTime tag v s
  | .setParamStartTime tag v => execSetParamStartTime tag v s
  | .setParamTraceAll tag v => execSetParamTraceAll tag v s
  | .setParamTraceRejects tag v => execSetParamTraceRejects tag v s
  | .setParamNoticeMask tag v => execSetParamNoticeMask tag v s
  | .setParamStrapPreset tag g v => execSetParamStrapPreset tag g v s
  | .setParamDenominationPurity tag g v => execSetParamDenominationPurity tag g v s
  | .setParamDepositPurity tag g v => execSetParamDepositPurity tag g v s
  | .setParamBrickSize tag g v => execSetParamBrickSize tag g v s
  | .setParamLowThreshold tag g v => execSetParamLowThreshold tag g v s
  | .setParamOverflowAction tag g v => execSetParamOverflowAction tag g v s
  | .setGeometry tag geo => execSetGeometry tag geo s
  | .sync tag next => execSync tag next s
  | .routeWrite tag index a => execRouteWrite tag index a s
  | .routeLink tag index list position => execRouteLink tag index list position s
  | .routeUnlink tag index => execRouteUnlink tag index s
  | .routeSwap tag => execRouteSwap tag s
  | .watchAdd tag denom caseRef serial => execWatchAdd tag denom caseRef serial s
  | .watchRemove tag denom serial => execWatchRemove tag denom serial s
  | .watchClear tag => execWatchClear tag s
  | .groupDefine tag group pockets => execGroupDefine tag group pockets s
  | .groupFlush tag group => execGroupFlush tag group s
  | .pocketEnable tag pocket setting => execPocketEnable tag pocket setting s
  | .quarantineRelease tag => execQuarantineRelease tag s
  | .declare tag id lines => execDeclare tag id lines s
  | .declareCancel tag id => execDeclareCancel tag id s
  | .lineStart tag => execLineStart tag s
  | .lineStop tag => execLineStop tag s
  | .lineHalt tag => execLineHalt tag s
  | .lineResume tag => execLineResume tag s
  | .recover tag next => execRecover tag next s
  | .lineReset tag => execLineReset tag s
  | .statusRead tag => execStatusRead tag s
  | .tallyRead tag group clear => execTallyRead tag group clear s
  | .feedByte _ _ | .encEdge | .admissionDeadline | .divertWindowOpen | .divertWindowClose | .arrivalWindowEnd
  | .stallTimerExpiry | .leadingEdge | .trailingEdge | .arrivalPulse _ | .pocketCleared _ | .operatorStop | .hardReset
  | .idleByteSent _ | .frameStart | .frameSent => .next s

/-! ### Frames (R2, R6, section 11.2) -/

/-- The kind a kind byte names. -/
def kindOf (b : Byte) : Option FeedKind :=
  match b.toNat with
  | 1 => some .note
  | 2 => some .separator
  | 3 => some .control
  | _ => none

/-- The code of a kind. -/
def FeedKind.code : FeedKind → Byte
  | .note => 1
  | .separator => 2
  | .control => 3

/-- The payload lengths a kind accepts (R2). -/
def lengthAccepted (kind : FeedKind) (n : Nat) : Bool :=
  match kind with
  | .note => 4 ≤ n && n ≤ 16
  | .separator => 6 ≤ n && n ≤ 10
  | .control => 2 ≤ n && n ≤ 60

/-- The command a payload spells, or none where its record check fails (R10, R13). -/
def parsePayload (kind : FeedKind) (payload : List Byte) : Option Instr :=
  match kind with
  | .note => (parseNote payload).map .noteRecord
  | .separator => (parseSeparator payload).map .separatorRecord
  | .control => parseControl payload

/-- What a receiver in RECEIVING makes of a byte. -/
inductive FrameStep where
  | more (f : Frame)
  | passed (kind : FeedKind) (payload : List Byte)
  | failed

/-- An empty frame in assembly (R3, R5). -/
def Frame.empty : Frame := { kind := none, length := none, payload := [], crc := 0xFFFF, check := none }

/-- A byte that is not faulted, taken in RECEIVING by its role (R6, R7). -/
def Frame.take (f : Frame) (b : Byte) : FrameStep :=
  match f.kind with
  | none =>
    match kindOf b with
    | some k => .more { f with kind := some k, crc := crcByte f.crc b }
    | none => .failed
  | some k =>
    match f.length with
    | none =>
      if lengthAccepted k b.toNat then .more { f with length := some b, crc := crcByte f.crc b } else .failed
    | some n =>
      if f.payload.length < n.toNat then .more { f with payload := f.payload ++ [b], crc := crcByte f.crc b }
      else match f.check with
        | none => .more { f with check := some b }
        | some c => if be16 c b = f.crc then .passed k f.payload else .failed

/-! ### The receiver (R4 to R9) -/

/-- A framing error or a CRC error: HUNT, count 0, one FEED_ERRORS (R5, R6, R7, R9). -/
def feedError (s : State) : State := bump .feedErrors (s.setFeed (.hunt 0))

/-- A frame that has passed: WAIT, then the record check and delivery (R7, R10, R11). That the receiver is in WAIT before its record is
taken is the model's choice (notes/assumptions/30.md). -/
def framePassed (kind : FeedKind) (payload : List Byte) (s : State) : Result :=
  match parsePayload kind payload with
  | some i => deliver i (s.setFeed .wait)
  | none => .next (bump .feedErrors (s.setFeed .wait))

/-- FEED_BYTE (R5 to R8). -/
def execFeedByte (b : Byte) (faulted : Bool) (s : State) : Result :=
  match s.feed with
  | .wait =>
    if faulted then .next (feedError s)
    else if b = 0 then .next s
    else if b = Config.startByte then .next (s.setFeed (.receiving Frame.empty))
    else .next (feedError s)
  | .receiving f =>
    if faulted then .next (feedError s)
    else match f.take b with
      | .more f => .next (s.setFeed (.receiving f))
      | .passed kind payload => framePassed kind payload s
      | .failed => .next (feedError s)
  | .hunt run =>
    if faulted || b != 0 then .next (s.setFeed (.hunt 0))
    else if Config.idleRun ≤ run + 1 then .next (s.setFeed .wait)
    else .next (s.setFeed (.hunt (run + 1)))

end Sys2Proof.Machine
end

