-- ==== Sys2Proof/Machine/Dispatch.lean ====
section
/-! DEFINITION. One arm for each command: the meaning of the command. -/

namespace Sys2Proof.Machine

def exec (i : Instr) (s : State) : Host.Outcome State Fault Refusal :=
  match i with
  | .feedByte b faulted => Sys2Proof.Machine.execFeedByte b faulted s
  | .noteRecord r => Sys2Proof.Machine.execNoteRecord r s
  | .separatorRecord r => Sys2Proof.Machine.execSeparatorRecord r s
  | .controlFormatRefusal tag code args => Sys2Proof.Machine.execControlFormatRefusal tag code args s
  | .setParamLengthMin tag value => Sys2Proof.Machine.execSetParamLengthMin tag value s
  | .setParamLengthMax tag value => Sys2Proof.Machine.execSetParamLengthMax tag value s
  | .setParamRequireDeposit tag value => Sys2Proof.Machine.execSetParamRequireDeposit tag value s
  | .setParamQuarantinePocket tag value => Sys2Proof.Machine.execSetParamQuarantinePocket tag value s
  | .setParamQuarantineLimit tag value => Sys2Proof.Machine.execSetParamQuarantineLimit tag value s
  | .setParamGapMin tag value => Sys2Proof.Machine.execSetParamGapMin tag value s
  | .setParamStallTime tag value => Sys2Proof.Machine.execSetParamStallTime tag value s
  | .setParamStartTime tag value => Sys2Proof.Machine.execSetParamStartTime tag value s
  | .setParamTraceAll tag value => Sys2Proof.Machine.execSetParamTraceAll tag value s
  | .setParamTraceRejects tag value => Sys2Proof.Machine.execSetParamTraceRejects tag value s
  | .setParamNoticeMask tag value => Sys2Proof.Machine.execSetParamNoticeMask tag value s
  | .setParamStrapPreset tag g value => Sys2Proof.Machine.execSetParamStrapPreset tag g value s
  | .setParamDenominationPurity tag g value => Sys2Proof.Machine.execSetParamDenominationPurity tag g value s
  | .setParamDepositPurity tag g value => Sys2Proof.Machine.execSetParamDepositPurity tag g value s
  | .setParamBrickSize tag g value => Sys2Proof.Machine.execSetParamBrickSize tag g value s
  | .setParamLowThreshold tag g value => Sys2Proof.Machine.execSetParamLowThreshold tag g value s
  | .setParamOverflowAction tag g value => Sys2Proof.Machine.execSetParamOverflowAction tag g value s
  | .setGeometry tag geo => Sys2Proof.Machine.execSetGeometry tag geo s
  | .sync tag next => Sys2Proof.Machine.execSync tag next s
  | .routeWrite tag index a => Sys2Proof.Machine.execRouteWrite tag index a s
  | .routeLink tag index list position => Sys2Proof.Machine.execRouteLink tag index list position s
  | .routeUnlink tag index => Sys2Proof.Machine.execRouteUnlink tag index s
  | .routeSwap tag => Sys2Proof.Machine.execRouteSwap tag s
  | .watchAdd tag denom caseRef serial => Sys2Proof.Machine.execWatchAdd tag denom caseRef serial s
  | .watchRemove tag denom serial => Sys2Proof.Machine.execWatchRemove tag denom serial s
  | .watchClear tag => Sys2Proof.Machine.execWatchClear tag s
  | .groupDefine tag group pockets => Sys2Proof.Machine.execGroupDefine tag group pockets s
  | .groupFlush tag group => Sys2Proof.Machine.execGroupFlush tag group s
  | .pocketEnable tag pocket setting => Sys2Proof.Machine.execPocketEnable tag pocket setting s
  | .quarantineRelease tag => Sys2Proof.Machine.execQuarantineRelease tag s
  | .declare tag id lines => Sys2Proof.Machine.execDeclare tag id lines s
  | .declareCancel tag id => Sys2Proof.Machine.execDeclareCancel tag id s
  | .lineStart tag => Sys2Proof.Machine.execLineStart tag s
  | .lineStop tag => Sys2Proof.Machine.execLineStop tag s
  | .lineHalt tag => Sys2Proof.Machine.execLineHalt tag s
  | .lineResume tag => Sys2Proof.Machine.execLineResume tag s
  | .recover tag next => Sys2Proof.Machine.execRecover tag next s
  | .lineReset tag => Sys2Proof.Machine.execLineReset tag s
  | .statusRead tag => Sys2Proof.Machine.execStatusRead tag s
  | .tallyRead tag group clear => Sys2Proof.Machine.execTallyRead tag group clear s
  | .encEdge => Sys2Proof.Machine.execEncEdge s
  | .admissionDeadline => Sys2Proof.Machine.execAdmissionDeadline s
  | .divertWindowOpen => Sys2Proof.Machine.execDivertWindowOpen s
  | .divertWindowClose => Sys2Proof.Machine.execDivertWindowClose s
  | .arrivalWindowEnd => Sys2Proof.Machine.execArrivalWindowEnd s
  | .stallTimerExpiry => Sys2Proof.Machine.execStallTimerExpiry s
  | .leadingEdge => Sys2Proof.Machine.execLeadingEdge s
  | .trailingEdge => Sys2Proof.Machine.execTrailingEdge s
  | .arrivalPulse p => Sys2Proof.Machine.execArrivalPulse p s
  | .pocketCleared p => Sys2Proof.Machine.execPocketCleared p s
  | .operatorStop => Sys2Proof.Machine.execOperatorStop s
  | .hardReset => Sys2Proof.Machine.execHardReset s
  | .idleByteSent rdyIn => Sys2Proof.Machine.execIdleByteSent rdyIn s
  | .frameStart => Sys2Proof.Machine.execFrameStart s
  | .frameSent => Sys2Proof.Machine.execFrameSent s

end Sys2Proof.Machine
end

