-- ==== Sys2Proof/Safety.lean ====
section
/-! DEFINITION. What is said of states and of pairs of states: what handing a report may change, and the laws of the state that
every step keeps. -/

namespace Sys2Proof.Machine

/-! ### Stops -/

/-- A step that ends in a next state: neither a fault nor a refusal. -/
def Proceeds (s : State) : Prop := ∃ t, step s = .next t

/-! ### What handing reports may change (R194 to R196, R171, R178) -/

/-- The line before and after BACKLOG may have been taken: as it was, or with BACKLOG held, and halted if it moved. -/
def BacklogTaken (a b : LineUnit) : Prop :=
  b = a ∨
  (a.causes.backlog = false ∧ b.causes = a.causes.put true .backlog ∧ b.jam = a.jam ∧
    ((a.state = .run ∧ b.state = .halt ∧ b.resume = some .run ∧ b.runOut = false ∧ b.feedEn = false) ∨
     (a.state = .drain ∧ b.state = .halt ∧ b.resume = some .drain ∧ b.runOut = false ∧ b.feedEn = false) ∨
     (a.state ≠ .run ∧ a.state ≠ .drain ∧ b = { a with causes := b.causes })))

/-- Two states that differ only in the Report Unit, in a BACKLOG taken by the line, and in the stall timer, which stops where that
halts the line and stands otherwise. -/
def Reported (s t : State) : Prop :=
  t = ((s.setReport t.report).setLine t.line).setTrack { s.track with stall := t.track.stall } ∧ BacklogTaken s.line t.line
    ∧ t.track.stall = if t.line.state = s.line.state then s.track.stall else none

/-! ### Laws of the line (R139, R167, R169, R170, R182, R196) -/

/-- The outputs follow the line state; the resume target is there exactly in HALT and the jam in force exactly in JAMMED; no
cause is held in RUN or DRAIN; the stall timer runs exactly in RUN and DRAIN; BACKLOG is held exactly while the backlog flag is
set. -/
structure LineLaw (s : State) : Prop where
  /-- RUN (R167) -/
  runOut : s.line.runOut = (s.line.state == .run || s.line.state == .drain)
  /-- FEED_EN (R167) -/
  feedEn : s.line.feedEn = (s.line.state == .run)
  /-- resume target (R169) -/
  resume : s.line.resume.isSome = (s.line.state == .halt)
  /-- jam in force (R182, R185) -/
  jam : s.line.jam.isSome = (s.line.state == .jammed)
  /-- cause set (R170) -/
  causes : s.line.state = .run ∨ s.line.state = .drain → s.line.causes = CauseSet.empty
  /-- stall timer (R139) -/
  stall : s.track.stall.isSome = (s.line.state == .run || s.line.state == .drain)
  /-- BACKLOG (R196) -/
  backlog : s.line.causes.backlog = s.report.backlog

/-! ### Laws of the track (R23, R127, R131, R143, R184) -/

/-- The capacities; the gates follow the queue; no item waits between works; JAMMED finds both queues empty, and the Loss List
holds records in JAMMED alone; without a geometry nothing is held. -/
structure TrackLaw (s : State) : Prop where
  /-- Edge FIFO (R23) -/
  fifo : s.edge.fifo.length ≤ Config.fifoCapacity
  /-- Track Queue (R127) -/
  queue : s.track.queue.length ≤ Config.trackCapacity
  /-- Loss List (R143) -/
  losses : s.track.losses.length ≤ Config.lossCapacity
  /-- gate outputs (R131) -/
  gates : s.track.gates = gatesOf s.track.queue
  /-- the item in waiting (R130) -/
  waiting : s.track.waiting = none
  /-- JAMMED (R184) -/
  jammed : s.line.state = .jammed → s.track.queue = [] ∧ s.edge.fifo = []
  /-- the Loss List (R143) -/
  lost : s.line.state ≠ .jammed → s.track.losses = []

/-! ### Laws of the Report Unit (R192 to R195) -/

/-- The Report Queue, the loss mark and the idle count keep their ranges, a frame is sent of a report at the head, and REPORT_TX carries
what the transmitter sends. -/
structure ReportLaw (s : State) : Prop where
  /-- Report Queue (R193) -/
  queue : s.report.queue.length ≤ Config.queueCapacity
  /-- loss mark (R195) -/
  lossMark : s.report.lossMark ≤ Config.lossMarkMax
  /-- idle count (R192) -/
  idle : ∀ n, s.report.tx = .quiet n → n ≤ Config.idleRun
  /-- the frame on REPORT_TX (R192) -/
  sending : ∀ f, s.report.tx = .sending f → ∃ q rest, s.report.queue = q :: rest ∧ f = reportFrame q s.report.segment
  /-- REPORT_TX: idle bytes in QUIET, the frame in SENDING (R190) -/
  line : s.report.reportTx = s.report.tx.line
  /-- RESET_N is high between steps (notes/assumptions/17.md) -/
  released : s.report.tx ≠ .held

/-! ### Laws of the Watch Filter (R65, R66) -/

/-- The watch list keeps its capacity and no two entries are the same pair; the counting index is in canonical form and every
cell equals the number of entries whose serial indexes to it. -/
structure WatchLaw (s : State) : Prop where
  /-- watch list (R65) -/
  capacity : s.watch.list.length ≤ Config.watchCapacity
  /-- pairs of serial and denomination (R65) -/
  pairs : (s.watch.list.map fun e => (e.serial, e.denom)).Nodup
  /-- canonical form -/
  canonical : s.watch.index.wf = true
  /-- counting-index cells (R66) -/
  exact : ∀ cell, (s.watch.index.read cell).toNat = s.watch.list.countP fun e => cellOf e.serial == cell

/-! ### Laws of the route table (R41) -/

/-- Each object is in at most one list and once, and only an object in ACTIVE is spent. -/
structure RouteLaw (s : State) : Prop where
  /-- FREE, STANDBY and ACTIVE (R41) -/
  lists : (s.route.active ++ s.route.standby).Nodup
  /-- spent flags (R41) -/
  spent : ∀ k : ObjectNo, (objectAt k s).spent = true → k ∈ s.route.active

/-! ### Laws of the deposits (R148, R150) -/

/-- The entries of the Track Queue attributed to a slot. -/
def attributed (k : SlotNo) (s : State) : Nat := s.track.queue.countP fun e => e.slot == some k

/-- Slots and ids are held once, at most one deposit is OPEN, every in-flight count equals the number of entries attributed to
the deposit, and every entry's slot holds a deposit; the Declaration Table keeps its capacity, no id stands twice in it, and an
entry is bound exactly when its deposit is held. -/
structure DepositLaw (s : State) : Prop where
  /-- slots (R148) -/
  slots : (s.deposit.deposits.map (·.slot)).Nodup
  /-- ids (R148) -/
  ids : (s.deposit.deposits.map (·.id)).Nodup
  /-- at most one OPEN (R148) -/
  open_ : (s.deposit.deposits.countP fun d => d.state == .openState) ≤ 1
  /-- in-flight counts (R148) -/
  inFlight : ∀ d ∈ s.deposit.deposits, d.inFlight = attributed d.slot s
  /-- slots of entries (R158) -/
  entries : ∀ e ∈ s.track.queue, ∀ k, e.slot = some k → (depositAt k s).isSome
  /-- Declaration Table (R150) -/
  declarations : s.deposit.declarations.length ≤ Config.declarationCapacity
  /-- declared ids (R150) -/
  declared : (s.deposit.declarations.map (·.id)).Nodup
  /-- bound entries (R150) -/
  bound : ∀ e ∈ s.deposit.declarations, e.bound = s.deposit.deposits.any fun d => d.id == e.id

/-! ### Laws of pockets and groups (R79, R106, R107, R108) -/

/-- Member lists share no pocket, none holds the quarantine pocket, the current member is one of its group's members and is
present exactly when the group is defined, and a strap preset is 1 or more (R106, R107, R108). -/
structure GroupLaw (s : State) : Prop where
  /-- membership (R108) -/
  members : (s.group.groups.toList.flatMap (·.members)).Nodup
  /-- the quarantine pocket (R108) -/
  quarantine : ∀ q, s.pocket.quarantine = some q → groupOf q s = none
  /-- current member (R106) -/
  current : ∀ k : GroupNo, match (groupAt k s).current with
    | some g => g ∈ (groupAt k s).members
    | none => (groupAt k s).members = []
  /-- strap preset (R107) -/
  strap : ∀ k : GroupNo, 1 ≤ (groupAt k s).strap

/-- The entries of the Track Queue destined to a gated pocket. -/
def destined (g : Gate) (s : State) : Nat := s.track.queue.countP fun e => e.dest == .gated g

/-- A member's state follows from its counts, and its committed count never exceeds its target (R79). -/
def MemberLaw (r : PocketRec) : Prop :=
  match r.target with
  | none => r.committed = 0 ∧ r.confirmed = 0 ∧ r.state = .openState
  | some t => r.committed ≤ t ∧ 0 < r.committed ∧
      r.state = if r.confirmed = t then .full else if r.committed = t then .closing else .openState

/-- Laws 1 and 2 of R79 and its table: committed is confirmed and the entries destined to the pocket; the quarantine pocket stays
within its limit and is FULL exactly at it, its manifest as long as its confirmed count; a member keeps the law of its counts; any
other pocket is UNASSIGNED and empty; an entry with a shadow pocket is bound for run-out, so a shadow confirmation takes no place. -/
structure PocketLaw (s : State) : Prop where
  /-- law 1 (R79) -/
  flight : ∀ g : Gate, (pocketAt g s).committed = (pocketAt g s).confirmed + destined g s
  /-- the limit (R96) -/
  limit : 1 ≤ s.pocket.limit
  /-- the quarantine pocket (R79, R97) -/
  quarantine : ∀ q, s.pocket.quarantine = some q →
    (pocketAt q s).committed ≤ s.pocket.limit ∧ s.pocket.manifest.length = (pocketAt q s).confirmed ∧
      (pocketAt q s).state = if (pocketAt q s).committed = s.pocket.limit then .full else .openState
  /-- members, law 2 (R79) -/
  member : ∀ g k, groupOf g s = some k → MemberLaw (pocketAt g s)
  /-- a shadow pocket belongs to an item bound for run-out (R132) -/
  shadow : ∀ e ∈ s.track.queue, e.shadow.isSome → e.dest = .runOut
  /-- other pockets (R79) -/
  other : ∀ g, groupOf g s = none → s.pocket.quarantine ≠ some g →
    (pocketAt g s).state = .unassigned ∧ (pocketAt g s).committed = 0 ∧ (pocketAt g s).confirmed = 0 ∧ (pocketAt g s).target = none

/-! ### The read point and admission, as statements name them -/

/-- Nothing is outstanding at the present position: no deadline, no end of an arrival window, no open or close position. -/
def NothingDue (s : State) : Prop :=
  (∀ e ∈ s.edge.fifo, e.deadline ≠ s.edge.position) ∧
  (∀ e ∈ s.track.queue, e.arrival.last ≠ s.edge.position ∧
    ∀ w, e.divert = some w → (w.opens = s.edge.position → w.opened = true) ∧ (w.closes = s.edge.position → w.closed = true)) ∧
  s.track.gates = gatesOf s.track.queue

/-- The entry an UNREAD admission of an edge makes (R28, R128, R141). -/
def unreadEntry (e : HeldEdge) (s : State) : Entry :=
  let len := match e.trail with
    | some p => (p - e.lead).toNat
    | none => s.route.lengthMax
  { item := e.item, seq := e.seq, kind := .unread, cls := none, denom := none, serial := none
    slot := (openDeposit s).map (·.slot), lead := e.lead, length := e.trail.map fun p => (p - e.lead).toNat, gap := e.gap
    dest := .runOut, reason := .unread, route := none, caseRef := none, lateMark := false, shadow := none, divert := none
    arrival := { first := e.lead + s.track.geometry.d[0].zeroExtend 24 - s.track.geometry.tol.zeroExtend 24
                 last := e.lead + BitVec.ofNat 24 (s.track.geometry.d[0].toNat + len + s.track.geometry.tol.toNat) }
    trace := s.track.traceAll || s.track.traceRejects }

/-- The entry of an admitted item, field by field (R129): windows from its leading position, its length or else LENGTH_MAX, and the
distances (R128); the shadow pocket of a PITCH item, the gated destination of the item before it when its own leading edge comes there
before that item's close position (R132); the trace flag (R141). -/
def admittedEntry (e : HeldEdge) (kind : ItemKind) (cls : Option NoteClass) (denom : Option Denom) (serial : Option Serial)
    (disp : Disposition) (slot : Option SlotNo) (s : State) : Entry :=
  let geo := s.track.geometry
  let len := match e.trail with
    | some p => (p - e.lead).toNat
    | none => s.route.lengthMax
  let distanceTo (d : Dest) : Half := match d with
    | .runOut => geo.d[0]
    | .gated g => geo.d[g.val + 1]'(by omega)
  let window (d : Dest) : Window :=
    { first := e.lead + (distanceTo d).zeroExtend 24 - geo.tol.zeroExtend 24
      last := e.lead + BitVec.ofNat 24 ((distanceTo d).toNat + len + geo.tol.toNat) }
  let caught (before : Entry) : Option Shadow := match before.dest, before.divert with
    | .gated p, some w =>
      let d := (w.closes - (e.lead + (distanceTo (.gated p)).zeroExtend 24)).toNat
      if 0 < d ∧ d < 2 ^ 23 then some { pocket := p, window := window (.gated p) } else none
    | _, _ => none
  { item := e.item, seq := e.seq, kind := kind, cls := cls, denom := denom, serial := serial, slot := slot, lead := e.lead
    length := e.trail.map fun p => (p - e.lead).toNat, gap := e.gap, dest := disp.dest, reason := disp.reason, route := disp.route
    caseRef := disp.hit.map (·.caseRef), lateMark := false
    shadow := if disp.reason = .pitch then (s.track.queue.find? fun x => x.item == e.item - 1).bind caught else none
    divert := match disp.dest with
      | .runOut => none
      | .gated g => some
          { opens := e.lead + (distanceTo (.gated g)).zeroExtend 24 - geo.lead.zeroExtend 24
            closes := e.lead + BitVec.ofNat 24 (len + (distanceTo (.gated g)).toNat + geo.lag.toNat)
            opened := false, closed := false }
    arrival := window disp.dest
    trace := s.track.traceAll || (s.track.traceRejects && disp.dest == .runOut) || disp.routeTrace }

/-- The Deposit Unit after an item is attributed to the deposit of a slot (R158, R74); no change for an item of no slot. -/
def attributedTo (slot : Option SlotNo) (item : Word) (hit : Bool) (u : DepositUnit) : DepositUnit :=
  { u with deposits := u.deposits.map fun d =>
      if some d.slot = slot then
        { d with inFlight := d.inFlight + 1, itemCount := min (d.itemCount + 1) 65535, firstItem := some (d.firstItem.getD item)
                 lastItem := some item, watchHits := if hit then min (d.watchHits + 1) 65535 else d.watchHits }
      else d }

/-! ### Bytes in a row -/

/-- The bytes of a sequence taken one after another, none of them faulted, as FEED_BYTE commands. -/
def feedBytes : List Byte → State → Host.Outcome State Fault Refusal
  | [], s => .next s
  | b :: rest, s =>
    match exec (.feedByte b false) s with
    | .next t => feedBytes rest t
    | .fault r => .fault r
    | .refused r => .refused r

end Sys2Proof.Machine
end

