-- ==== Sys2Proof/Certificates/Slice0/Obligations.lean ====
section
/-! DEFINITION. The statements about the model, for the provers. Positions, counts and codes are the manual's; "the answer queued
first" is the model's reading of R14 (notes/assumptions/9.md). -/

open Sys2Proof Sys2Proof.Machine

/-! ### The step and its queue -/

/-- A step takes the command at the front of the queue and carries it out on the state with the queue's rest. -/
def Obligations.StepTakesFrontCommand : Prop :=
  ∀ (c : Instr) (rest : List Instr) (s : State), step (s.setPending (c :: rest)) = exec c (s.setPending rest)

/-- Every command ends in a next state and leaves the queue of waiting commands to the step; on an empty queue the part idles,
which is the model's choice (notes/assumptions/1.md). -/
def Obligations.EveryStepProceeds : Prop :=
  (∀ (c : Instr) (s : State), ∃ t, exec c s = .next t ∧ t.pending = s.pending) ∧
  (∀ s : State, s.pending = [] → step s = .next s)

/-! ### Hard reset -/

/-- HARD_RESET brings every block to its hard-reset values from any state, with the READY report queued; and those values, as the
manual gives them. It passes through the part while RESET_N is low: RUN, FEED_EN and the gates low, the Report Queue empty, REPORT_TX
held high and no byte sent, whatever the transmitter's rows are given. That the pulse and its release are one command, and that the
waiting commands and the model's count of free values stand, is the model's choice (notes/assumptions/17.md); and that the closing kind
of an empty bundle is FULL and its deposit-pure flag clear (notes/assumptions/27.md). -/
def Obligations.HardResetValues : Prop :=
  (∀ s : State, exec .hardReset s = .next { State.reset with pending := s.pending, freeCount := s.freeCount }) ∧
  (∀ s : State,
    let low := holdReset s
    exec .hardReset s = .next (releaseReset low) ∧
    low.report.reportTx = .high ∧ low.report.tx = .held ∧ low.report.queue = [] ∧
    low.line.runOut = false ∧ low.line.feedEn = false ∧ (∀ g : Gate, low.track.gates[g] = false) ∧
    (∀ rdy, exec (.idleByteSent rdy) low = .next low) ∧ exec .frameStart low = .next low ∧ exec .frameSent low = .next low) ∧
  let s := State.reset
  s.feed = .hunt 0 ∧ s.edge.position = 0 ∧ s.edge.nextItem = 1 ∧ s.edge.nextSeq = 0 ∧ s.edge.gap = none ∧ s.edge.fifo = [] ∧
  s.route.active = [] ∧ s.route.standby = [] ∧ s.route.swapPending = false ∧ s.route.lengthMin = 200 ∧ s.route.lengthMax = 400 ∧
  (∀ k : ObjectNo, objectAt k s =
    { classSet := 0, denomValue := 0, denomMask := 0, seriesValue := 0, seriesMask := 0, fitnessSet := 0, orientSet := 0
      kindSet := 0, target := .runOut, priority := 0, preset := none, remaining := 0, spent := false, trace := false }) ∧
  s.watch.list = [] ∧ (∀ cell, s.watch.index.read cell = 0) ∧
  (∀ g : Gate, pocketAt g s = PocketRec.fresh .unassigned true) ∧
  (∀ state enabled, PocketRec.fresh state enabled =
    { state := state, target := none, committed := 0, confirmed := 0, denom := none, deposit := none, depositPure := false
      closing := .full, contributions := [], recount := false, manyDeposits := false, carried := false, lateMark := false
      enabled := enabled }) ∧
  s.pocket.quarantine = none ∧ s.pocket.limit = 50 ∧ s.pocket.manifest = [] ∧ s.pocket.runOut = 0 ∧ s.pocket.nextBundle = 1 ∧
  (∀ k : GroupNo, groupAt k s =
    { members := [], current := none, denomPure := true, depositPure := false, strap := 100, brickSize := 10, lowThreshold := 1
      overflow := .halt, armed := false }) ∧
  (∀ i : Fin 16, s.group.accs[i] = none) ∧ s.group.nextBrick = 1 ∧
  s.track.loaded = false ∧ s.track.geometry.admitLimit = 600 ∧ (∀ p : Fin 16, s.track.geometry.d[p] = 0) ∧
  s.track.geometry.lead = 0 ∧ s.track.geometry.lag = 0 ∧ s.track.geometry.tol = 0 ∧
  s.track.queue = [] ∧ s.track.losses = [] ∧ s.track.stall = none ∧
  (∀ g : Gate, s.track.gates[g] = false) ∧ s.track.gapMin = 40 ∧ s.track.stallTime = 250 ∧ s.track.startTime = 1000 ∧
  s.track.traceAll = false ∧ s.track.traceRejects = false ∧
  s.deposit.deposits = [] ∧ s.deposit.declarations = [] ∧ s.deposit.requireDeposit = false ∧
  s.line.state = .idle ∧ s.line.causes = CauseSet.empty ∧ s.line.resume = none ∧ s.line.jam = none ∧ s.line.runOut = false ∧
  s.line.feedEn = false ∧
  s.report.queue = [{ report := .ready 1, loss := 0 }] ∧ s.report.lossMark = 0 ∧ s.report.backlog = false ∧
  (∀ d : Denom, s.report.tallyValue (.accepted d) = 0) ∧ (∀ e : EventTally, s.report.tallyValue (.event e) = 0) ∧
  s.report.noticeMask = 0 ∧ s.report.tx = .quiet 0 ∧ s.report.reportTx = .sends [false, false, false, false, false, false, false, false, false, true]

/-! ### Reports and tallies -/

/-- What the Report Unit does with a report. A TRACE is admitted below 48 and dropped from 48 on; any other is admitted below 64,
at the tail, with the loss mark in its loss field, and an occupancy of 56 reached sets the backlog flag. At 64 it is lost:
REPORTS_LOST and the loss mark go up by one, and nothing else changes, but where REPORTS_LOST passes its notice level: its notice
is lost in its turn and they go up once more. The line takes a BACKLOG that the report sets at once (notes/assumptions/7.md). -/
def Obligations.ReportAdmission : Prop :=
  (∀ (r : Report) (s : State),
    let admitted : State := { s with report := { s.report with
      queue := s.report.queue ++ [{ report := r, loss := s.report.lossMark }], lossMark := 0
      backlog := s.report.backlog || s.report.queue.length + 1 == 56 } }
    ((∃ x, r = .trace x) → s.report.queue.length < 48 → hand r s = admitted) ∧
    ((∃ x, r = .trace x) → 48 ≤ s.report.queue.length → hand r s = bumpQuiet (.event .traceDropped) s) ∧
    ((∀ x, r ≠ .trace x) → s.report.queue.length < 64 → hand r s = admitted)) ∧
  (∀ (r : Report) (s : State), (∀ x, r ≠ .trace x) → 64 ≤ s.report.queue.length →
    let lost (n : Nat) : State := { s with report := { s.report with
      events := s.report.events.set 20 (s.report.events[20] + BitVec.ofNat 16 n)
      lossMark := min (s.report.lossMark + n) 255 } }
    hand r s = if s.report.events[20] = 0xDFFF ∧ s.report.noticeMask.getLsbD 20 then lost 2 else lost 1) ∧
  (∀ (r : Report) (s : State), emit r s = takeBacklog (hand r s) ∧ ((∀ x, r ≠ .trace x) → handPlain r s = hand r s))

/-- Handing on a report or increasing a tally, an ACCEPTED one included, leaves every block but the Report Unit as it was, except that
a BACKLOG it sets is held and halts a line in RUN or DRAIN; the stall timer stops where the line halts and stands everywhere else. -/
def Obligations.ReportsLeaveTheRest : Prop :=
  (∀ (r : Report) (s : State), Reported s (emit r s)) ∧ (∀ (e : EventTally) (s : State), Reported s (bump e s)) ∧
  (∀ (d : Denom) (s : State), Reported s (takeBacklog (bumpQuiet (.accepted d) s)))

/-- BACKLOG, taken at once when the flag is set and the cause not yet held (notes/assumptions/7.md): the cause joins the set, and a
line in RUN or DRAIN halts with that resume target, both outputs low, the stall timer stopped and a LINE report with trigger
CONDITION. Every condition cause is raised so, QUARANTINE_FULL, DEPOSIT_FULL and GROUP_FULL among them: nothing more where it is
held, and in IDLE, HALT and JAMMED the cause set alone changes (R171, R178); a BACKLOG that the LINE report sets is taken after it. -/
def Obligations.BacklogHaltsTheLine : Prop :=
  (∀ s : State, s.report.backlog = true → s.line.causes.backlog = false →
    let causes := { s.line.causes with backlog := true }
    let halted (r : Resume) : State := { s with
      line := { s.line with state := .halt, causes := causes, resume := some r, runOut := false, feedEn := false }
      track := { s.track with stall := none } }
    let report (r : Resume) : Report := .line
      { from_ := s.line.state, to_ := .halt, trigger := .condition, cause := some (.condition .backlog), causes := causes
        resume := some r, position := s.edge.position }
    takeBacklog s = match s.line.state with
      | .run => hand (report .run) (halted .run)
      | .drain => hand (report .drain) (halted .drain)
      | .idle | .halt | .jammed => { s with line := { s.line with causes := causes } }) ∧
  (∀ (c : Cause) (s : State),
    let old := s.line.causes
    let held : Bool := match c with
      | .operator => old.operator
      | .command => old.command
      | .quarantineFull => old.quarantineFull
      | .backlog => old.backlog
      | .depositFull => old.depositFull
      | .groupFull g => old.groupFull[g]
    let causes : CauseSet := match c with
      | .operator => { old with operator := true }
      | .command => { old with command := true }
      | .quarantineFull => { old with quarantineFull := true }
      | .backlog => { old with backlog := true }
      | .depositFull => { old with depositFull := true }
      | .groupFull g => { old with groupFull := old.groupFull.set g true }
    let halted (r : Resume) : State := { s with
      line := { s.line with state := .halt, causes := causes, resume := some r, runOut := false, feedEn := false }
      track := { s.track with stall := none } }
    let report (r : Resume) : Report := .line
      { from_ := s.line.state, to_ := .halt, trigger := .condition, cause := some (.condition c), causes := causes
        resume := some r, position := s.edge.position }
    (held = true → raiseCause c s = takeBacklog s) ∧
    (held = false → raiseCause c s = takeBacklog (match s.line.state with
      | .run => hand (report .run) (halted .run)
      | .drain => hand (report .drain) (halted .drain)
      | .idle | .halt | .jammed => { s with line := { s.line with causes := causes } })))

/-- A tally goes up by one and wraps, and no other tally changes; with its notice level passed and the tally in NOTICE_MASK, a
TALLY report with occasion NOTICE is handed on: for the 25 tallies of 16 bits level 0xE000 and one mask bit each, for the 32
ACCEPTED tallies of 32 bits level 0xE0000000 and mask bit 25. The 25 stand in the order of R197. The RUNOUT tally that the close of
an item increases: none for a lost item, PITCH_SHADOWED for a shadowed one, the reason's for one confirmed at run-out (R198). -/
def Obligations.TallyIncrease : Prop :=
  (∀ (e : EventTally) (s : State),
    let up : State := { s with report := { s.report with events := s.report.events.set e.index (s.report.events[e.index] + 1) } }
    bumpQuiet (.event e) s =
      if s.report.events[e.index] + 1 = 0xE000 ∧ s.report.noticeMask.getLsbD e.index.val then
        handPlain (.tally
          { notice := true, cleared := false, tallies := [(32 + e.index.val, 0xE000)]
            group := if e.index.val < 11 then .runOut else if e.index.val < 19 then .events else .output }) up
      else up) ∧
  (∀ (e : EventTally) (s : State), bump e s = takeBacklog (bumpQuiet (.event e) s)) ∧
  (∀ (d : Denom) (s : State),
    let n : Nat := s.report.accepted[d.toFin].toNat
    let more : BitVec 32 := s.report.accepted[d.toFin] + 1
    let up : State := { s with report := { s.report with accepted := s.report.accepted.set d.toFin more } }
    (n = 0xFFFFFFFF → more = 0) ∧
    bumpQuiet (.accepted d) s =
      if more = 0xE0000000 ∧ s.report.noticeMask.getLsbD 25 then
        handPlain (.tally { notice := true, group := .accepted, cleared := false, tallies := [(d.toNat, 0xE0000000)] }) up
      else up) ∧
  ([EventTally.noRoute, .noSpace, .late, .pitch, .pitchShadowed, .length, .unread, .lateRecord, .noDeposit, .watchUnheld, .routed,
    .feedErrors, .slips, .strayRecords, .strayArrivals, .clearIgnored, .depositRepeat, .watchHits, .watchFalse,
    .traceDropped, .reportsLost, .bundles, .bricks, .jams, .discarded].map EventTally.index = List.finRange 25) ∧
  (∀ (e : Entry) (close : ItemClose) (s : State),
    tallyClose e close s = match close, e.dest with
      | .lost, _ | .confirmed, .gated _ => s
      | .shadowed, _ => bump .pitchShadowed s
      | .confirmed, .runOut => match e.reason with
        | .noRoute => bump .noRoute s
        | .noSpace => bump .noSpace s
        | .late => bump .late s
        | .pitch => bump .pitch s
        | .pitchShadowed => bump .pitchShadowed s
        | .length => bump .length s
        | .unread => bump .unread s
        | .lateRecord => bump .lateRecord s
        | .noDeposit => bump .noDeposit s
        | .watchUnheld => bump .watchUnheld s
        | .routed => bump .routed s
        | .placed | .watch | .card => s)

/-- TALLY_READ: refused RANGE for a group above 4 or a clear option above 1; otherwise answered, and a TALLY report carries the
group's tallies as they were when the request was taken (notes/assumptions/9.md). With the clear option, an admitted report has
cleared set and the group reads 0 afterwards; a lost report leaves every tally of the group as it was. Which tallies each group
byte names, with which number and value, and what the clear leaves: 0 for every tally of the group, the others as they were. -/
def Obligations.TallyReadAnswered : Prop :=
  (∀ (tag group clear : Byte) (s : State),
    (group.toNat > 4 ∨ clear.toNat > 1 → exec (.tallyRead tag group clear) s = .next (refuse tag 0x61 .range s)) ∧
    (∀ g, tallyGroupOf group = some g → clear.toNat ≤ 1 →
      let s1 := answer tag 0x61 .none s
      let report (c : Bool) : Report := .tally { notice := false, group := g, cleared := c, tallies := s.report.groupTallies g }
      exec (.tallyRead tag group clear) s = .next (takeBacklog (
        if clear = 1 ∧ s1.report.queue.length < 64 then
          let s2 := hand (report true) s1
          { s2 with report := s2.report.clearGroup g }
        else hand (report false) s1)))) ∧
  (tallyGroupOf 0 = some .accepted ∧ tallyGroupOf 1 = some .runOut ∧ tallyGroupOf 2 = some .events ∧
    tallyGroupOf 3 = some .output ∧ tallyGroupOf 4 = some .all) ∧
  (∀ u : ReportUnit,
    let accepted : List (Nat × Word) := (List.finRange 32).map fun k => (k.val, u.accepted[k])
    let events (low count : Nat) : List (Nat × Word) :=
      (((List.finRange 25).drop low).take count).map fun k => (32 + k.val, (u.events[k]).zeroExtend 32)
    u.groupTallies .accepted = accepted ∧ u.groupTallies .runOut = events 0 11 ∧ u.groupTallies .events = events 11 8 ∧
    u.groupTallies .output = events 19 6 ∧ u.groupTallies .all = accepted ++ events 0 25 ∧
    ∀ g : TallyGroup,
      u.clearGroup g = { u with accepted := (u.clearGroup g).accepted, events := (u.clearGroup g).events } ∧
      (∀ k : Fin 32, (u.clearGroup g).accepted[k] = if g = .accepted ∨ g = .all then 0 else u.accepted[k]) ∧
      (∀ k : Fin 25, (u.clearGroup g).events[k] =
        if g = .all ∨ (g = .runOut ∧ k.val < 11) ∨ (g = .events ∧ 11 ≤ k.val ∧ k.val < 19) ∨ (g = .output ∧ 19 ≤ k.val) then 0
        else u.events[k]))

/-- Three requests that change little. A CONTROL record that fails the format check is answered REFUSED FORMAT with its request code
and changes nothing else; that it is so whatever bytes it carries is the model's reading (notes/assumptions/22.md). SYNC sets the
edge sequence counter in every line state. STATUS_READ is answered, then a STATUS report of the part as it stood when the request
was taken, its Report Queue occupancy the one its own admission finds (notes/assumptions/9.md): the counters, occupancies, flags and
lists it carries, every field of R201. The answer of an accepted request carries its detail; a refusal carries the whole cause set
with reason CAUSES and nothing otherwise. -/
def Obligations.FormatSyncAndStatusAnswered : Prop :=
  (∀ (tag code : Byte) (args : List Byte) (s : State),
    exec (.controlFormatRefusal tag code args) s = .next (emit (.answer tag code (some .format) .none) s)) ∧
  (∀ (tag code : Byte) (detail : Detail) (reason : RefusalReason) (s : State),
    answer tag code detail s = emit (.answer tag code none detail) s ∧
    refuse tag code reason s =
      emit (.answer tag code (some reason) (if reason = .causes then .causes s.line.causes else .none)) s) ∧
  (∀ (tag next : Byte) (s : State),
    exec (.sync tag next) s = .next (
      let t := answer tag 0x03 .none s
      { t with edge := { s.edge with nextSeq := next } })) ∧
  (∀ (tag : Byte) (s : State),
    let s1 := answer tag 0x60 .none s
    exec (.statusRead tag) s = .next (emit (.status (statusOf s s1.report.queue.length)) s1) ∧
    (statusOf s s1.report.queue.length).reports = s1.report.queue.length ∧
    (statusOf s s1.report.queue.length).line = s.line.state ∧
    (statusOf s s1.report.queue.length).gates = s.track.gates ∧
    (statusOf s s1.report.queue.length).causes = s.line.causes ∧
    (statusOf s s1.report.queue.length).nextItem = s.edge.nextItem ∧
    ∀ n, let r := statusOf s n
      r.resume = s.line.resume ∧ r.jam = s.line.jam ∧ r.edges = s.edge.fifo.length ∧ r.nextSeq = s.edge.nextSeq ∧
      r.entries = s.track.queue.length ∧ r.losses = s.track.losses.length ∧ r.loaded = s.track.loaded ∧
      r.geometry = s.track.geometry ∧ r.swapPending = s.route.swapPending ∧ r.active = s.route.active.length ∧
      r.standby = s.route.standby.length ∧ r.free = 48 - s.route.active.length - s.route.standby.length ∧
      r.watch = s.watch.list.length ∧ r.quarantine = s.pocket.quarantine ∧ r.manifest = s.pocket.manifest.length ∧
      r.runOut = s.pocket.runOut ∧ r.declarations = s.deposit.declarations.length ∧
      r.bound = s.deposit.declarations.countP (·.bound) ∧ r.lossMark = s.report.lossMark ∧ r.revision = 1 ∧
      r.receiver = (match s.feed with
        | .wait => .wait
        | .receiving _ => .receiving
        | .hunt _ => .hunt) ∧
      r.pockets = ((List.finRange 15).map fun g => pocketAt g s).map (fun p =>
        { state := p.state, committed := p.committed, confirmed := p.confirmed, target := p.target, denom := p.denom
          recount := p.recount, manyDeposits := p.manyDeposits, carried := p.carried, lateMark := p.lateMark
          enabled := p.enabled }) ∧
      r.groups = ((List.finRange 8).map fun k => groupAt k s).map (fun g =>
        { members := g.members, current := g.current, denomPure := g.denomPure, depositPure := g.depositPure, strap := g.strap
          brickSize := g.brickSize, lowThreshold := g.lowThreshold, overflow := g.overflow }) ∧
      r.accumulators = (List.finRange 16).map (fun i =>
        (s.group.accs[i]).map fun a => (a.group, a.denom, a.bundles.length)) ∧
      r.deposits = (List.finRange 4).map (fun k => (depositAt k s).map fun d =>
        { state := d.state, id := d.id, inFlight := d.inFlight, boundaryLost := d.boundaryLost }))

/-! ### The transmitter -/

/-- The transmitter. Each byte on REPORT_TX is ten bit times: a low start bit, its data bits least significant first, and a high stop
bit (R190). In QUIET the idle byte 0x00 is sent: it is counted up to 4 and RDY_IN taken at its end (the sample is the model's:
notes/assumptions/6.md). A frame starts exactly when the idle count is 4, a report is queued and RDY_IN is high; the whole frame then
stands on REPORT_TX, bit after bit (that it stands there at once is the model's: notes/assumptions/23.md). The end of a frame: QUIET with count 0 and REPORT_TX at the idle byte again;
after the last segment the report leaves the queue, and an occupancy of 32 reached with the backlog flag set clears the flag and ends
BACKLOG, the line state unchanged; before it the next segment is due. In the other transmitter state each of the three commands stands
for nothing and has no effect (notes/assumptions/4.md), and while the transmitter is held none of them has (notes/assumptions/17.md). -/
def Obligations.TransmitterSteps : Prop :=
  let levels (b : Byte) : List Bool :=
    [false, b.getLsbD 0, b.getLsbD 1, b.getLsbD 2, b.getLsbD 3, b.getLsbD 4, b.getLsbD 5, b.getLsbD 6, b.getLsbD 7, true]
  let idle : TxLine := .sends (levels 0x00)
  (∀ (rdy : Bool) (n : Nat) (s : State), s.report.tx = .quiet n →
    exec (.idleByteSent rdy) s =
      .next { s with report := { s.report with tx := .quiet (min (n + 1) 4), reportTx := idle, rdyIn := rdy } }) ∧
  (∀ (n : Nat) (s : State), s.report.tx = .quiet n →
    exec .frameStart s = .next (match s.report.queue with
      | q :: _ =>
        if n = 4 ∧ s.report.rdyIn = true then
          let frame := reportFrame q s.report.segment
          { s with report := { s.report with tx := .sending frame, reportTx := .sends (frame.flatMap levels) } }
        else s
      | [] => s)) ∧
  (∀ (f : List Byte) (q : Queued) (rest : List Queued) (s : State), s.report.tx = .sending f → s.report.queue = q :: rest →
    exec .frameSent s = .next (
      if q.report.segments ≤ s.report.segment + 1 then
        if s.report.backlog = true ∧ rest.length = 32 then
          { s with
            report := { s.report with tx := .quiet 0, reportTx := idle, queue := rest, segment := 0, backlog := false }
            line := { s.line with causes := { s.line.causes with backlog := false } } }
        else { s with report := { s.report with tx := .quiet 0, reportTx := idle, queue := rest, segment := 0 } }
      else { s with report := { s.report with tx := .quiet 0, reportTx := idle, segment := s.report.segment + 1 } })) ∧
  (∀ (rdy : Bool) (f : List Byte) (s : State), s.report.tx = .sending f →
    exec (.idleByteSent rdy) s = .next s ∧ exec .frameStart s = .next s) ∧
  (∀ (n : Nat) (s : State), s.report.tx = .quiet n → exec .frameSent s = .next s) ∧
  (∀ (rdy : Bool) (s : State), s.report.tx = .held →
    exec (.idleByteSent rdy) s = .next s ∧ exec .frameStart s = .next s ∧ exec .frameSent s = .next s)

/-- The segments of a report carry its whole body, 253 bytes each but the last. Byte 0 of a segment's payload is the loss field; byte 1
has the last-segment mark in bit 7, set in the last segment alone, and the segment number in bits 6 to 0. The frame of a segment is
the start byte, the kind's code, the payload's length, the payload, and the CRC over all but the start byte. The code and the body of
every kind of report, field by field as section 11.5 orders them, in the sizes and codes of section 11.1: a presence byte before an
optional field, a count byte before a list, 0xFF for an absent denomination, class, route object, resume target or cause. The sizes of
the open count, the threshold, the limit, the priority class and the lost counts are the model's (notes/assumptions/12.md), and so is
NONE as presence 0 without an id in a contribution and as presence 2 for a bundle (notes/assumptions/13.md). -/
def Obligations.SegmentsCarryTheBody : Prop :=
  let one (n : Nat) : Byte := BitVec.ofNat 8 n
  let byte (b : Byte) : List Byte := [b]
  let two (n : Nat) : List Byte := [one (n / 256), one n]
  let three (p : Pos) : List Byte := [one (p.toNat / 65536), one (p.toNat / 256), one p.toNat]
  let four (n : Nat) : List Byte := [one (n / 16777216), one (n / 65536), one (n / 256), one n]
  let number (w : Word) : List Byte := four w.toNat
  let flag (b : Bool) : Byte := if b then 1 else 0
  let sum (bits : List Bool) : Nat := (bits.zipIdx.map fun b => if b.1 then 2 ^ b.2 else 0).sum
  let option (α : Type) (f : α → List Byte) (x : Option α) : List Byte := match x with
    | some v => 1 :: f v
    | none => [0]
  let list (α : Type) (f : α → List Byte) (xs : List α) : List Byte := one xs.length :: (xs.map f).flatten
  let word (x : Option Word) : List Byte := option Word number x
  let serial (x : Option Serial) : List Byte := match x with
    | some cs => one cs.length :: cs
    | none => [0]
  let denom (d : Option Denom) : Byte := match d with
    | some c => one c.toNat
    | none => 0xFF
  let bundleDenom (d : Option BundleDenom) : Byte := match d with
    | some (.code c) => one c.toNat
    | some .mixed => 0xFD
    | some .uncoded => 0xFE
    | none => 0xFF
  let result (r : Option RefusalReason) : Byte := match r with
    | none => 0
    | some .format => 1
    | some .range => 2
    | some .state => 3
    | some .full => 4
    | some .duplicate => 5
    | some .notFound => 6
    | some .pending => 7
    | some .causes => 8
  let reason (r : Reason) : Byte := match r with
    | .placed => 0
    | .watch => 1
    | .routed => 2
    | .length => 3
    | .pitch => 4
    | .noDeposit => 5
    | .watchUnheld => 6
    | .noRoute => 7
    | .noSpace => 8
    | .late => 9
    | .card => 10
    | .unread => 11
    | .lateRecord => 12
    | .pitchShadowed => 13
  let cls (c : Option NoteClass) : Byte := match c with
    | some .genuine => 0
    | some .suspect => 1
    | some .unrecognised => 2
    | some .multiple => 3
    | none => 0xFF
  let line (x : LineState) : Byte := match x with
    | .idle => 0
    | .run => 1
    | .drain => 2
    | .halt => 3
    | .jammed => 4
  let resume (x : Option Resume) : Byte := match x with
    | some .run => 1
    | some .drain => 2
    | none => 0xFF
  let pocket (x : PocketState) : Byte := match x with
    | .unassigned => 0
    | .openState => 1
    | .closing => 2
    | .full => 3
  let kind (x : ItemKind) : Byte := match x with
    | .note => 0
    | .card => 1
    | .unread => 2
  let gate (g : Gate) : Byte := one (g.val + 1)
  let dest (d : Dest) : Byte := match d with
    | .runOut => 0
    | .gated g => gate g
  let jam (j : Option JamCause) : List Byte := match j with
    | some (.missing item) => [0, 1] ++ number item ++ [0]
    | some (.stray p) => [1, 0, 1, one p.val]
    | some (.trackFull item) => [2, 1] ++ number item ++ [0]
    | some .stall => [3, 0, 0]
    | none => [0xFF, 0, 0]
  let causes (c : CauseSet) : List Byte :=
    two (sum ([c.operator, c.command, c.quarantineFull, c.backlog, c.depositFull] ++ c.groupFull.toList))
  let flags (recount many carried unbricked : Bool) : Byte := one (sum [recount, many, carried, unbricked])
  let slotState (x : DepositState) : Byte := match x with
    | .openState => 1
    | .closing => 2
  let detail (d : Detail) : List Byte := match d with
    | .none => []
    | .entries n => two n
    | .slot (some k) => [one k.val]
    | .slot none => [0xFF]
    | .flush members bricks => [one members, one bricks]
    | .reset r => two r.items ++ [one r.losses, one r.bundles] ++ two r.notes ++ two r.runOut ++ [one r.deposits, one r.declarations]
    | .causes c => causes c
  let group (g : TallyGroup) : Byte := match g with
    | .accepted => 0
    | .runOut => 1
    | .events => 2
    | .output => 3
    | .all => 4
  let is (r : Report) (code : Byte) (body : List Byte) : Prop := r.code = code ∧ r.body = body
  (∀ tag code refusal d, is (.answer tag code refusal d) 0x81 ([tag, code, result refusal, one (detail d).length] ++ detail d)) ∧
  (∀ r : BundleReport, is (.bundle r) 0x82 (
    number r.number ++ [one r.group.val, gate r.pocket, bundleDenom r.denom] ++
    byte (match r.close with
      | .full => 0
      | .odd => 1
      | .removedEarly => 2
      | .partialRemoved => 3) ++
    two r.count ++ two r.target ++ [flags r.recount r.manyDeposits r.carried r.unbricked] ++
    (match r.deposit with
      | none => [0]
      | some (.id w) => 1 :: number w
      | some .none => [2]) ++
    list (DepositKey × Nat) (fun c => (match c.1 with
      | .none => [0]
      | .id w => 1 :: number w) ++ two c.2) r.contributions)) ∧
  (∀ r : BrickReport, is (.brick r) 0x83 (
    number r.number ++ [one r.acc.group.val, one r.acc.denom.toNat, flag (!r.complete)] ++ four r.acc.total ++
    [flags r.acc.recount r.acc.manyDeposits r.acc.carried false] ++ list Word number r.acc.bundles)) ∧
  (∀ r : DepositReport, is (.deposit r) 0x84 (
    number r.id ++ word r.parent ++ [one r.kind.val] ++
    byte (match r.result with
      | .balanced => 0
      | .difference => 1
      | .undeclared => 2
      | .incomplete => 3) ++
    [one (sum [r.declared, r.boundaryLost, r.afterRecovery])] ++
    list DepositLine (fun l =>
      (match l.denom with
        | some d => one d.toNat
        | none => 0xFE) :: two l.accepted ++ two (l.declared.getD 0xFFFF)) r.lines ++
    (r.runOut.toList.map two).flatten ++
    two r.cards ++ two r.quarantine ++ two r.watchHits ++ two r.lost ++ two r.itemCount ++
    number r.cardItem ++ word r.firstItem ++ word r.lastItem)) ∧
  (∀ r : DepositFaultReport, is (.depositFault r) 0x85 (
    [if r.noSlot then 0 else 1] ++ number r.separatorId ++ word r.parent ++ number r.cardItem ++ word r.openDeposit ++
    (r.slots.map fun x => match x with
      | some (st, id) => slotState st :: number id
      | none => [0, 0, 0, 0, 0]).flatten)) ∧
  (∀ r : WatchHitReport, is (.watchHit r) 0x86 (
    number r.item ++ word r.depositId ++ serial (some r.serial) ++ [denom r.denom] ++ number r.caseRef ++
    [denom r.entryDenom, flag r.held, reason r.reason, dest r.pocket])) ∧
  (∀ r : QuarantineReport, is (.quarantine r) 0x87 (
    [gate r.pocket, flag r.released, one r.count, flag r.recount, one r.limit] ++
    (r.manifest.map fun e =>
      number e.item ++ word e.depositId ++ [denom e.denom] ++ serial e.serial ++ word e.caseRef ++ [reason e.reason]).flatten)) ∧
  (∀ n reasons, is (.runOut n reasons) 0x88 (two n ++ (reasons.toList.map two).flatten)) ∧
  (∀ r : GroupLowReport, is (.groupLow r) 0x89 (
    [one r.group.val] ++ two r.openCount ++ [one r.threshold] ++
    list (Gate × PocketState × Bool) (fun m => [gate m.1, pocket m.2.1, flag m.2.2]) r.members ++ word r.item)) ∧
  (∀ k preset priority item, is (.routeSpent k preset priority item) 0x8A (
    [one k.val] ++ two preset ++ [one priority] ++ number item)) ∧
  (∀ r : RoutesReport, is (.routes r) 0x8B (
    [flag r.cardItem.isSome] ++ word r.cardItem ++ word r.depositId ++
    list ObjectNo (fun k => [one k.val]) r.active ++ list ObjectNo (fun k => [one k.val]) r.standby)) ∧
  (∀ r : LineReport, is (.line r) 0x8C (
    [line r.from_, line r.to_] ++
    byte (match r.trigger with
      | .lineStart => 0
      | .lineStop => 1
      | .lineHalt => 2
      | .operator => 3
      | .condition => 4
      | .lineResume => 5
      | .drainEnd => 6
      | .jam => 7
      | .recover => 8
      | .lineReset => 9) ++
    byte (match r.cause with
      | none => 0xFF
      | some (.jam (.missing _)) => 0
      | some (.jam (.stray _)) => 1
      | some (.jam (.trackFull _)) => 2
      | some (.jam .stall) => 3
      | some (.condition .operator) => 0x10
      | some (.condition .command) => 0x11
      | some (.condition .quarantineFull) => 0x12
      | some (.condition .backlog) => 0x13
      | some (.condition .depositFull) => 0x14
      | some (.condition (.groupFull g)) => one (0x15 + g.val)) ++
    causes r.causes ++ [resume r.resume] ++ three r.position)) ∧
  (∀ r : JamReport, is (.jam r) 0x8D (
    jam (some r.cause) ++ [line r.previous] ++ three r.position ++ two r.entriesLost ++ two r.edgesLost ++ causes r.causes)) ∧
  (∀ r : RecoveryReport, is (.recovery r) 0x8E (
    jam r.jam ++ [r.next] ++ list LossLine (fun l =>
      number l.item ++ [kind l.kind] ++ word l.depositId ++ [dest l.dest, denom l.denom]) r.losses)) ∧
  (∀ r : TraceReport, is (.trace r) 0x8F (
    number r.item ++ [kind r.kind, r.seq, cls r.cls, denom r.denom] ++ serial r.serial ++ word r.depositId ++ three r.lead ++
    option Nat two r.length ++ option Nat two r.gap ++ [dest r.dest] ++
    byte (match r.shadow with
      | some g => gate g
      | none => 0) ++
    [reason r.reason] ++
    byte (match r.route with
      | some k => one k.val
      | none => 0xFF) ++
    word r.caseRef ++
    byte (match r.close with
      | .confirmed => 0
      | .shadowed => 1
      | .lost => 2) ++
    three r.position ++
    byte (match r.arrival with
      | some p => one p.val
      | none => 0xFF))) ∧
  (∀ r : TallyReport, is (.tally r) 0x90 (
    [flag r.notice, group r.group, flag r.cleared] ++ list (Nat × Word) (fun t => one t.1 :: number t.2) r.tallies)) ∧
  (∀ r : StatusReport, is (.status r) 0x91 (
    [line r.line] ++ causes r.causes ++ [resume r.resume] ++ jam r.jam ++
    byte (match r.receiver with
      | .wait => 0
      | .receiving => 1
      | .hunt => 2) ++
    [one r.edges, r.nextSeq] ++ number r.nextItem ++
    [one r.entries, one r.losses] ++ two (sum (false :: r.gates.toList)) ++ [flag r.loaded] ++
    (r.geometry.d.toList.map fun d => two d.toNat).flatten ++ [r.geometry.lead, r.geometry.lag, r.geometry.tol] ++
    two r.geometry.admitLimit.toNat ++
    [flag r.swapPending, one r.active, one r.standby, one r.free] ++ two r.watch ++
    (r.pockets.map fun p => [pocket p.state] ++ two p.committed ++ two p.confirmed ++ two (p.target.getD 0) ++
      [bundleDenom p.denom, flags p.recount p.manyDeposits p.carried false, flag p.lateMark, flag p.enabled]).flatten ++
    byte (match r.quarantine with
      | some g => gate g
      | none => 0) ++
    [one r.manifest] ++ two r.runOut ++
    (r.groups.map fun g => list Gate (fun p => [gate p]) g.members ++
      byte (match g.current with
        | some p => gate p
        | none => 0xFF) ++
      [flag g.denomPure, flag g.depositPure, one g.strap, one g.brickSize, one g.lowThreshold] ++
      byte (match g.overflow with
        | .runOut => 0
        | .halt => 1)).flatten ++
    (r.accumulators.map fun a => match a with
      | some (g, d, n) => [one g.val, one d.toNat, one n]
      | none => [0xFF, 0xFF, 0]).flatten ++
    (r.deposits.map fun d => match d with
      | some d => slotState d.state :: number d.id ++ [one d.inFlight, flag d.boundaryLost]
      | none => [0, 0, 0, 0, 0, 0, 0]).flatten ++
    [one r.declarations, one r.bound, one r.reports, one r.lossMark, r.revision])) ∧
  (∀ revision, is (.ready revision) 0x92 [revision]) ∧
  (∀ q : Queued,
    ((List.range q.report.segments).flatMap fun n => (segmentPayload q n).drop 2) = q.report.body ∧
    (∀ n, n < q.report.segments → (q.report.lastSegment n = true ↔ n + 1 = q.report.segments)) ∧
    (∀ n, n + 1 < q.report.segments → (segmentPayload q n).length = 255) ∧
    (∀ n, n < q.report.segments → ∃ mark rest, segmentPayload q n = BitVec.ofNat 8 q.loss :: mark :: rest ∧
      (mark.getLsbD 7 = true ↔ n + 1 = q.report.segments) ∧ (n < 128 → (mark.extractLsb' 0 7).toNat = n))) ∧
  (∀ (q : Queued) (n : Nat),
    let payload := segmentPayload q n
    let covered := q.report.code :: BitVec.ofNat 8 payload.length :: payload
    reportFrame q n = 0xC3 :: covered ++ two (crc covered).toNat)

/-! ### The Feed link -/

/-- One byte event in every receiver state (R5 to R10): idle, start and other bytes in WAIT; kind, length, payload and check bytes in
RECEIVING; the idle run in HUNT. Each move into HUNT counts one FEED_ERRORS. The kind codes are 1 NOTE, 2 SEPARATOR and 3 CONTROL
(section 11.2), and the payload lengths 4 to 16, 6 to 10 and 2 to 60 (R2). A passing frame's payload is read as a record of its kind.
That the last check byte delivers the record in the same step, by the record's own meaning, is the model's reading
(notes/assumptions/2.md), and that the receiver is in WAIT before the record is taken its choice (notes/assumptions/30.md). -/
def Obligations.ReceiverTakesBytes : Prop :=
  ∀ (b : Byte) (faulted : Bool) (s : State),
    let error : State := bump .feedErrors { s with feed := .hunt 0 }
    let low (k : FeedKind) : Nat := match k with
      | .note => 4
      | .separator => 6
      | .control => 2
    let high (k : FeedKind) : Nat := match k with
      | .note => 16
      | .separator => 10
      | .control => 60
    let record (k : FeedKind) (payload : List Byte) : Option Instr := match k with
      | .note => (parseNote payload).map .noteRecord
      | .separator => (parseSeparator payload).map .separatorRecord
      | .control => parseControl payload
    (s.feed = .wait →
      exec (.feedByte b faulted) s = .next (
        if faulted = true then error
        else if b = 0 then s
        else if b = 0xC3 then { s with feed := .receiving { kind := none, length := none, payload := [], crc := 0xFFFF, check := none } }
        else error)) ∧
    (∀ f, s.feed = .receiving f → faulted = true → exec (.feedByte b faulted) s = .next error) ∧
    (∀ f, s.feed = .receiving f → faulted = false → f.kind = none →
      let named (k : FeedKind) : State := { s with feed := .receiving { f with kind := some k, crc := crcByte f.crc b } }
      exec (.feedByte b faulted) s = .next (
        if b = 0x01 then named .note else if b = 0x02 then named .separator else if b = 0x03 then named .control else error)) ∧
    (∀ f k, s.feed = .receiving f → faulted = false → f.kind = some k → f.length = none →
      exec (.feedByte b faulted) s = .next (
        if low k ≤ b.toNat ∧ b.toNat ≤ high k then
          { s with feed := .receiving { f with length := some b, crc := crcByte f.crc b } }
        else error)) ∧
    (∀ f k n, s.feed = .receiving f → faulted = false → f.kind = some k → f.length = some n → f.payload.length < n.toNat →
      exec (.feedByte b faulted) s = .next
        { s with feed := .receiving { f with payload := f.payload ++ [b], crc := crcByte f.crc b } }) ∧
    (∀ f k n, s.feed = .receiving f → faulted = false → f.kind = some k → f.length = some n → n.toNat ≤ f.payload.length →
      f.check = none → exec (.feedByte b faulted) s = .next { s with feed := .receiving { f with check := some b } }) ∧
    (∀ f k n c, s.feed = .receiving f → faulted = false → f.kind = some k → f.length = some n → n.toNat ≤ f.payload.length →
      f.check = some c →
      exec (.feedByte b faulted) s =
        if be16 c b = f.crc then
          match record k f.payload with
          | some r => exec r { s with feed := .wait }
          | none => .next (bump .feedErrors { s with feed := .wait })
        else .next error) ∧
    (∀ n, s.feed = .hunt n →
      exec (.feedByte b faulted) s = .next (
        if faulted = false ∧ b = 0 then (if 3 ≤ n then { s with feed := .wait } else { s with feed := .hunt (n + 1) })
        else { s with feed := .hunt 0 }))

/-- The frame of any payload of an accepted length, taken byte by byte in WAIT, has exactly the effect of the command its payload
spells; a payload that fails its record check counts one FEED_ERRORS. The delivery in the step of the last byte is the model's
reading (notes/assumptions/2.md), and the return to WAIT before it its choice (notes/assumptions/30.md). -/
def Obligations.FrameDeliversItsRecord : Prop :=
  ∀ (payload : List Byte) (s : State), s.feed = .wait →
    let delivered (kind : Byte) (record : Option Instr) : Prop :=
      let covered := kind :: BitVec.ofNat 8 payload.length :: payload
      feedBytes (0xC3 :: covered ++ [(crc covered).extractLsb' 8 8, (crc covered).extractLsb' 0 8]) s =
        match record with
        | some c => exec c s
        | none => .next (bump .feedErrors s)
    (4 ≤ payload.length → payload.length ≤ 16 → delivered 0x01 ((parseNote payload).map .noteRecord)) ∧
    (6 ≤ payload.length → payload.length ≤ 10 → delivered 0x02 ((parseSeparator payload).map .separatorRecord)) ∧
    (2 ≤ payload.length → payload.length ≤ 60 → delivered 0x03 (parseControl payload))

/-- Every control request a record can carry, every NOTE record and every SEPARATOR record is read back from its payload, with every
operand and field; and a CONTROL payload is read as no command but the one it encodes. NOTE and SEPARATOR payloads, written out from
section 11.3, with the record check of R10: the fields of a payload that passes, and no record of any other. -/
def Obligations.RecordsRoundTrip : Prop :=
  (∀ (c : Instr) (p : List Byte), c.wf = true → encodeControl c = some p → parseControl p = some c) ∧
  (∀ (c : Instr) (p : List Byte), parseControl p = some c → encodeControl c = some p) ∧
  (∀ p : List Byte, p.length < 2 → parseControl p = none) ∧
  (∀ r : NoteRecord, r.wf = true → parseNote (encodeNote r) = some r) ∧
  (∀ r : SeparatorRecord, parseSeparator (encodeSeparator r) = some r) ∧
  (∀ (seq b1 b2 n : Byte) (chars : List Byte),
    let cls : NoteClass := match b1.toNat / 64 with
      | 0 => .genuine
      | 1 => .suspect
      | 2 => .unrecognised
      | _ => .multiple
    let character (c : Byte) : Prop := (0x30 ≤ c.toNat ∧ c.toNat ≤ 0x39) ∨ (0x41 ≤ c.toNat ∧ c.toNat ≤ 0x5A)
    let passes : Prop := chars.length = n.toNat ∧ (n = 0 ∨ (4 ≤ n.toNat ∧ n.toNat ≤ 12 ∧ ∀ c ∈ chars, character c)) ∧
      (b1.getLsbD 5 = true ↔ cls = .genuine ∨ cls = .suspect)
    (passes → parseNote (seq :: b1 :: b2 :: n :: chars) = some
      { seq := seq, cls := cls
        code := if b1.getLsbD 5 then some (BitVec.ofNat 5 (b2.toNat % 32), BitVec.ofNat 3 (b2.toNat / 32)) else none
        fitness := Fin.ofNat 4 (b1.toNat / 8), orientation := Fin.ofNat 4 (b1.toNat / 2)
        serial := if n = 0 then none else some chars }) ∧
    (¬ passes → parseNote (seq :: b1 :: b2 :: n :: chars) = none)) ∧
  (∀ p : List Byte, p.length < 4 → parseNote p = none) ∧
  (∀ (seq i3 i2 i1 i0 b5 : Byte) (parent : List Byte),
    let four (a b c d : Byte) : Word := BitVec.ofNat 32 (((a.toNat * 256 + b.toNat) * 256 + c.toNat) * 256 + d.toNat)
    let read (parent : Option Word) : SeparatorRecord :=
      { seq := seq, depositId := four i3 i2 i1 i0, parent := parent, kind := Fin.ofNat 4 (b5.toNat / 64), endFlag := b5.getLsbD 5 }
    let run := parseSeparator (seq :: i3 :: i2 :: i1 :: i0 :: b5 :: parent)
    (b5.getLsbD 4 = false → run = if parent = [] then some (read none) else none) ∧
    (b5.getLsbD 4 = true →
      (∀ a b c d, parent = [a, b, c, d] → run = some (read (some (four a b c d)))) ∧
      (parent.length ≠ 4 → run = none))) ∧
  (∀ p : List Byte, p.length < 6 → parseSeparator p = none)

/-- Bytes written out from the layouts of section 11.3 are read as the records they stand for: a NOTE, a SEPARATOR, and one payload of
every request code. The CRC: each bit of a byte, most significant first, shifts the register left and combines it with 0x1021 where the
bit shifted out differs from it; the register starts at 0xFFFF; ten levels on FEED_RX are a byte event, the data bits least significant
first, faulted where the stop bit is low (R1); a serial's cell is its low 12 bits; and the CRC of the manual's nine
characters with the cell it gives (R3, R66). -/
def Obligations.BytesWrittenOut : Prop :=
  (∀ (b : Byte) (stop : Bool), feedCommand [false, b.getLsbD 0, b.getLsbD 1, b.getLsbD 2, b.getLsbD 3, b.getLsbD 4, b.getLsbD 5,
    b.getLsbD 6, b.getLsbD 7, stop] = .feedByte b (!stop)) ∧
  (∀ (reg : Half) (b : Byte), crcByte reg b = [7, 6, 5, 4, 3, 2, 1, 0].foldl (fun (x : Half) (k : Nat) =>
    if x.getLsbD 15 = b.getLsbD k then x <<< 1 else (x <<< 1) ^^^ 0x1021) reg) ∧
  (∀ bytes : List Byte, crc bytes = bytes.foldl crcByte 0xFFFF ∧ cellOf bytes = (crc bytes).toNat % 4096) ∧
  parseNote [0x29, 0x2C, 0x47, 0x00] =
    some { seq := 41, cls := .genuine, code := some (7, 2), fitness := 1, orientation := 2, serial := none } ∧
  parseSeparator [0x05, 0x00, 0x00, 0x23, 0x8C, 0x60] =
    some { seq := 5, depositId := 9100, parent := none, kind := 1, endFlag := true } ∧
  parseControl [0x0C, 0x53] = some (.lineResume 12) ∧
  parseControl [0x07, 0x01, 0x22, 0x00, 0x00, 0x00, 0x32] = some (.setParamStrapPreset 7 2 50) ∧
  parseControl [0x07, 0x53, 0x00] = some (.controlFormatRefusal 7 0x53 [0x00]) ∧
  parseControl [0x07, 0x99] = some (.controlFormatRefusal 7 0x99 []) ∧
  parseControl [0x07, 0x01, 0x0C, 0x00, 0x00, 0x00, 0x01] =
    some (.controlFormatRefusal 7 0x01 [0x0C, 0x00, 0x00, 0x00, 0x01]) ∧
  (let value : List Byte := [0x01, 0x02, 0x03, 0x04]
   let v : Word := 0x01020304
   let sets (id : Byte) (c : Instr) : Prop := parseControl (0x07 :: 0x01 :: id :: value) = some c
   sets 0x01 (.setParamLengthMin 7 v) ∧ sets 0x02 (.setParamLengthMax 7 v) ∧ sets 0x03 (.setParamRequireDeposit 7 v) ∧
   sets 0x04 (.setParamQuarantinePocket 7 v) ∧ sets 0x05 (.setParamQuarantineLimit 7 v) ∧ sets 0x06 (.setParamGapMin 7 v) ∧
   sets 0x07 (.setParamStallTime 7 v) ∧ sets 0x08 (.setParamStartTime 7 v) ∧ sets 0x09 (.setParamTraceAll 7 v) ∧
   sets 0x0A (.setParamTraceRejects 7 v) ∧ sets 0x0B (.setParamNoticeMask 7 v) ∧
   ∀ g : GroupNo, sets (BitVec.ofNat 8 (0x20 + g)) (.setParamStrapPreset 7 g v) ∧
     sets (BitVec.ofNat 8 (0x28 + g)) (.setParamDenominationPurity 7 g v) ∧
     sets (BitVec.ofNat 8 (0x30 + g)) (.setParamDepositPurity 7 g v) ∧ sets (BitVec.ofNat 8 (0x38 + g)) (.setParamBrickSize 7 g v) ∧
     sets (BitVec.ofNat 8 (0x40 + g)) (.setParamLowThreshold 7 g v) ∧ sets (BitVec.ofNat 8 (0x48 + g)) (.setParamOverflowAction 7 g v)) ∧
  parseControl (0x07 :: 0x02 :: (List.range 37).map (BitVec.ofNat 8)) = some (.setGeometry 7
    { d := #v[0x0001, 0x0203, 0x0405, 0x0607, 0x0809, 0x0A0B, 0x0C0D, 0x0E0F, 0x1011, 0x1213, 0x1415, 0x1617, 0x1819, 0x1A1B,
              0x1C1D, 0x1E1F]
      lead := 0x20, lag := 0x21, tol := 0x22, admitLimit := 0x2324 }) ∧
  parseControl [0x07, 0x03, 0x2A] = some (.sync 7 42) ∧
  parseControl [0x07, 0x10, 0x01, 0x0F, 0x05, 0x1F, 0x21, 0xF3, 0x0F, 0x42, 0x02, 0x03, 0x01, 0x02] = some (.routeWrite 7 1
    { classSet := 0x0F, denomValue := 0x05, denomMask := 0x1F, series := 0x21, fitOrient := 0xF3, kindSet := 0x0F, target := 0x42
      priority := 0x02, options := 0x03, quota := 0x0102 }) ∧
  parseControl [0x07, 0x11, 0x2F, 0x01, 0x03] = some (.routeLink 7 47 1 3) ∧
  parseControl [0x07, 0x12, 0x2F] = some (.routeUnlink 7 47) ∧
  parseControl [0x07, 0x13] = some (.routeSwap 7) ∧
  parseControl [0x07, 0x20, 0x05, 0x01, 0x02, 0x03, 0x04, 0x04, 0x41, 0x42, 0x30, 0x39] =
    some (.watchAdd 7 5 0x01020304 [0x41, 0x42, 0x30, 0x39]) ∧
  parseControl [0x07, 0x21, 0xFF, 0x04, 0x41, 0x42, 0x30, 0x39] = some (.watchRemove 7 0xFF [0x41, 0x42, 0x30, 0x39]) ∧
  parseControl [0x07, 0x21, 0xFF, 0x04, 0x41, 0x42, 0x30, 0x61] =
    some (.controlFormatRefusal 7 0x21 [0xFF, 0x04, 0x41, 0x42, 0x30, 0x61]) ∧
  parseControl [0x07, 0x22] = some (.watchClear 7) ∧
  parseControl [0x07, 0x30, 0x02, 0x03, 0x01, 0x02, 0x0F] = some (.groupDefine 7 2 [1, 2, 15]) ∧
  parseControl [0x07, 0x30, 0x02, 0x03, 0x01, 0x02] = some (.controlFormatRefusal 7 0x30 [0x02, 0x03, 0x01, 0x02]) ∧
  parseControl [0x07, 0x31, 0x02] = some (.groupFlush 7 2) ∧
  parseControl [0x07, 0x32, 0x0F, 0x01] = some (.pocketEnable 7 15 1) ∧
  parseControl [0x07, 0x38] = some (.quarantineRelease 7) ∧
  parseControl [0x07, 0x40, 0x00, 0x00, 0x23, 0x8C, 0x02, 0x05, 0x01, 0x02, 0x06, 0x00, 0x03] =
    some (.declare 7 9100 [(5, 0x0102), (6, 3)]) ∧
  parseControl [0x07, 0x41, 0x00, 0x00, 0x23, 0x8C] = some (.declareCancel 7 9100) ∧
  parseControl [0x07, 0x50] = some (.lineStart 7) ∧
  parseControl [0x07, 0x51] = some (.lineStop 7) ∧
  parseControl [0x07, 0x52] = some (.lineHalt 7) ∧
  parseControl [0x07, 0x54, 0x2A] = some (.recover 7 42) ∧
  parseControl [0x07, 0x55] = some (.lineReset 7) ∧
  parseControl [0x07, 0x60] = some (.statusRead 7) ∧
  parseControl [0x07, 0x61, 0x04, 0x01] = some (.tallyRead 7 4 1) ∧
  crc [0x31, 0x32, 0x33, 0x34, 0x35, 0x36, 0x37, 0x38, 0x39] = 0x29B1 ∧
  cellOf [0x31, 0x32, 0x33, 0x34, 0x35, 0x36, 0x37, 0x38, 0x39] = 2481

/-! ### The read point -/

/-- An edge on ENC advances the position counter by one, and it wraps; with nothing outstanding at the old position it changes
nothing else but the gap measure, which holds at 65,535, and a running stall timer, which starts again with STALL_TIME. That
outstanding expiries are taken first, those of divert windows, of deadlines and of arrival windows in that order, is the model's choice
(notes/assumptions/3.md). -/
def Obligations.EncoderEdgeAdvances : Prop :=
  (∀ s a b c : State, exec .divertWindowOpen s = .next a → exec .admissionDeadline a = .next b →
    exec .arrivalWindowEnd b = .next c → exec .encEdge s = .next { c with
      edge := { c.edge with position := c.edge.position + 1, gap := c.edge.gap.map fun n => min (n + 1) 65535 }
      track := { c.track with stall := if c.track.stall.isSome then some c.track.stallTime else none } }) ∧
  (∀ s : State, ∃ t, exec .encEdge s = .next t ∧ t.edge.position = s.edge.position + 1) ∧
  (∀ s : State, NothingDue s → exec .encEdge s = .next { s with
    edge := { s.edge with position := s.edge.position + 1, gap := s.edge.gap.map fun n => min (n + 1) 65535 }
    track := { s.track with stall := if s.track.stall.isSome then some s.track.stallTime else none } })

/-- A leading edge: ignored without a geometry; discarded and counted in JAMMED, using its numbers; captured at the tail of the
FIFO otherwise, with its deadline. The item number past the largest is a free value (notes/assumptions/11.md). -/
def Obligations.LeadingEdgeCaptures : Prop :=
  ∀ s : State,
    let numbered (s : State) (fifo : List HeldEdge) : State := { s with
      edge := { s.edge with fifo := fifo, lastItem := some s.edge.nextItem, nextSeq := s.edge.nextSeq + 1
                            nextItem := if s.edge.nextItem = 0xFFFFFFFF then Config.numberPastLast s.freeCount else s.edge.nextItem + 1 }
      freeCount := if s.edge.nextItem = 0xFFFFFFFF then s.freeCount + 1 else s.freeCount }
    let edge (s : State) : HeldEdge :=
      { item := s.edge.nextItem, seq := s.edge.nextSeq, lead := s.edge.position, trail := none, gap := s.edge.gap
        deadline := s.edge.position + s.track.geometry.admitLimit.zeroExtend 24 }
    (s.track.loaded = false → exec .leadingEdge s = .next s) ∧
    (s.track.loaded = true → s.line.state = .jammed →
      exec .leadingEdge s = .next (bump .discarded (numbered s s.edge.fifo))) ∧
    (s.track.loaded = true → s.line.state ≠ .jammed → s.edge.fifo.length < 8 →
      exec .leadingEdge s = .next (numbered s (s.edge.fifo ++ [edge s]))) ∧
    (s.track.loaded = true → s.line.state ≠ .jammed → 8 ≤ s.edge.fifo.length →
      let u := admitUnread s
      exec .leadingEdge s = .next (
        if u.line.state = .jammed then bump .discarded (numbered u u.edge.fifo) else numbered u (u.edge.fifo ++ [edge u])))

/-- A trailing edge restarts the gap measure at zero, and gives its trailing position, and with it its length, the forward distance
from its leading position, to the youngest held edge when that edge is the last item captured and has none; no other held edge
changes, and nothing else. -/
def Obligations.TrailingEdgeMeasures : Prop :=
  ∀ s : State,
    (∀ older e, s.edge.fifo = older ++ [e] → s.edge.lastItem = some e.item → e.trail = none →
      exec .trailingEdge s = .next { s with
        edge := { s.edge with gap := some 0, fifo := older ++ [{ e with trail := some s.edge.position }] } } ∧
      ({ e with trail := some s.edge.position } : HeldEdge).length = some (s.edge.position - e.lead).toNat) ∧
    (∀ older e, s.edge.fifo = older ++ [e] → (s.edge.lastItem ≠ some e.item ∨ e.trail ≠ none) →
      exec .trailingEdge s = .next { s with edge := { s.edge with gap := some 0 } }) ∧
    (s.edge.fifo = [] → exec .trailingEdge s = .next { s with edge := { s.edge with gap := some 0 } })

/-! ### Admission -/

/-- An edge admitted UNREAD with room in the Track Queue: it leaves the FIFO, is counted in the OPEN deposit, and its entry joins
the queue bound for run-out with reason UNREAD; nothing else changes. At 32 entries the item is kept in waiting and the jam TRACK_FULL
is entered (R130); on an empty FIFO nothing happens. The deadline of a held edge admits it and every older held edge so, oldest first;
without a deadline at the present position nothing happens (notes/assumptions/4.md). -/
def Obligations.DeadlineAdmitsUnread : Prop :=
  (∀ (e : HeldEdge) (rest : List HeldEdge) (s : State), s.edge.fifo = e :: rest → s.track.queue.length < 32 →
    admitUnread s = { s with
      edge := { s.edge with fifo := rest }
      track := { s.track with queue := s.track.queue ++ [unreadEntry e s] }
      deposit := match openDeposit s with
        | none => s.deposit
        | some o => { s.deposit with deposits := s.deposit.deposits.map fun d =>
            if d.slot = o.slot then
              { d with inFlight := d.inFlight + 1, itemCount := min (d.itemCount + 1) 65535
                       firstItem := some (d.firstItem.getD e.item), lastItem := some e.item }
            else d } }) ∧
  (∀ (e : HeldEdge) (rest : List HeldEdge) (s : State), s.edge.fifo = e :: rest → 32 ≤ s.track.queue.length →
    s.line.state ≠ .jammed → admitUnread s = enterJam (.trackFull e.item) { s with
      edge := { s.edge with fifo := rest }
      track := { s.track with waiting := some (unreadEntry e s) }
      deposit := attributedTo ((openDeposit s).map (·.slot)) e.item false s.deposit }) ∧
  (∀ (n : Nat) (s : State), (s.edge.fifo = [] → admitUnread s = s) ∧ admitUnreads 0 s = s ∧
    admitUnreads (n + 1) s = admitUnreads n (admitUnread s)) ∧
  (∀ s : State,
    ((∀ e ∈ s.edge.fifo, e.deadline ≠ s.edge.position) → exec .admissionDeadline s = .next s) ∧
    (∀ older e younger, s.edge.fifo = older ++ e :: younger → e.deadline = s.edge.position →
      (∀ y ∈ younger, y.deadline ≠ s.edge.position) →
      exec .admissionDeadline s = .next (admitUnreads (older.length + 1) s)))

/-- A NOTE record by its sequence: match, slip, late or stray. A slip that a jam cuts short discards its record as stray. A
SEPARATOR record is sought as a NOTE record is. A slip whose last admission jams counts as a slip, which is the model's reading
(notes/assumptions/14.md). -/
def Obligations.RecordsSought : Prop :=
  (∀ (r : NoteRecord) (s : State),
    (∀ e rest, s.edge.fifo = e :: rest → e.seq = r.seq → exec (.noteRecord r) s = .next (admitNote e r s)) ∧
    (∀ older e rest, s.edge.fifo = older ++ e :: rest → older ≠ [] → (∀ o ∈ older, o.seq ≠ r.seq) → e.seq = r.seq →
      let u := admitUnreads older.length s
      (u.edge.fifo = e :: rest → exec (.noteRecord r) s = .next (bump .slips (admitNote e r u))) ∧
      (u.edge.fifo = [] → exec (.noteRecord r) s = .next (bump .strayRecords u))) ∧
    ((∀ e ∈ s.edge.fifo, e.seq ≠ r.seq) →
      (∀ e, s.track.queue.find? (·.awaits r.seq) = some e → exec (.noteRecord r) s = .next (applyLateNote e r s)) ∧
      ((∀ e ∈ s.track.queue, ¬ (e.kind = .unread ∧ e.seq = r.seq ∧ e.lateMark = false)) →
        exec (.noteRecord r) s = .next (bump .strayRecords s)))) ∧
  (∀ (r : SeparatorRecord) (s : State),
    (∀ e rest, s.edge.fifo = e :: rest → e.seq = r.seq → exec (.separatorRecord r) s = .next (admitCard e r s)) ∧
    (∀ older e rest, s.edge.fifo = older ++ e :: rest → older ≠ [] → (∀ o ∈ older, o.seq ≠ r.seq) → e.seq = r.seq →
      let u := admitUnreads older.length s
      (u.edge.fifo = e :: rest → exec (.separatorRecord r) s = .next (bump .slips (admitCard e r u))) ∧
      (u.edge.fifo = [] → exec (.separatorRecord r) s = .next (bump .strayRecords u))) ∧
    ((∀ e ∈ s.edge.fifo, e.seq ≠ r.seq) →
      (∀ e, s.track.queue.find? (·.awaits r.seq) = some e → exec (.separatorRecord r) s = .next (applyLateSeparator e r s)) ∧
      ((∀ e ∈ s.track.queue, ¬ (e.kind = .unread ∧ e.seq = r.seq ∧ e.lateMark = false)) →
        exec (.separatorRecord r) s = .next (bump .strayRecords s))))

/-- A matched record admits its edge. The edge leaves the FIFO; the item is attributed to the OPEN deposit, a card to the one
its separator names; with room in the Track Queue one entry joins the tail, with the number, sequence and leading position of its
edge, the disposition's destination, reason and route object, and the windows, shadow pocket, slot and trace flag that admittedEntry
writes out (R128, R129, R132, R141, R158); the other entries stand. A card's separator is taken whole, with all its effect. With 32
entries the item is kept in waiting and the jam TRACK_FULL is entered (R130); the fields of the waiting item are the model's reading
(notes/assumptions/29.md). -/
def Obligations.MatchedRecordEntersTheQueue : Prop :=
  (∀ (e : HeldEdge) (rest : List HeldEdge) (s : State), s.edge.fifo = e :: rest → s.track.queue.length < 32 →
    (∀ r : NoteRecord, e.seq = r.seq → ∃ t x, exec (.noteRecord r) s = .next t ∧ t.edge.fifo = rest ∧
      t.track.queue = s.track.queue ++ [x] ∧ x.item = e.item ∧ x.seq = e.seq ∧ x.lead = e.lead ∧ x.kind = .note ∧
      x.cls = some r.cls ∧ x.serial = r.serial ∧ x.dest = (decision e r { s with edge := { s.edge with fifo := rest } }).2.dest ∧
      x.reason = (decision e r { s with edge := { s.edge with fifo := rest } }).2.reason ∧
      t.edge.position = s.edge.position ∧ t.watch = s.watch ∧ t.feed = s.feed) ∧
    (∀ r : SeparatorRecord, e.seq = r.seq → ∃ t x, exec (.separatorRecord r) s = .next t ∧ t.edge.fifo = rest ∧
      t.track.queue = s.track.queue ++ [x] ∧ x.item = e.item ∧ x.seq = e.seq ∧ x.lead = e.lead ∧ x.kind = .card ∧
      x.dest = .runOut ∧ (x.reason = .card ∨ x.reason = .length ∨ x.reason = .pitch) ∧
      t.edge.position = s.edge.position ∧ t.watch = s.watch ∧ t.feed = s.feed)) ∧
  (∀ (e : HeldEdge) (rest : List HeldEdge) (s : State), s.edge.fifo = e :: rest →
    let popped : State := { s with edge := { s.edge with fifo := rest } }
    (∀ r : NoteRecord, e.seq = r.seq →
      let u := (decision e r popped).1
      let disp := (decision e r popped).2
      let slot := (openDeposit s).map (·.slot)
      let x := admittedEntry e .note (some r.cls) (r.code.map (·.1)) r.serial disp slot s
      let deposit := attributedTo slot e.item disp.hit.isSome u.deposit
      (s.track.queue.length < 32 →
        exec (.noteRecord r) s = .next { u with track := { u.track with queue := s.track.queue ++ [x] }, deposit := deposit }) ∧
      (32 ≤ s.track.queue.length → s.line.state ≠ .jammed →
        exec (.noteRecord r) s = .next (enterJam (.trackFull e.item)
          { u with track := { u.track with waiting := some x }, deposit := deposit }))) ∧
    (∀ r : SeparatorRecord, e.seq = r.seq →
      let u := (takeSeparator r e.item false popped).1
      let slot := (takeSeparator r e.item false popped).2
      let x := admittedEntry e .card none none none (cardDisposition e s) slot s
      let deposit := attributedTo slot e.item false u.deposit
      (s.track.queue.length < 32 →
        exec (.separatorRecord r) s = .next { u with track := { u.track with queue := s.track.queue ++ [x] }, deposit := deposit }) ∧
      (32 ≤ s.track.queue.length → s.line.state ≠ .jammed →
        exec (.separatorRecord r) s = .next (enterJam (.trackFull e.item)
          { u with track := { u.track with waiting := some x }, deposit := deposit }))))

/-- Checks 1 and 2 of the disposition decision: a bad length, a short gap, no deposit where one is required; none of them commits
a place or changes anything. Check 1 applies to a card as to a note, and every other card goes to run-out with reason CARD (R63).
Check 3: a watch hit goes to the quarantine pocket; to run-out where QUARANTINE_POCKET is 0 or the pocket is FULL (R57), or where its
open position, the leading position plus D less LEAD, lies less than 2^23 behind the position counter (R60); with one WATCH_HIT report,
held exactly in the first case; no route object is consulted. A note without a serial, or whose lookup misses, goes on to checks 4 to 7
in the state the lookup leaves. -/
def Obligations.FirstThreeChecks : Prop :=
  (∀ (e : HeldEdge) (r : NoteRecord) (s : State),
    let lengthGood : Prop := ∃ p, e.trail = some p ∧ s.route.lengthMin ≤ (p - e.lead).toNat ∧ (p - e.lead).toNat ≤ s.route.lengthMax
    let gapShort : Prop := ∃ n, e.gap = some n ∧ n < s.track.gapMin
    let toRunOut (reason : Reason) : Disposition :=
      { dest := .runOut, reason := reason, route := none, routeTrace := false, hit := none }
    (¬ lengthGood → decision e r s = (s, toRunOut .length) ∧ cardDisposition e s = toRunOut .length) ∧
    (lengthGood → gapShort → decision e r s = (s, toRunOut .pitch) ∧ cardDisposition e s = toRunOut .pitch) ∧
    (lengthGood → ¬ gapShort → cardDisposition e s = toRunOut .card) ∧
    (lengthGood → ¬ gapShort → s.deposit.requireDeposit = true → openDeposit s = none →
      decision e r s = (s, toRunOut .noDeposit)) ∧
    (admissionFault e s = none ↔ lengthGood ∧ ¬ gapShort)) ∧
  (∀ (e : HeldEdge) (r : NoteRecord) (s : State),
    admissionFault e s = none → (s.deposit.requireDeposit = true → (openDeposit s).isSome) →
    (r.serial = none → decision e r s = decideRoute e r s) ∧
    (∀ serial s1, r.serial = some serial → lookup serial (r.code.map (·.1)) s = (s1, none) →
      decision e r s = decideRoute e r s1)) ∧
  (∀ (e : HeldEdge) (r : NoteRecord) (serial : Serial) (w : WatchEntry) (s s1 : State),
    admissionFault e s = none → (s.deposit.requireDeposit = true → (openDeposit s).isSome) → r.serial = some serial →
    lookup serial (r.code.map (·.1)) s = (s1, some w) →
    let id := (openDeposit s1).map (·.id)
    let report (held : Bool) (reason : Reason) (d : Dest) : Report := .watchHit
      { item := e.item, depositId := id, serial := serial, denom := r.code.map (·.1), caseRef := w.caseRef, entryDenom := w.denom
        held := held, reason := reason, pocket := d }
    let out (d : Dest) (reason : Reason) : Disposition :=
      { dest := d, reason := reason, route := none, routeTrace := false, hit := some w }
    let geo := s.track.geometry
    let late (g : Gate) : Prop := (s.edge.position -
      (e.lead + (geo.d[g.val + 1]'(by omega)).zeroExtend 24 - geo.lead.zeroExtend 24)).toNat < 2 ^ 23
    ((∀ q, s.pocket.quarantine = some q → (pocketAt q s).state = .full) →
      decision e r s = (emit (report false .watchUnheld .runOut) s1, out .runOut .watchUnheld)) ∧
    (∀ q, s.pocket.quarantine = some q → (pocketAt q s).state ≠ .full →
      (late q → decision e r s = (emit (report false .late .runOut) s1, out .runOut .late)) ∧
      (¬ late q → decision e r s = (emit (report true .watch (.gated q)) (commitQuarantine q s1), out (.gated q) .watch))))

/-- Checks 4 to 7 for a note that missed the watch list: no winner; target RUNOUT; target QUARANTINE without a place, where
QUARANTINE_POCKET is 0 or the pocket is FULL (R59), and with one; target GROUP without a defined group, without a member to take the
note, with a gate already passed (R60), and with a commitment. -/
def Obligations.RouteDecides : Prop :=
  ∀ (e : HeldEdge) (r : NoteRecord) (s : State),
    let denom := r.code.map (·.1)
    let geo := s.track.geometry
    let late (g : Gate) : Prop := (s.edge.position -
      (e.lead + (geo.d[g.val + 1]'(by omega)).zeroExtend 24 - geo.lead.zeroExtend 24)).toNat < 2 ^ 23
    (winner r s = none → decideRoute e r s =
      (s, { dest := .runOut, reason := .noRoute, route := none, routeTrace := false, hit := none })) ∧
    (∀ k, winner r s = some k →
      let o := objectAt k s
      let out (d : Dest) (reason : Reason) : Disposition :=
        { dest := d, reason := reason, route := some k, routeTrace := o.trace, hit := none }
      (o.target = .runOut → decideRoute e r s = (spendQuota k e.item s, out .runOut .routed)) ∧
      (o.target = .quarantine → (∀ q, s.pocket.quarantine = some q → (pocketAt q s).state = .full) →
        decideRoute e r s = (s, out .runOut .noSpace)) ∧
      (∀ q, o.target = .quarantine → s.pocket.quarantine = some q → (pocketAt q s).state ≠ .full →
        (late q → decideRoute e r s = (s, out .runOut .late)) ∧
        (¬ late q → decideRoute e r s = (spendQuota k e.item (commitQuarantine q s), out (.gated q) .routed))) ∧
      (∀ g, o.target = .group g → (groupAt g s).members = [] → decideRoute e r s = (s, out .runOut .noSpace)) ∧
      (∀ g, o.target = .group g → (groupAt g s).members ≠ [] → place g denom s = none →
        decideRoute e r s =
          ((if (groupAt g s).overflow = .halt then raiseCause (.groupFull g) s else s), out .runOut .noSpace)) ∧
      (∀ g p, o.target = .group g → (groupAt g s).members ≠ [] → place g denom s = some p → late p →
        decideRoute e r s = (s, out .runOut .late)) ∧
      (∀ g p, o.target = .group g → (groupAt g s).members ≠ [] → place g denom s = some p → ¬ late p →
        decideRoute e r s = (spendQuota k e.item (commitMember g p denom e.item s), out (.gated p) .placed)))

/-- A late NOTE record: the oldest waiting UNREAD entry takes the record's class, denomination and serial, reason LATE_RECORD and
its mark, and keeps its destination and windows; no pocket, route object or held edge changes. Without a serial, or on a miss, it
has no case reference. A hit records the case reference, counts a watch hit in the deposit whose slot the entry holds, and hands on
one WATCH_HIT report, not held, with reason LATE_RECORD and pocket 0 (R75). -/
def Obligations.LateNoteRecordApplied : Prop :=
  ∀ (r : NoteRecord) (before after : List Entry) (e : Entry) (s : State),
    (∀ x ∈ s.edge.fifo, x.seq ≠ r.seq) → s.track.queue = before ++ e :: after →
    (∀ x ∈ before, ¬ (x.kind = .unread ∧ x.seq = r.seq ∧ x.lateMark = false)) →
    e.kind = .unread → e.seq = r.seq → e.lateMark = false →
    ∃ t x, exec (.noteRecord r) s = .next t ∧ t.track.queue = before ++ x :: after ∧
      x = { e with cls := some r.cls, denom := r.code.map (·.1), serial := r.serial, reason := .lateRecord, lateMark := true
                   caseRef := x.caseRef } ∧
      t.edge = s.edge ∧ t.route = s.route ∧ t.pocket = s.pocket ∧ t.group = s.group ∧ t.watch = s.watch ∧
      t.track.gates = s.track.gates ∧
    let denom := r.code.map (·.1)
    let taken (caseRef : Option Word) : List Entry := before ++
      { e with cls := some r.cls, denom := denom, serial := r.serial, reason := .lateRecord, lateMark := true
               caseRef := caseRef } :: after
    (r.serial = none → exec (.noteRecord r) s = .next { s with track := { s.track with queue := taken none } }) ∧
    (∀ serial s1, r.serial = some serial → lookup serial denom s = (s1, none) →
      exec (.noteRecord r) s = .next { s1 with track := { s1.track with queue := taken none } }) ∧
    (∀ serial s1 w, r.serial = some serial → lookup serial denom s = (s1, some w) →
      exec (.noteRecord r) s = .next (emit (.watchHit
          { item := e.item, depositId := (e.slot.bind (depositAt · s)).map (·.id), serial := serial, denom := denom
            caseRef := w.caseRef, entryDenom := w.denom, held := false, reason := .lateRecord, pocket := .runOut })
        { s1 with
          track := { s1.track with queue := taken (some w.caseRef) }
          deposit := { s1.deposit with
            deposits := s1.deposit.deposits.map fun d =>
              if some d.slot = e.slot then { d with watchHits := min (d.watchHits + 1) 65535 } else d } }))

/-! ### The route table -/

/-- Whether a note matches a route object: every key field admits it (R45). Which bit of the fitness, orientation and deposit kind
sets stands for which value is the model's choice (notes/assumptions/26.md). -/
def Obligations.MatchingAsKeyed : Prop :=
  ∀ (o : RouteObject) (r : NoteRecord) (s : State),
    let agree {w : Nat} (mask value v : BitVec w) : Prop := ∀ i < w, mask.getLsbD i = true → v.getLsbD i = value.getLsbD i
    (o.admits r ((openDeposit s).map (·.kind)) = true ↔
      o.classSet.getLsbD r.cls.code.toNat = true ∧
      (o.denomMask = 0 ∨ ∃ d x, r.code = some (d, x) ∧ agree o.denomMask o.denomValue d) ∧
      (o.seriesMask = 0 ∨ ∃ d x, r.code = some (d, x) ∧ agree o.seriesMask o.seriesValue x) ∧
      o.fitnessSet.getLsbD r.fitness.val = true ∧ o.orientSet.getLsbD r.orientation.val = true ∧
      ((∃ d, openDeposit s = some d ∧ o.kindSet.getLsbD d.kind.val = true) ∨ (openDeposit s = none ∧ o.kindSet = 15))) ∧
    (o.admits r ((openDeposit s).map (·.kind)) = true → r.code = none → o.denomMask = 0 ∧ o.seriesMask = 0) ∧
    (o.denomMask = 31 → o.admits r ((openDeposit s).map (·.kind)) = true → ∃ x, r.code = some (o.denomValue, x))

/-- The winner is the unspent matching object of ACTIVE of lowest priority class, nearest the head among equals (R46). -/
def Obligations.WinnerIsMostUrgent : Prop :=
  ∀ (r : NoteRecord) (s : State),
    let candidate (k : ObjectNo) : Prop := k ∈ s.route.active ∧ (objectAt k s).spent = false ∧
      (objectAt k s).admits r ((openDeposit s).map (·.kind)) = true
    (winner r s = none ↔ ∀ k, ¬ candidate k) ∧
    (∀ k, winner r s = some k → candidate k ∧ ∀ j, candidate j →
      (objectAt k s).priority < (objectAt j s).priority ∨
      ((objectAt k s).priority = (objectAt j s).priority ∧ s.route.active.idxOf k ≤ s.route.active.idxOf j))

/-- A commitment takes one from the winner's quota; the one that brings it to 0 sets the spent flag and queues ROUTE_SPENT; an
object without a quota is not changed. -/
def Obligations.QuotaSpent : Prop :=
  ∀ (k : ObjectNo) (item : Word) (s : State),
    ((objectAt k s).preset = none → spendQuota k item s = s) ∧
    (∀ p, (objectAt k s).preset = some p → 2 ≤ (objectAt k s).remaining →
      spendQuota k item s = { s with route := { s.route with
        objects := s.route.objects.set k { objectAt k s with remaining := (objectAt k s).remaining - 1 } } }) ∧
    (∀ p, (objectAt k s).preset = some p → (objectAt k s).remaining = 1 →
      spendQuota k item s = emit (.routeSpent k p (objectAt k s).priority item) { s with route := { s.route with
        objects := s.route.objects.set k { objectAt k s with remaining := 0, spent := true } } })

/-- The exchange (R51): the lists change places in their order; an object entering ACTIVE has its quota loaded and is not spent; one
leaving it is not spent and keeps its quota remaining; every other object stands. ROUTE_SWAP: refused PENDING while a swap is
pending; taken at once in IDLE, with a ROUTES report of cause REQUEST; left pending in every other line state. -/
def Obligations.RouteSwapTaken : Prop :=
  (∀ s : State, (s.route.active ++ s.route.standby).Nodup →
    (exchange s).route.active = s.route.standby ∧ (exchange s).route.standby = s.route.active ∧
    (∀ k ∈ s.route.standby, objectAt k (exchange s) =
      { objectAt k s with remaining := (objectAt k s).preset.getD 0, spent := false }) ∧
    (∀ k ∈ s.route.active, objectAt k (exchange s) = { objectAt k s with spent := false }) ∧
    (∀ k, k ∉ s.route.active → k ∉ s.route.standby → objectAt k (exchange s) = objectAt k s) ∧
    exchange s = { s with route := { s.route with
      active := s.route.standby, standby := s.route.active, objects := (exchange s).route.objects } }) ∧
  (∀ (tag : Byte) (s : State),
    (s.route.swapPending = true → exec (.routeSwap tag) s = .next (refuse tag 0x13 .pending s)) ∧
    (s.route.swapPending = false → s.line.state = .idle →
      let u := exchange (answer tag 0x13 .none s)
      exec (.routeSwap tag) s = .next (emit (.routes
        { cardItem := none, depositId := none, active := s.route.standby, standby := s.route.active }) u)) ∧
    (s.route.swapPending = false → s.line.state ≠ .idle →
      let u := answer tag 0x13 .none s
      exec (.routeSwap tag) s = .next { u with route := { s.route with swapPending := true } }))

/-- ROUTE_WRITE: refused RANGE, STATE or PENDING in that order, or every field of the object replaced, with its quota loaded and
its spent flag cleared when it is in ACTIVE; the lists stand. Bits 7 and 6 of the target byte give its type, 0 GROUP with the group in
bits 5 to 0, 1 QUARANTINE, 2 RUNOUT (section 11.3); a type of 3 and a group above 7 are refused RANGE. -/
def Obligations.RouteWriteReplaces : Prop :=
  ∀ (tag index : Byte) (a : RouteArgs) (s : State),
    let faulty : Prop := 15 < a.classSet.toNat ∨ 31 < a.denomValue.toNat ∨ 31 < a.denomMask.toNat ∨ 15 < a.kindSet.toNat ∨
      a.target.toNat / 64 = 3 ∨ (a.target.toNat / 64 = 0 ∧ 7 < a.target.toNat % 64) ∨ 3 < a.priority.toNat ∨
      (a.options.getLsbD 0 = true ∧ a.quota = 0)
    let target : Target :=
      if a.target.toNat / 64 = 0 then .group (Fin.ofNat 8 a.target.toNat)
      else if a.target.toNat / 64 = 1 then .quarantine
      else .runOut
    ((index.toNat > 47 ∨ faulty) → exec (.routeWrite tag index a) s = .next (refuse tag 0x10 .range s)) ∧
    (∀ k : ObjectNo, index.toNat = k → ¬ faulty →
      let active := s.route.active.contains k
      let standby := s.route.standby.contains k
      (active = true → s.line.state ≠ .idle → exec (.routeWrite tag index a) s = .next (refuse tag 0x10 .state s)) ∧
      (¬ (active = true ∧ s.line.state ≠ .idle) → standby = true → s.route.swapPending = true →
        exec (.routeWrite tag index a) s = .next (refuse tag 0x10 .pending s)) ∧
      (¬ (active = true ∧ s.line.state ≠ .idle) → ¬ (standby = true ∧ s.route.swapPending = true) →
        let o := objectAt k s
        let preset := if a.options.getLsbD 0 then some a.quota.toNat else none
        let written : RouteObject :=
          { classSet := a.classSet.extractLsb' 0 4, denomValue := a.denomValue.extractLsb' 0 5
            denomMask := a.denomMask.extractLsb' 0 5, seriesValue := a.series.extractLsb' 4 3
            seriesMask := a.series.extractLsb' 0 3, fitnessSet := a.fitOrient.extractLsb' 4 4
            orientSet := a.fitOrient.extractLsb' 0 4, kindSet := a.kindSet.extractLsb' 0 4
            target := target, priority := a.priority.toNat, preset := preset
            remaining := if active then preset.getD 0 else o.remaining
            spent := if active then false else o.spent, trace := a.options.getLsbD 1 }
        let u := answer tag 0x10 .none s
        exec (.routeWrite tag index a) s = .next { u with route := { s.route with objects := s.route.objects.set k written } }))

/-- ROUTE_LINK and ROUTE_UNLINK of an object the checks let pass: a FREE object joins its list behind the given number of others,
or at the tail; an object leaves its list and those behind it close up. Refused: an index above 47 or a list code above 1, an
object in the wrong list, ACTIVE outside IDLE, STANDBY while a swap is pending. -/
def Obligations.RouteLinksMove : Prop :=
  (∀ (tag index position : Byte) (k : ObjectNo) (s : State), index.toNat = k → k ∉ s.route.active → k ∉ s.route.standby →
    (s.line.state = .idle →
      let u := answer tag 0x11 .none s
      exec (.routeLink tag index 1 position) s = .next { u with route := { s.route with
        objects := s.route.objects.set k { objectAt k s with remaining := (objectAt k s).preset.getD 0, spent := false }
        active := s.route.active.take position.toNat ++ k :: s.route.active.drop position.toNat } }) ∧
    (s.route.swapPending = false →
      let u := answer tag 0x11 .none s
      exec (.routeLink tag index 0 position) s = .next { u with route := { s.route with
        standby := s.route.standby.take position.toNat ++ k :: s.route.standby.drop position.toNat } })) ∧
  (∀ (tag index : Byte) (k : ObjectNo) (s : State), index.toNat = k →
    (k ∈ s.route.active → k ∉ s.route.standby → s.line.state = .idle →
      let u := answer tag 0x12 .none s
      exec (.routeUnlink tag index) s = .next { u with route := { s.route with
        objects := s.route.objects.set k { objectAt k s with spent := false }, active := s.route.active.erase k } }) ∧
    (k ∈ s.route.standby → k ∉ s.route.active → s.route.swapPending = false →
      let u := answer tag 0x12 .none s
      exec (.routeUnlink tag index) s = .next { u with route := { s.route with standby := s.route.standby.erase k } })) ∧
  (∀ (tag index list position : Byte) (s : State),
    ((index.toNat > 47 ∨ list.toNat > 1) → exec (.routeLink tag index list position) s = .next (refuse tag 0x11 .range s)) ∧
    (∀ k : ObjectNo, index.toNat = k → list.toNat ≤ 1 →
      (k ∈ s.route.active ∨ k ∈ s.route.standby ∨ (list = 1 ∧ s.line.state ≠ .idle)) →
      exec (.routeLink tag index list position) s = .next (refuse tag 0x11 .state s)) ∧
    (∀ k : ObjectNo, index.toNat = k → k ∉ s.route.active → k ∉ s.route.standby → list = 0 → s.route.swapPending = true →
      exec (.routeLink tag index list position) s = .next (refuse tag 0x11 .pending s))) ∧
  (∀ (tag index : Byte) (s : State),
    (index.toNat > 47 → exec (.routeUnlink tag index) s = .next (refuse tag 0x12 .range s)) ∧
    (∀ k : ObjectNo, index.toNat = k →
      ((k ∉ s.route.active ∧ k ∉ s.route.standby) ∨ (k ∈ s.route.active ∧ s.line.state ≠ .idle)) →
      exec (.routeUnlink tag index) s = .next (refuse tag 0x12 .state s)) ∧
    (∀ k : ObjectNo, index.toNat = k → k ∈ s.route.standby → k ∉ s.route.active → s.route.swapPending = true →
      exec (.routeUnlink tag index) s = .next (refuse tag 0x12 .pending s)))

/-! ### The Watch Filter -/

/-- A lookup: a miss at a cell of 0 without reading the list; otherwise the oldest match and WATCH_HITS, or a miss and
WATCH_FALSE (R72). -/
def Obligations.LookupByIndexThenList : Prop :=
  ∀ (serial : Serial) (denom : Option Denom) (s : State),
    let hits (e : WatchEntry) : Prop := e.serial = serial ∧ (e.denom = none ∨ e.denom = denom)
    (s.watch.index.read (cellOf serial) = 0 → lookup serial denom s = (s, none)) ∧
    (s.watch.index.read (cellOf serial) ≠ 0 → (∀ e ∈ s.watch.list, ¬ hits e) →
      lookup serial denom s = (bump .watchFalse s, none)) ∧
    (∀ older e newer, s.watch.index.read (cellOf serial) ≠ 0 → s.watch.list = older ++ e :: newer → hits e →
      (∀ x ∈ older, ¬ hits x) → lookup serial denom s = (bump .watchHits s, some e))

/-- WATCH_ADD: RANGE, DUPLICATE, FULL, FULL in that order, or the entry joins the tail and its cell goes up by one, answered with
the entries held after it (R68). That the command itself, and WATCH_REMOVE too, refuses a character outside the set with FORMAT is the
model's reading (notes/assumptions/22.md). -/
def Obligations.WatchAddKeepsTheIndex : Prop :=
  ∀ (tag denom : Byte) (caseRef : Word) (serial : List Byte) (s : State),
    let d : Option Denom := if denom.toNat < 32 then some (BitVec.ofNat 5 denom.toNat) else none
    let characters : Prop := ∀ c ∈ serial, (0x30 ≤ c.toNat ∧ c.toNat ≤ 0x39) ∨ (0x41 ≤ c.toNat ∧ c.toNat ≤ 0x5A)
    let faulty : Prop := serial.length < 4 ∨ 12 < serial.length ∨ (31 < denom.toNat ∧ denom ≠ 0xFF)
    let held : Prop := ∃ e ∈ s.watch.list, e.serial = serial ∧ e.denom = d
    let run := exec (.watchAdd tag denom caseRef serial) s
    (¬ characters → run = .next (refuse tag 0x20 .format s)) ∧
    (¬ characters → exec (.watchRemove tag denom serial) s = .next (refuse tag 0x21 .format s)) ∧
    (characters → faulty → run = .next (refuse tag 0x20 .range s)) ∧
    (characters → ¬ faulty → held → run = .next (refuse tag 0x20 .duplicate s)) ∧
    (characters → ¬ faulty → ¬ held →
      (256 ≤ s.watch.list.length ∨ s.watch.index.read (cellOf serial) = 255) → run = .next (refuse tag 0x20 .full s)) ∧
    (characters → ¬ faulty → ¬ held → s.watch.list.length < 256 →
      s.watch.index.read (cellOf serial) ≠ 255 →
      let u := answer tag 0x20 (.entries (s.watch.list.length + 1)) s
      run = .next { u with watch :=
        { list := s.watch.list ++ [{ serial := serial, denom := d, caseRef := caseRef }]
          index := s.watch.index.write (cellOf serial) (s.watch.index.read (cellOf serial) + 1) } })

/-- WATCH_REMOVE: RANGE or NOT_FOUND in that order, or the named entry leaves the list, the entries behind it close up, and its
cell goes down by one, answered with the entries held after it (R69). WATCH_CLEAR empties the list and every cell, in every line
state and on an empty list as well, answered with the number of entries removed; the tallies WATCH_HITS and WATCH_FALSE stand
(R70). -/
def Obligations.WatchRemoveAndClear : Prop :=
  (∀ (tag denom : Byte) (serial : List Byte) (s : State),
    (∀ c ∈ serial, (0x30 ≤ c.toNat ∧ c.toNat ≤ 0x39) ∨ (0x41 ≤ c.toNat ∧ c.toNat ≤ 0x5A)) →
    let d : Option Denom := if denom.toNat < 32 then some (BitVec.ofNat 5 denom.toNat) else none
    let faulty : Prop := serial.length < 4 ∨ 12 < serial.length ∨ (31 < denom.toNat ∧ denom ≠ 0xFF)
    let named (e : WatchEntry) : Prop := e.serial = serial ∧ e.denom = d
    let run := exec (.watchRemove tag denom serial) s
    (faulty → run = .next (refuse tag 0x21 .range s)) ∧
    (¬ faulty → (∀ e ∈ s.watch.list, ¬ named e) → run = .next (refuse tag 0x21 .notFound s)) ∧
    (∀ older e newer, ¬ faulty → s.watch.list = older ++ e :: newer → named e → (∀ x ∈ older, ¬ named x) →
      let u := answer tag 0x21 (.entries (s.watch.list.length - 1)) s
      run = .next { u with watch :=
        { list := older ++ newer
          index := s.watch.index.write (cellOf serial) (s.watch.index.read (cellOf serial) - 1) } })) ∧
  (∀ (tag : Byte) (s : State), ∃ t, exec (.watchClear tag) s = .next t ∧
    (let u := answer tag 0x22 (.entries s.watch.list.length) s
     t = { u with watch := { list := [], index := [] } }) ∧
    (∀ cell, t.watch.index.read cell = 0) ∧
    t.report.events[EventTally.watchHits.index] = s.report.events[EventTally.watchHits.index] ∧
    t.report.events[EventTally.watchFalse.index] = s.report.events[EventTally.watchFalse.index])

/-! ### Parameters -/

/-- The parameters of the line, in every line state: a value outside the range or against a relation is refused RANGE; any other
is answered and written, and nothing else changes. -/
def Obligations.LineParametersWritten : Prop :=
  ∀ (tag : Byte) (v : Word) (s : State),
    let n := v.toNat
    let u : State := answer tag 0x01 .none s
    let refused : State := refuse tag 0x01 .range s
    exec (.setParamLengthMin tag v) s = .next (
      if 1 ≤ n ∧ n ≤ 2000 ∧ n ≤ s.route.lengthMax then { u with route := { s.route with lengthMin := n } } else refused) ∧
    exec (.setParamLengthMax tag v) s = .next (
      if 1 ≤ n ∧ n ≤ 2000 ∧ s.route.lengthMin ≤ n then { u with route := { s.route with lengthMax := n } } else refused) ∧
    exec (.setParamRequireDeposit tag v) s = .next (
      if n ≤ 1 then { u with deposit := { s.deposit with requireDeposit := n == 1 } } else refused) ∧
    exec (.setParamGapMin tag v) s = .next (
      if n ≤ 65535 ∧ (s.track.loaded = true → s.track.geometry.lead.toNat + s.track.geometry.lag.toNat ≤ n) then
        { u with track := { u.track with gapMin := n } }
      else refused) ∧
    exec (.setParamStallTime tag v) s = .next (
      if 10 ≤ n ∧ n ≤ 2000 then { u with track := { u.track with stallTime := n } } else refused) ∧
    exec (.setParamStartTime tag v) s = .next (
      if 100 ≤ n ∧ n ≤ 5000 then { u with track := { u.track with startTime := n } } else refused) ∧
    exec (.setParamTraceAll tag v) s = .next (
      if n ≤ 1 then { u with track := { u.track with traceAll := n == 1 } } else refused) ∧
    exec (.setParamTraceRejects tag v) s = .next (
      if n ≤ 1 then { u with track := { u.track with traceRejects := n == 1 } } else refused) ∧
    exec (.setParamNoticeMask tag v) s = .next (
      if n < 2 ^ 26 then { u with report := { u.report with noticeMask := BitVec.ofNat 26 n } } else refused)

/-- The parameters of a group, whether or not it is defined. A write of a purity, or of overflow action RUNOUT, ends GROUP_FULL(g);
a write of the low threshold sets the arm; a brick size is refused STATE while an accumulator of the group is in use. That a value
outside the range is refused RANGE also then is the model's choice (notes/assumptions/28.md). -/
def Obligations.GroupParametersWritten : Prop :=
  ∀ (tag : Byte) (g : GroupNo) (v : Word) (s : State),
    let n := v.toNat
    let u : State := answer tag 0x01 .none s
    let refused (r : RefusalReason) : State := refuse tag 0x01 r s
    let put (r : GroupRec) : State := { u with group := { s.group with groups := s.group.groups.set g r } }
    let freed (t : State) : State :=
      { t with line := { t.line with causes := { t.line.causes with groupFull := t.line.causes.groupFull.set g false } } }
    let open_ := (groupAt g s).members.countP fun p => (pocketAt p s).state == .openState && (pocketAt p s).enabled
    exec (.setParamStrapPreset tag g v) s = .next (
      if 1 ≤ n ∧ n ≤ 200 then put { groupAt g s with strap := n } else refused .range) ∧
    exec (.setParamDenominationPurity tag g v) s = .next (
      if n ≤ 1 then freed (put { groupAt g s with denomPure := n == 1 }) else refused .range) ∧
    exec (.setParamDepositPurity tag g v) s = .next (
      if n ≤ 1 then freed (put { groupAt g s with depositPure := n == 1 }) else refused .range) ∧
    ((20 < n ∨ n = 1) → exec (.setParamBrickSize tag g v) s = .next (refused .range)) ∧
    (n ≤ 20 → n ≠ 1 → (∃ (i : Fin 16) (a : Accumulator), s.group.accs[i] = some a ∧ a.group = g) →
      exec (.setParamBrickSize tag g v) s = .next (refused .state)) ∧
    (n ≤ 20 → n ≠ 1 → (∀ (i : Fin 16) (a : Accumulator), s.group.accs[i] = some a → a.group ≠ g) →
      exec (.setParamBrickSize tag g v) s = .next (put { groupAt g s with brickSize := n })) ∧
    exec (.setParamLowThreshold tag g v) s = .next (
      if n ≤ 7 then put { groupAt g s with lowThreshold := n, armed := decide (n < open_) } else refused .range) ∧
    exec (.setParamOverflowAction tag g v) s = .next (
      if n = 0 then freed (put { groupAt g s with overflow := .runOut })
      else if n = 1 then put { groupAt g s with overflow := .halt }
      else refused .range)

/-- The quarantine pocket is selected in IDLE: RANGE, STATE, DUPLICATE or STATE in that order, or the former one becomes UNASSIGNED
and the new one OPEN, both empty, with an empty manifest; a write that names the present one changes nothing. That every flag of a
pocket leaving its role is clear is the model's reading (notes/assumptions/16.md). That the closing kind of an empty bundle is FULL
and its deposit-pure flag clear is the model's choice (notes/assumptions/27.md). -/
def Obligations.QuarantinePocketSelected : Prop :=
  ∀ (tag : Byte) (v : Word) (s : State),
    let run := exec (.setParamQuarantinePocket tag v) s
    let u : State := answer tag 0x01 .none s
    let refused (r : RefusalReason) : State := refuse tag 0x01 r s
    (15 < v.toNat → run = .next (refused .range)) ∧
    (v.toNat ≤ 15 → s.line.state ≠ .idle → run = .next (refused .state)) ∧
    ∀ new : Option Gate, v.toNat = (new.map fun g => g.val + 1).getD 0 → s.line.state = .idle →
      ((∃ g k, new = some g ∧ groupOf g s = some k) → run = .next (refused .duplicate)) ∧
      ((∀ g, new = some g → groupOf g s = none) →
        (new = s.pocket.quarantine → run = .next u) ∧
        (∀ q, s.pocket.quarantine = some q → new ≠ some q → (0 < (pocketAt q s).committed ∨ s.pocket.manifest ≠ []) →
          run = .next (refused .state)) ∧
        (new ≠ s.pocket.quarantine →
          (∀ q, s.pocket.quarantine = some q → (pocketAt q s).committed = 0 ∧ s.pocket.manifest = []) →
          ∃ t, run = .next t ∧ t = u.setPocket t.pocket ∧ t.pocket.quarantine = new ∧ t.pocket.manifest = [] ∧
            t.pocket = { s.pocket with pockets := t.pocket.pockets, quarantine := new, manifest := [] } ∧
            (∀ q, s.pocket.quarantine = some q → pocketAt q t = PocketRec.fresh .unassigned (pocketAt q s).enabled) ∧
            (∀ q, new = some q → pocketAt q t = PocketRec.fresh .openState (pocketAt q s).enabled) ∧
            (∀ g, s.pocket.quarantine ≠ some g → new ≠ some g → pocketAt g t = pocketAt g s)))

/-- QUARANTINE_LIMIT: refused RANGE below the committed count; a limit equal to the committed count makes an OPEN quarantine
pocket FULL and raises QUARANTINE_FULL, one above it makes a FULL pocket OPEN and ends the cause. QUARANTINE_RELEASE: NOT_FOUND,
STATE, or one QUARANTINE report with the manifest as it stands, and the pocket emptied and OPEN. -/
def Obligations.QuarantineLimitAndRelease : Prop :=
  ∀ (tag : Byte) (v : Word) (s : State),
    let n := v.toNat
    let run := exec (.setParamQuarantineLimit tag v) s
    let u : State := answer tag 0x01 .none s
    let limited (t : State) : State := { t with pocket := { t.pocket with limit := n } }
    let put (q : Gate) (r : PocketRec) (t : State) : State := { t with pocket := { t.pocket with pockets := t.pocket.pockets.set q r } }
    let freed (t : State) : State := { t with line := { t.line with causes := { t.line.causes with quarantineFull := false } } }
    ((n < 1 ∨ 64 < n) → run = .next (refuse tag 0x01 .range s)) ∧
    (1 ≤ n → n ≤ 64 → s.pocket.quarantine = none → run = .next (limited u)) ∧
    (∀ q, 1 ≤ n → n ≤ 64 → s.pocket.quarantine = some q →
      let r := pocketAt q s
      (n < r.committed → run = .next (refuse tag 0x01 .range s)) ∧
      (r.committed = n → r.state = .openState →
        run = .next (raiseCause .quarantineFull (put q { r with state := .full } (limited u)))) ∧
      (r.committed < n → r.state = .full → run = .next (freed (put q { r with state := .openState } (limited u)))) ∧
      ((r.committed = n ∧ r.state = .full ∨ r.committed < n ∧ r.state = .openState) → run = .next (limited u))) ∧
    (s.pocket.quarantine = none → exec (.quarantineRelease tag) s = .next (refuse tag 0x38 .notFound s)) ∧
    (∀ q, s.pocket.quarantine = some q →
      let r := pocketAt q s
      (r.confirmed < r.committed → exec (.quarantineRelease tag) s = .next (refuse tag 0x38 .state s)) ∧
      (r.committed = r.confirmed →
        let w := emit (.quarantine { pocket := q, released := true, count := r.confirmed, manifest := s.pocket.manifest
                                     recount := r.recount, limit := s.pocket.limit }) (answer tag 0x38 .none s)
        let t : State := { w with pocket := { s.pocket with
          manifest := [], pockets := s.pocket.pockets.set q { r with committed := 0, confirmed := 0, recount := false, state := .openState } } }
        exec (.quarantineRelease tag) s = .next (if r.state = .full then freed t else t)))

/-- SET_GEOMETRY: refused RANGE where a relation does not hold, then STATE outside IDLE; otherwise every value is replaced and the
loaded flag set. -/
def Obligations.GeometryReplaced : Prop :=
  ∀ (tag : Byte) (geo : Geometry) (s : State),
    let d (p : Fin 16) : Nat := (geo.d[p]).toNat
    let good : Prop := (∀ p, 1 ≤ d p) ∧ 1 ≤ geo.admitLimit.toNat ∧ (∀ p q : Fin 16, 1 ≤ p → p < q → d p < d q) ∧ d 15 < d 0 ∧
      geo.lead.toNat + geo.lag.toNat ≤ s.track.gapMin ∧ geo.admitLimit.toNat + geo.tol.toNat < d 0
    let u : State := answer tag 0x02 .none s
    (¬ good → exec (.setGeometry tag geo) s = .next (refuse tag 0x02 .range s)) ∧
    (good → s.line.state ≠ .idle → exec (.setGeometry tag geo) s = .next (refuse tag 0x02 .state s)) ∧
    (good → s.line.state = .idle →
      exec (.setGeometry tag geo) s = .next { u with track := { u.track with geometry := geo, loaded := true } })

/-! ### Groups and pockets -/

/-- GROUP_DEFINE: its five checks in order; accepted, the list is replaced, members left out become UNASSIGNED, every listed pocket
becomes an OPEN empty member, the current member is the first, the arm is set by the count, and GROUP_FULL(g) ends. The enabled
flags and every other pocket and group stand. That a member left out has its bundle and flags clear is the model's reading
(notes/assumptions/16.md). That the closing kind of an empty bundle is FULL and its deposit-pure flag clear is the model's choice
(notes/assumptions/27.md). -/
def Obligations.GroupDefined : Prop :=
  ∀ (tag group : Byte) (pockets : List Byte) (s : State),
    let run := exec (.groupDefine tag group pockets) s
    let refused (r : RefusalReason) : State := refuse tag 0x30 r s
    ((7 < group.toNat ∨ 8 < pockets.length ∨ ¬ pockets.Nodup ∨ ∃ b ∈ pockets, b = 0 ∨ 15 < b.toNat) →
      run = .next (refused .range)) ∧
    ∀ (k : GroupNo) (gates : List Gate), group.toNat = k → pockets.map (·.toNat) = gates.map (fun g => g.val + 1) →
      gates.length ≤ 8 → gates.Nodup →
      let elsewhere : Prop := ∃ g ∈ gates, (∃ j, j ≠ k ∧ groupOf g s = some j) ∨ s.pocket.quarantine = some g
      let held : Prop := ∃ g, (g ∈ gates ∨ g ∈ (groupAt k s).members) ∧ (0 < (pocketAt g s).committed ∨ 0 < (pocketAt g s).confirmed)
      let gathering : Prop := ∃ (i : Fin 16) (a : Accumulator), s.group.accs[i] = some a ∧ a.group = k
      (s.line.state ≠ .idle → run = .next (refused .state)) ∧
      (s.line.state = .idle → elsewhere → run = .next (refused .duplicate)) ∧
      (s.line.state = .idle → ¬ elsewhere → (held ∨ gathering) → run = .next (refused .state)) ∧
      (s.line.state = .idle → ¬ elsewhere → ¬ held → ¬ gathering →
        let u : State := answer tag 0x30 .none s
        ∃ t, run = .next t ∧
          t = { u with
            pocket := { s.pocket with pockets := t.pocket.pockets }
            group := { s.group with groups := s.group.groups.set k { groupAt k s with
              members := gates, current := gates.head?
              armed := decide ((groupAt k s).lowThreshold < gates.countP fun g => (pocketAt g s).enabled) } }
            line := { u.line with causes := { u.line.causes with groupFull := u.line.causes.groupFull.set k false } } } ∧
          (∀ g ∈ gates, pocketAt g t = PocketRec.fresh .openState (pocketAt g s).enabled) ∧
          (∀ g ∈ (groupAt k s).members, g ∉ gates → pocketAt g t = PocketRec.fresh .unassigned (pocketAt g s).enabled) ∧
          (∀ g, g ∉ gates → g ∉ (groupAt k s).members → pocketAt g t = pocketAt g s))

/-- GROUP_FLUSH: RANGE, STATE, NOT_FOUND in order; accepted, every OPEN member with commitments takes an odd close (FULL at once
when nothing is in flight, CLOSING otherwise), in rotation order, and every accumulator keyed to the group closes as a PARTIAL brick, in
ascending index; no other pocket and no other accumulator changes. The answer comes first, with the number of members asked to close and
of partial bricks as they are when the request is taken (notes/assumptions/9.md). The close of a bundle (R88, R89, R118): its number,
the BUNDLE report and the tally; a bundle closed FULL with a code, where the brick size is not 0, joins the
accumulator of its group and code, or else the free one of lowest index, and with none free carries UNBRICKED; no other bundle is offered. The close of a brick (R119): its number, the BRICK report, the tally,
and the accumulator free; a list that reaches the brick size closes complete after the BUNDLE report; that a BACKLOG halt or a
notice of BUNDLES is reported between the two is the model's choice (notes/assumptions/31.md). The number past the largest is
a free value (notes/assumptions/11.md). -/
def Obligations.GroupFlushed : Prop :=
  (∀ (tag group : Byte) (s : State),
    let run := exec (.groupFlush tag group) s
    (7 < group.toNat → run = .next (refuse tag 0x31 .range s)) ∧
    ∀ k : GroupNo, group.toNat = k →
      (s.line.state ≠ .idle → run = .next (refuse tag 0x31 .state s)) ∧
      (s.line.state = .idle → (groupAt k s).members = [] → run = .next (refuse tag 0x31 .notFound s)) ∧
      (s.line.state = .idle → (groupAt k s).members ≠ [] →
        let asked : List Gate := (groupAt k s).members.filter fun g =>
          (pocketAt g s).state == .openState && decide (0 < (pocketAt g s).committed)
        let keyed : List (Fin 16) := (List.finRange 16).filter fun i => match s.group.accs[i] with
          | some a => a.group == k
          | none => false
        ∃ t, run = .next t ∧
          t = keyed.foldl (fun u i => closeBrick i false u)
            (asked.foldl (fun u g => oddClose g u) (answer tag 0x31 (.flush asked.length keyed.length) s)) ∧
          (∀ g, let r := pocketAt g s
            pocketAt g t = if g ∈ (groupAt k s).members ∧ r.state = .openState ∧ 0 < r.committed then
              { r with target := some r.committed, closing := .odd, state := if r.confirmed = r.committed then .full else .closing }
            else r) ∧
          (∀ (i : Fin 16) (a : Accumulator), s.group.accs[i] = some a → a.group = k → t.group.accs[i] = none) ∧
          (∀ i : Fin 16, (∀ a, s.group.accs[i] = some a → a.group ≠ k) → t.group.accs[i] = s.group.accs[i]) ∧
          (∀ j, (groupAt j t).members = (groupAt j s).members ∧ (groupAt j t).current = (groupAt j s).current) ∧
          t.edge = s.edge ∧ t.route = s.route ∧ t.watch = s.watch ∧ t.deposit = s.deposit ∧ t.track.queue = s.track.queue ∧
          t.line.state = .idle)) ∧
  (∀ (g : Gate) (s : State),
    let r := pocketAt g s
    let odd (state : PocketState) : PocketRec := { r with target := some r.committed, closing := .odd, state := state }
    let put (state : PocketState) : State := { s with pocket := { s.pocket with pockets := s.pocket.pockets.set g (odd state) } }
    ((r.state ≠ .openState ∨ r.committed = 0) → oddClose g s = s) ∧
    (r.state = .openState → 0 < r.committed →
      (r.confirmed = r.committed → oddClose g s = memberChanged g .openState none (closeBundle g (odd .full) .odd (put .full))) ∧
      (r.confirmed ≠ r.committed → oddClose g s = memberChanged g .openState none (put .closing)))) ∧
  (∀ (g : Gate) (k : GroupNo) (r : PocketRec) (close : BundleClose) (s : State), groupOf g s = some k →
    (close = .full → r.target = some r.confirmed) →
    let number := s.pocket.nextBundle
    let numbered : State := { s with
      pocket := { s.pocket with nextBundle := if number = 0xFFFFFFFF then Config.numberPastLast s.freeCount else number + 1 }
      freeCount := if number = 0xFFFFFFFF then s.freeCount + 1 else s.freeCount }
    let report (unbricked : Bool) : Report := .bundle
      { number := number, group := k, pocket := g, denom := r.denom, deposit := if r.depositPure then r.deposit else none
        contributions := r.contributions, count := r.confirmed, target := r.target.getD 0, close := close, recount := r.recount
        manyDeposits := r.manyDeposits, carried := r.carried, unbricked := unbricked }
    let reported (unbricked : Bool) (u : State) : State := bump .bundles (emit (report unbricked) u)
    let keyed (d : Denom) (i : Fin 16) : Prop := ∃ a, s.group.accs[i] = some a ∧ a.group = k ∧ a.denom = d
    let joined (i : Fin 16) (a : Accumulator) : State :=
      let u := reported false { numbered with group := { s.group with accs := s.group.accs.set i (some a) } }
      if (groupAt k s).brickSize ≤ a.bundles.length then closeBrick i true u else u
    ((close ≠ .full ∨ (groupAt k s).brickSize = 0 ∨ ∀ d, r.denom ≠ some (.code d)) → closeBundle g r close s = reported false numbered) ∧
    (∀ d, close = .full → (groupAt k s).brickSize ≠ 0 → r.denom = some (.code d) →
      (∀ (i : Fin 16) (a : Accumulator), s.group.accs[i] = some a → a.group = k → a.denom = d → (∀ j, j < i → ¬ keyed d j) →
        closeBundle g r close s = joined i { a with
          bundles := a.bundles ++ [number], total := a.total + r.confirmed, recount := a.recount || r.recount
          manyDeposits := a.manyDeposits || r.manyDeposits, carried := a.carried || r.carried }) ∧
      ((∀ i, ¬ keyed d i) →
        (∀ i : Fin 16, s.group.accs[i] = none → (∀ j : Fin 16, j < i → s.group.accs[j] ≠ none) →
          closeBundle g r close s = joined i { group := k, denom := d, bundles := [number], total := r.confirmed
                                               recount := r.recount, manyDeposits := r.manyDeposits, carried := r.carried }) ∧
        ((∀ i : Fin 16, s.group.accs[i] ≠ none) → closeBundle g r close s = reported true numbered)))) ∧
  (∀ (i : Fin 16) (complete : Bool) (s : State),
    (s.group.accs[i] = none → closeBrick i complete s = s) ∧
    (∀ a, s.group.accs[i] = some a →
      let number := s.group.nextBrick
      let u := bump .bricks (emit (.brick { number := number, complete := complete, acc := a }) { s with
        group := { s.group with nextBrick := if number = 0xFFFFFFFF then Config.numberPastLast s.freeCount else number + 1 }
        freeCount := if number = 0xFFFFFFFF then s.freeCount + 1 else s.freeCount })
      closeBrick i complete s = { u with group := { u.group with accs := u.group.accs.set i none } }))

/-- POCKET_ENABLE: refused RANGE for no gated pocket or a setting above 1; otherwise the flag is set or cleared and nothing else of
any pocket changes. At a member the arm follows the new count, and an include of an OPEN member ends GROUP_FULL of its group. The
count of OPEN enabled members taken again (R112, R113): armed and at or below the threshold, one GROUP_LOW report with the members as
they stand, and the arm disarmed; disarmed and above it, the arm armed; no change otherwise. A member's change of state brings this
recount, and one that makes it OPEN ends GROUP_FULL of its group first. -/
def Obligations.PocketEnabled : Prop :=
  (∀ (tag pocket setting : Byte) (s : State),
    let run := exec (.pocketEnable tag pocket setting) s
    ((pocket = 0 ∨ 15 < pocket.toNat ∨ 1 < setting.toNat) → run = .next (refuse tag 0x32 .range s)) ∧
    ∀ g : Gate, pocket.toNat = g.val + 1 → setting.toNat ≤ 1 →
      let u : State := answer tag 0x32 .none s
      let v : State := { u with
        pocket := { s.pocket with pockets := s.pocket.pockets.set g { pocketAt g s with enabled := setting == 1 } } }
      ∃ t, run = .next t ∧ t.pocket = v.pocket ∧
        (groupOf g s = none → t = v) ∧
        (∀ k, groupOf g s = some k →
          t = recountGroup k none (if setting = 1 ∧ (pocketAt g s).state = .openState then
              { v with line := { v.line with causes := { v.line.causes with groupFull := v.line.causes.groupFull.set k false } } }
            else v) ∧
          t.group = { s.group with groups := s.group.groups.set k { groupAt k s with
            armed := decide ((groupAt k s).lowThreshold < (groupAt k s).members.countP fun p =>
              (pocketAt p t).state == .openState && (pocketAt p t).enabled) } } ∧
          (setting = 1 → (pocketAt g s).state = .openState → t.line.causes.groupFull[k] = false)) ∧
        t.edge = s.edge ∧ t.route = s.route ∧ t.watch = s.watch ∧ t.deposit = s.deposit ∧ t.track.queue = s.track.queue) ∧
  (∀ (k : GroupNo) (item : Option Word) (s : State),
    let grp := groupAt k s
    let count := grp.members.countP fun g => (pocketAt g s).state == .openState && (pocketAt g s).enabled
    let arm (b : Bool) : State := { s with group := { s.group with groups := s.group.groups.set k { grp with armed := b } } }
    (grp.armed = true → count ≤ grp.lowThreshold →
      recountGroup k item s = emit (.groupLow
        { group := k, openCount := count, threshold := grp.lowThreshold, item := item
          members := grp.members.map fun g => (g, (pocketAt g s).state, (pocketAt g s).enabled) }) (arm false)) ∧
    (grp.armed = false → grp.lowThreshold < count → recountGroup k item s = arm true) ∧
    ((grp.armed = true ↔ grp.lowThreshold < count) → recountGroup k item s = s)) ∧
  (∀ (g : Gate) (s : State),
    (groupOf g s = none ↔ ∀ k, g ∉ (groupAt k s).members) ∧
    (∀ k, groupOf g s = some k ↔ g ∈ (groupAt k s).members ∧ ∀ j, j < k → g ∉ (groupAt j s).members)) ∧
  (∀ (g : Gate) (old : PocketState) (item : Option Word) (s : State),
    (groupOf g s = none → memberChanged g old item s = s) ∧
    (∀ k, groupOf g s = some k →
      let ended : State :=
        { s with line := { s.line with causes := { s.line.causes with groupFull := s.line.causes.groupFull.set k false } } }
      (old = (pocketAt g s).state → memberChanged g old item s = s) ∧
      (old ≠ (pocketAt g s).state → memberChanged g old item s =
        recountGroup k item (if (pocketAt g s).state = .openState then ended else s))))

/-- The placement search reads the members from the current one on, then from the first, and offers the first that can take the
note (R109). A commitment there makes it the current member and takes one place: the first gives the bundle its keys and its size, and
one that reaches the target makes the pocket CLOSING (R81, R82, R110). A commitment at the quarantine pocket takes one place, and the
one that reaches the limit makes it FULL and raises QUARANTINE_FULL (R96). -/
def Obligations.PlacementAndCommitment : Prop :=
  (∀ (k : GroupNo) (denom : Option Denom) (s : State),
    let grp := groupAt k s
    let key : BundleDenom := match denom with
      | some d => .code d
      | none => .uncoded
    let deposit : DepositKey := match openDeposit s with
      | some d => .id d.id
      | none => .none
    let takes (g : Gate) : Prop :=
      (pocketAt g s).state = .openState ∧ (pocketAt g s).enabled = true ∧
      ((pocketAt g s).target = none ∨
        ((grp.denomPure = false ∨ (pocketAt g s).denom = some key) ∧
         ((pocketAt g s).depositPure = false ∨ (pocketAt g s).deposit = some deposit) ∧ (pocketAt g s).closing = .full))
    (∀ before c after, grp.members = before ++ c :: after → grp.current = some c → c ∉ before →
      (place k denom s = none ↔ ∀ g ∈ grp.members, ¬ takes g) ∧
      (∀ g, place k denom s = some g ↔
        ∃ passed later, c :: after ++ before = passed ++ g :: later ∧ takes g ∧ ∀ x ∈ passed, ¬ takes x)) ∧
    (∀ (g : Gate) (item : Word),
      let r := pocketAt g s
      let t := commitMember k g denom item s
      (groupAt k t).current = some g ∧ (∀ h, h ≠ g → pocketAt h t = pocketAt h s) ∧
      t = memberChanged g r.state (some item) { s with
        pocket := { s.pocket with pockets := s.pocket.pockets.set g (pocketAt g t) }
        group := { s.group with groups := s.group.groups.set k { grp with current := some g } } } ∧
      (r.target = none → pocketAt g t = { r with
        target := some grp.strap, depositPure := grp.depositPure, closing := .full, denom := some key
        deposit := if grp.depositPure then some deposit else none, committed := r.committed + 1
        state := if grp.strap = r.committed + 1 then .closing else .openState }) ∧
      (∀ n, r.target = some n → pocketAt g t = { r with
        denom := if r.denom = some key then some key else some .mixed, committed := r.committed + 1
        state := if n = r.committed + 1 then .closing else .openState }))) ∧
  (∀ (q : Gate) (s : State),
    let r := pocketAt q s
    let taken (state : PocketState) : State := { s with pocket := { s.pocket with
      pockets := s.pocket.pockets.set q { r with committed := r.committed + 1, state := state } } }
    (r.committed + 1 ≠ s.pocket.limit → commitQuarantine q s = taken r.state) ∧
    (r.committed + 1 = s.pocket.limit → commitQuarantine q s = raiseCause .quarantineFull (taken .full)))

/-- The pocket-cleared input: at run-out, at the quarantine pocket, and at a member by its state and counts (R92, R93, R98, R102).
The quarantine pocket emptied hands on its QUARANTINE report, CLEARED. A REMOVED_EARLY or PARTIAL_REMOVED close uses one bundle
number and hands on its BUNDLE report with the count confirmed. An OPEN member with an empty bundle counts CLEAR_IGNORED and has its
flags cleared. Every input at a member that is OPEN afterwards ends GROUP_FULL of its group, and the count of OPEN members is taken
again (R111, R112). That the closing kind of an empty bundle is FULL and its deposit-pure flag clear is the model's choice
(notes/assumptions/27.md). -/
def Obligations.PocketsCleared : Prop :=
  ∀ (p : Fin 16) (s : State),
    let run := exec (.pocketCleared p) s
    (pocketOf p = .runOut → s.pocket.runOut = 0 → run = .next (bump .clearIgnored s)) ∧
    (pocketOf p = .runOut → 0 < s.pocket.runOut →
      let u : State := emit (.runOut s.pocket.runOut s.pocket.runOutReasons) s
      run = .next { u with pocket := { s.pocket with runOut := 0, runOutReasons := Vector.replicate 11 0 } }) ∧
    (∀ q, pocketOf p = .gated q → s.pocket.quarantine = some q →
      let r := pocketAt q s
      (r.confirmed < r.committed → run = .next (bump .clearIgnored s)) ∧
      (r.committed = 0 → r.confirmed = 0 →
        run = .next (bump .clearIgnored { s with pocket := { s.pocket with
          pockets := s.pocket.pockets.set q { r with recount := false } } })) ∧
      (0 < r.committed → r.committed = r.confirmed →
        let w : State := emit (.quarantine { pocket := q, released := false, count := r.confirmed, manifest := s.pocket.manifest
                                             recount := r.recount, limit := s.pocket.limit }) s
        ∃ t, run = .next t ∧
          t = { w with
            pocket := t.pocket
            line := { w.line with causes := { w.line.causes with
              quarantineFull := if r.state = .full then false else w.line.causes.quarantineFull } } } ∧
          t.pocket = { s.pocket with
          manifest := [], pockets := s.pocket.pockets.set q { r with committed := 0, confirmed := 0, recount := false, state := .openState } } ∧
          (r.state = .full → t.line.causes.quarantineFull = false) ∧
          (s.report.queue.length < 64 → ∃ later, t.report.queue = s.report.queue ++
            { report := .quarantine { pocket := q, released := false, count := r.confirmed, manifest := s.pocket.manifest
                                      recount := r.recount, limit := s.pocket.limit }
              loss := s.report.lossMark } :: later))) ∧
    (∀ g, pocketOf p = .gated g → s.pocket.quarantine ≠ some g →
      let r := pocketAt g s
      let closed (k : GroupNo) (close : BundleClose) (t : State) : Prop := s.report.queue.length < 64 →
        ∃ later, t.report.queue = s.report.queue ++
          { report := .bundle
              { number := s.pocket.nextBundle, group := k, pocket := g, denom := r.denom
                deposit := if r.depositPure then r.deposit else none, contributions := r.contributions, count := r.confirmed
                target := r.target.getD 0, close := close, recount := r.recount, manyDeposits := r.manyDeposits
                carried := r.carried, unbricked := false }
            loss := s.report.lossMark } :: later
      (r.state = .unassigned → run = .next (bump .clearIgnored s)) ∧
      (∀ k, groupOf g s = some k → r.state ≠ .unassigned →
        let taken (t u : State) : State :=
          let v : State := { u with pocket := { u.pocket with pockets := u.pocket.pockets.set g (pocketAt g t) } }
          let ended : State :=
            { v with line := { v.line with causes := { v.line.causes with groupFull := v.line.causes.groupFull.set k false } } }
          recountGroup k none (if (pocketAt g v).state = .openState then ended else v)
        ∃ t, run = .next t ∧ (∀ h, h ≠ g → pocketAt h t = pocketAt h s) ∧
          ((pocketAt g t).state = .openState → t.line.causes.groupFull[k] = false) ∧
          (r.state = .full →
            t = taken t s ∧
            pocketAt g t = { PocketRec.fresh .openState r.enabled with recount := r.lateMark } ∧
            t.pocket.nextBundle = s.pocket.nextBundle) ∧
          (r.state ≠ .full → r.committed = r.confirmed → 0 < r.confirmed →
            t = taken t (closeBundle g r .partialRemoved s) ∧
            pocketAt g t = PocketRec.fresh .openState r.enabled ∧ closed k .partialRemoved t ∧
            (s.pocket.nextBundle ≠ 0xFFFFFFFF → t.pocket.nextBundle = s.pocket.nextBundle + 1)) ∧
          (r.state ≠ .full → r.confirmed < r.committed →
            let n := r.committed - r.confirmed
            let target := match r.closing with
              | .full => max (groupAt k s).strap n
              | .odd => n
            t = taken t (if 0 < r.confirmed then closeBundle g r .removedEarly s else s) ∧
            pocketAt g t = { r with
              committed := n, confirmed := 0, target := some target, contributions := [], recount := true, carried := true
              manyDeposits := false, lateMark := false, state := if target = n then .closing else .openState } ∧
            (r.confirmed = 0 → t.pocket.nextBundle = s.pocket.nextBundle) ∧
            (0 < r.confirmed → closed k .removedEarly t) ∧
            (0 < r.confirmed → s.pocket.nextBundle ≠ 0xFFFFFFFF → t.pocket.nextBundle = s.pocket.nextBundle + 1)) ∧
          (r.state ≠ .full → r.committed = 0 → r.confirmed = 0 →
            t = taken t (bump .clearIgnored s) ∧
            t.report.events[EventTally.clearIgnored.index] = s.report.events[EventTally.clearIgnored.index] + 1 ∧
            pocketAt g t = { r with recount := false, manyDeposits := false, carried := false } ∧
            t.pocket.nextBundle = s.pocket.nextBundle)))

/-! ### Deposits -/

/-- DECLARE: RANGE, DUPLICATE, FULL in order, or the entry joins the tail, bound exactly when a deposit of its id is held, answered
with that deposit's slot. DECLARE_CANCEL: NOT_FOUND, STATE, or the entry leaves. -/
def Obligations.DeclarationsKept : Prop :=
  ∀ (tag : Byte) (id : Word) (lines : List (Byte × Half)) (s : State),
    let declare := exec (.declare tag id lines) s
    let cancel := exec (.declareCancel tag id) s
    let table := s.deposit.declarations
    let faulty : Prop := lines = [] ∨ 16 < lines.length ∨ (∃ l ∈ lines, 31 < l.1.toNat ∨ l.2 = 0) ∨ ¬ (lines.map (·.1)).Nodup
    let declared : Prop := ∃ e ∈ table, e.id = id
    let entry (bound : Bool) : Declaration :=
      { id := id, lines := lines.map fun l => (BitVec.ofNat 5 l.1.toNat, l.2.toNat), bound := bound }
    (faulty → declare = .next (refuse tag 0x40 .range s)) ∧
    (¬ faulty → declared → declare = .next (refuse tag 0x40 .duplicate s)) ∧
    (¬ faulty → ¬ declared → 8 ≤ table.length → declare = .next (refuse tag 0x40 .full s)) ∧
    (¬ faulty → ¬ declared → table.length < 8 →
      ((∀ d ∈ s.deposit.deposits, d.id ≠ id) →
        let u : State := answer tag 0x40 (.slot none) s
        declare = .next { u with deposit := { s.deposit with declarations := table ++ [entry false] } }) ∧
      (∀ older d younger, s.deposit.deposits = older ++ d :: younger → (∀ x ∈ older, x.id ≠ id) → d.id = id →
        let u : State := answer tag 0x40 (.slot (some d.slot)) s
        declare = .next { u with deposit := { s.deposit with declarations := table ++ [entry true] } })) ∧
    (¬ declared → cancel = .next (refuse tag 0x41 .notFound s)) ∧
    (∀ older e newer, table = older ++ e :: newer → (∀ x ∈ older ++ newer, x.id ≠ id) → e.id = id →
      (e.bound = true → cancel = .next (refuse tag 0x41 .state s)) ∧
      (e.bound = false →
        let u : State := answer tag 0x41 .none s
        cancel = .next { u with deposit := { s.deposit with declarations := older ++ newer } }))

/-- The cases of a separator (R153). A repeat counts DEPOSIT_REPEAT. An id in use or no free slot loses the boundary (R154): the OPEN
deposit takes BOUNDARY_LOST, a DEPOSIT_FAULT report is handed on, the want of a slot raises DEPOSIT_FULL, and the pockets, groups,
declarations and route table stand. Otherwise the boundary is taken in the order of R155: the OPEN deposit becomes CLOSING; every OPEN
member, in ascending group and rotation order, whose deposit-pure bundle holds notes of that deposit, or of NONE when none was OPEN,
takes an odd close, and no other pocket changes (R115, R90); the deposit closes when nothing of it is in flight and the line is not
JAMMED, but for an end card taken in time (R157); with the end flag clear a new deposit opens, empty, in the free slot of lowest number,
and an unbound declaration of its id is bound; and a pending swap is taken with its ROUTES report of cause BOUNDARY (R50, R52). The card
goes to the new deposit, or to the one made CLOSING. A late SEPARATOR record takes its separator with its entry's number; the entry takes
reason LATE_RECORD and its mark, keeps its slot, and nothing is attributed again (R32, R157). -/
def Obligations.SeparatorCases : Prop :=
  (∀ (r : SeparatorRecord) (item : Word) (late : Bool) (s : State),
    (s.deposit.deposits.map (·.slot)).Nodup → (s.deposit.deposits.countP fun d => d.state == .openState) ≤ 1 →
    let t := (takeSeparator r item late s).1
    let slot := (takeSeparator r item late s).2
    let present := (openDeposit s).map (·.slot)
    let repeated : Prop := ∃ d, openDeposit s = some d ∧ d.id = r.depositId
    let inUse : Prop := ∃ d ∈ s.deposit.deposits, d.state = .closing ∧ d.id = r.depositId
    let full : Prop := ∀ k, (depositAt k s).isSome
    let flagged : List Deposit := s.deposit.deposits.map fun d => if d.state = .openState then { d with boundaryLost := true } else d
    let fault (noSlot : Bool) : State := emit (.depositFault
      { noSlot := noSlot, separatorId := r.depositId, parent := r.parent, cardItem := item
        openDeposit := (openDeposit s).map (·.id)
        slots := (List.finRange 4).map fun k => (depositAt k s).map fun d => (d.state, d.id) })
      { s with deposit := { s.deposit with deposits := flagged } }
    let key : DepositKey := match openDeposit s with
      | some o => .id o.id
      | none => .none
    let pure (p : PocketRec) : Bool :=
      p.state == .openState && decide (0 < p.committed) && p.depositPure && p.deposit == some key
    let shut : List Deposit := s.deposit.deposits.map fun d => if d.state = .openState then { d with state := .closing } else d
    let members : List Gate := (List.finRange 8).flatMap fun k => (groupAt k s).members
    let closed : State := (members.filter fun g => pure (pocketAt g s)).foldl (fun u g => oddClose g u)
      { s with deposit := { s.deposit with deposits := shut } }
    let tested : State := match openDeposit s with
      | some o => if r.endFlag = false ∨ late = true then testClose o.slot false closed else closed
      | none => closed
    let opened (k : SlotNo) : State := { tested with deposit := { tested.deposit with
      deposits := tested.deposit.deposits ++ [{
        slot := k, id := r.depositId, parent := r.parent, kind := r.kind, state := .openState, cardItem := item
        accepted := Vector.replicate 33 0, runOut := Vector.replicate 10 0, cards := 0, quarantine := 0, watchHits := 0
        lost := 0, inFlight := 0, itemCount := 0, firstItem := none, lastItem := none, boundaryLost := false }]
      declarations := tested.deposit.declarations.map fun e => if e.id = r.depositId then { e with bound := true } else e } }
    let swapped (id : Option Word) (u : State) : State :=
      if s.route.swapPending = true then
        emit (.routes { cardItem := some item, depositId := id, active := s.route.standby, standby := s.route.active })
          { u with route := { (exchange s).route with swapPending := false } }
      else u
    let ends : Prop := ∃ o, openDeposit s = some o ∧ (r.endFlag = false ∨ late = true) ∧ o.inFlight = 0 ∧ s.line.state ≠ .jammed
    (repeated → t = bump .depositRepeat s ∧ slot = present) ∧
    (¬ repeated → r.endFlag = false → inUse → slot = present ∧ t = fault false) ∧
    (¬ repeated → r.endFlag = false → ¬ inUse → full →
      slot = present ∧ t = raiseCause .depositFull (fault true) ∧ t.line.causes.depositFull = true) ∧
    (¬ repeated → (r.endFlag = true ∨ (¬ inUse ∧ ¬ full)) →
      (∀ g,
        let p := pocketAt g s
        pocketAt g t = if g ∈ members ∧ pure p = true then
          { p with target := some p.committed, closing := .odd, state := if p.confirmed = p.committed then .full else .closing }
        else p) ∧
      (∀ j, (groupAt j t).members = (groupAt j s).members ∧ (groupAt j t).current = (groupAt j s).current) ∧
      t.group.accs = s.group.accs ∧
      (¬ ends → tested = closed ∧ tested.deposit.deposits = shut ∧ tested.deposit.declarations = s.deposit.declarations ∧
        t.line.causes.depositFull = s.line.causes.depositFull) ∧
      (ends → tested.deposit.deposits = s.deposit.deposits.filter (fun d => d.state != .openState) ∧
        tested.deposit.declarations = s.deposit.declarations.filter
          (fun e => !(e.bound && (openDeposit s).any fun o => o.id == e.id)) ∧
        t.line.causes.depositFull = false) ∧
      (s.route.swapPending = false → t.route = s.route) ∧
      (s.route.swapPending = true →
        t.route.swapPending = false ∧ t.route.active = s.route.standby ∧ t.route.standby = s.route.active) ∧
      (r.endFlag = true → slot = present ∧ t = swapped none tested ∧ t.deposit = tested.deposit) ∧
      (r.endFlag = false → ∃ k, slot = some k ∧ (∀ d ∈ tested.deposit.deposits, d.slot ≠ k) ∧
        (∀ j, j < k → ∃ d ∈ tested.deposit.deposits, d.slot = j) ∧
        t = swapped (some r.depositId) (opened k) ∧ t.deposit = (opened k).deposit))) ∧
  (∀ (r : SeparatorRecord) (before after : List Entry) (e : Entry) (s : State),
    (∀ x ∈ s.edge.fifo, x.seq ≠ r.seq) → s.track.queue = before ++ e :: after →
    (∀ x ∈ before, ¬ (x.kind = .unread ∧ x.seq = r.seq ∧ x.lateMark = false)) →
    e.kind = .unread → e.seq = r.seq → e.lateMark = false →
    let x : Entry := { e with cls := none, denom := none, serial := none, reason := .lateRecord, lateMark := true, caseRef := none }
    exec (.separatorRecord r) s =
      .next (takeSeparator r e.item true { s with track := { s.track with queue := before ++ x :: after } }).1)

/-- A deposit's result is the first of the four cases that holds (R163); it closes when it is CLOSING with nothing in flight and the
line is not JAMMED: one DEPOSIT report is handed on, its bound declaration is removed, its slot freed, and DEPOSIT_FULL ended (R161).
The report's fields (R164): one line for each denomination with notes accepted or declared, in ascending code, UNCODED last, with its
declared count, 0 where the declaration has no line for it, and absent where no declaration was bound. The counts that reach it (R159,
R160): a confirmation at a member adds to the accepted count of the note's denomination, one at the
quarantine pocket to the quarantine count; an item's close adds to cards, to the run-out count of its reason, or to the lost count,
takes one from the in-flight count, and tests the deposit for close. An item without a slot changes no deposit. -/
def Obligations.DepositsReconciled : Prop :=
  (∀ (d : Deposit) (decl : Option Declaration),
    let incomplete : Prop := 0 < d.lost ∨ d.boundaryLost = true
    let differs (e : Declaration) : Prop :=
      (∃ k : Option Denom, d.accepted[acceptedIndex k] ≠ declaredCount e k) ∨ (∃ i : Fin 10, 0 < d.runOut[i]) ∨ 0 < d.quarantine
    (incomplete → depositResult d decl = .incomplete) ∧
    (¬ incomplete → decl = none → depositResult d decl = .undeclared) ∧
    (∀ e, ¬ incomplete → decl = some e → differs e → depositResult d decl = .difference) ∧
    (∀ e, ¬ incomplete → decl = some e → ¬ differs e → depositResult d decl = .balanced)) ∧
  (∀ (d : Deposit) (decl : Option Declaration) (after : Bool),
    let declared (k : Option Denom) : Option Nat := decl.map fun e => declaredCount e k
    let denoms : List (Option Denom) := (List.range 32).map (fun n => some (BitVec.ofNat 5 n)) ++ [none]
    depositReport d decl after = .deposit
      { id := d.id, parent := d.parent, kind := d.kind, result := depositResult d decl, declared := decl.isSome
        lines := (denoms.filter fun k => 0 < d.accepted[acceptedIndex k] || 0 < (declared k).getD 0).map fun k =>
          { denom := k, accepted := d.accepted[acceptedIndex k], declared := declared k }
        runOut := d.runOut, cards := d.cards, quarantine := d.quarantine, watchHits := d.watchHits, lost := d.lost
        itemCount := d.itemCount, cardItem := d.cardItem, firstItem := d.firstItem, lastItem := d.lastItem
        boundaryLost := d.boundaryLost, afterRecovery := after }) ∧
  (∀ e : Declaration, declaredCount e none = 0 ∧
    (∀ d : Denom, (∀ l ∈ e.lines, l.1 ≠ d) → declaredCount e (some d) = 0) ∧
    (∀ before d n after, e.lines = before ++ (d, n) :: after → (∀ l ∈ before, l.1 ≠ d) → declaredCount e (some d) = n)) ∧
  (∀ s : State,
    ((∀ d ∈ s.deposit.deposits, d.state ≠ .openState) → openDeposit s = none) ∧
    (∀ older d younger, s.deposit.deposits = older ++ d :: younger → (∀ x ∈ older, x.state ≠ .openState) →
      d.state = .openState → openDeposit s = some d) ∧
    (∀ k : SlotNo, (∀ d ∈ s.deposit.deposits, d.slot ≠ k) → depositAt k s = none) ∧
    (∀ older d younger, s.deposit.deposits = older ++ d :: younger → (∀ x ∈ older, x.slot ≠ d.slot) →
      depositAt d.slot s = some d) ∧
    (∀ slot : Option SlotNo, depositId slot s = (slot.bind (depositAt · s)).map (·.id))) ∧
  (∀ (k : SlotNo) (d : Deposit) (after : Bool) (s : State), depositAt k s = some d →
    ((d.state = .openState ∨ 0 < d.inFlight ∨ s.line.state = .jammed) → testClose k after s = s) ∧
    (d.state = .closing → d.inFlight = 0 → s.line.state ≠ .jammed →
      let u : State := emit (depositReport d (s.deposit.declarations.find? fun e => e.id == d.id && e.bound) after) s
      testClose k after s = { u with
        deposit := { s.deposit with
          deposits := s.deposit.deposits.filter fun x => x.slot != k
          declarations := s.deposit.declarations.filter fun e => !(e.id == d.id && e.bound) }
        line := { u.line with causes := { u.line.causes with depositFull := false } } })) ∧
  (∀ (e : Entry) (close : ItemClose) (s : State),
    let card (d : Deposit) : Deposit := { d with cards := min (d.cards + 1) 65535 }
    let out (i : Fin 10) (d : Deposit) : Deposit := { d with runOut := d.runOut.set i (min (d.runOut[i] + 1) 65535) }
    let counted (d : Deposit) : Deposit := match close, e.dest with
      | .lost, _ => { d with lost := min (d.lost + 1) 65535 }
      | .shadowed, _ => if e.kind = .card then card d else out 4 d
      | .confirmed, .gated _ => d
      | .confirmed, .runOut => if e.kind = .card then card d else match e.reason with
        | .unread => out 0 d
        | .lateRecord => out 1 d
        | .length => out 2 d
        | .pitch => out 3 d
        | .pitchShadowed => out 4 d
        | .watchUnheld => out 5 d
        | .noRoute => out 6 d
        | .noSpace => out 7 d
        | .late => out 8 d
        | .routed => out 9 d
        | .placed | .watch | .card | .noDeposit => d
    (e.slot = none → closeInDeposit e close s = s) ∧
    (∀ k, e.slot = some k → closeInDeposit e close s = testClose k false { s with deposit := { s.deposit with
      deposits := s.deposit.deposits.map fun d => if d.slot = k then { counted d with inFlight := d.inFlight - 1 } else d } })) ∧
  (∀ (slot : Option SlotNo) (denom : Option Denom) (s : State),
    let change (f : Deposit → Deposit) : State := { s with deposit := { s.deposit with
      deposits := s.deposit.deposits.map fun d => if some d.slot = slot then f d else d } }
    (acceptedIndex denom).val = (match denom with
      | some d => d.toNat
      | none => 32) ∧
    countAccepted slot denom s = change (fun d => { d with
      accepted := d.accepted.set (acceptedIndex denom) (min (d.accepted[acceptedIndex denom] + 1) 65535) }) ∧
    countQuarantine slot s = change (fun d => { d with quarantine := min (d.quarantine + 1) 65535 }))

/-! ### The line -/

/-- LINE_START, LINE_STOP and LINE_RESUME in every line state: refused STATE or CAUSES, accepted without a change, or a change of
state with its outputs, resume target, stall timer and LINE report, and the drain end at once when both queues are empty. BACKLOG
set by the request's own reports is taken when it is done (notes/assumptions/7.md). -/
def Obligations.LineMoves : Prop :=
  ∀ (tag : Byte) (s : State),
    let u (code : Byte) : State := hand (.answer tag code none .none) s
    let report (from_ to_ : LineState) (trigger : Trigger) (causes : CauseSet) : Report := .line
      { from_ := from_, to_ := to_, trigger := trigger, cause := none, causes := causes, resume := none, position := s.edge.position }
    let empty : Prop := s.track.queue = [] ∧ s.edge.fifo = []
    let drained (causes : CauseSet) (d : State) : State := hand (report .drain .idle .drainEnd causes) { d with
      line := { d.line with state := .idle, resume := none, runOut := false, feedEn := false }
      track := { d.track with stall := none } }
    ((s.line.state ≠ .idle ∨ s.track.loaded = false) → exec (.lineStart tag) s = .next (refuse tag 0x50 .state s)) ∧
    (s.line.state = .idle → s.track.loaded = true → s.line.causes ≠ CauseSet.empty →
      exec (.lineStart tag) s = .next (emit (.answer tag 0x50 (some .causes) (.causes s.line.causes)) s)) ∧
    (s.line.state = .idle → s.track.loaded = true → s.line.causes = CauseSet.empty →
      exec (.lineStart tag) s = .next (takeBacklog (hand (report .idle .run .lineStart CauseSet.empty) { u 0x50 with
        line := { s.line with state := .run, resume := none, runOut := true, feedEn := true }
        track := { s.track with stall := some s.track.startTime }
        edge := { s.edge with gap := none } }))) ∧
    (s.line.state = .jammed → exec (.lineStop tag) s = .next (refuse tag 0x51 .state s)) ∧
    ((s.line.state = .idle ∨ s.line.state = .drain) → exec (.lineStop tag) s = .next (takeBacklog (u 0x51))) ∧
    (s.line.state = .halt → exec (.lineStop tag) s = .next (takeBacklog { u 0x51 with line := { s.line with resume := some .drain } })) ∧
    (s.line.state = .run →
      let d : State := hand (report .run .drain .lineStop s.line.causes) { u 0x51 with
        line := { s.line with state := .drain, resume := none, runOut := true, feedEn := false } }
      (empty → exec (.lineStop tag) s = .next (takeBacklog (drained s.line.causes d))) ∧
      (¬ empty → exec (.lineStop tag) s = .next (takeBacklog d))) ∧
    (s.line.state ≠ .halt → exec (.lineResume tag) s = .next (refuse tag 0x53 .state s)) ∧
    (s.line.state = .halt → { s.line.causes with operator := false, command := false } ≠ CauseSet.empty →
      exec (.lineResume tag) s = .next (emit (.answer tag 0x53 (some .causes) (.causes s.line.causes)) s)) ∧
    (s.line.state = .halt → { s.line.causes with operator := false, command := false } = CauseSet.empty →
      let moved (to_ : LineState) (feed : Bool) : State := hand (report .halt to_ .lineResume CauseSet.empty) { u 0x53 with
        line := { s.line with state := to_, causes := CauseSet.empty, resume := none, runOut := true, feedEn := feed }
        track := { s.track with stall := some s.track.startTime } }
      (s.line.resume = some .run → exec (.lineResume tag) s = .next (takeBacklog (moved .run true))) ∧
      (s.line.resume = some .drain → empty →
        exec (.lineResume tag) s = .next (takeBacklog (drained CauseSet.empty (moved .drain false)))) ∧
      (s.line.resume = some .drain → ¬ empty → exec (.lineResume tag) s = .next (takeBacklog (moved .drain false))))

/-- LINE_HALT and the operator stop in every line state: no effect in IDLE, a held cause added in HALT, and a halt from RUN and DRAIN
with that resume target, both outputs low and the stall timer stopped; in JAMMED LINE_HALT is refused STATE and the operator stop has
no effect. BACKLOG set by their own reports is taken when they are done (notes/assumptions/7.md). -/
def Obligations.LineHalts : Prop :=
  ∀ (tag : Byte) (s : State), LineLaw s →
    let u : State := hand (.answer tag 0x52 none .none) s
    let report (trigger : Trigger) (causes : CauseSet) (resume : Resume) : Report := .line
      { from_ := s.line.state, to_ := .halt, trigger := trigger, cause := none, causes := causes, resume := some resume
        position := s.edge.position }
    let halted (t : State) (trigger : Trigger) (causes : CauseSet) (resume : Resume) : State :=
      takeBacklog (hand (report trigger causes resume) { t with
        line := { s.line with state := .halt, causes := causes, resume := some resume, runOut := false, feedEn := false }
        track := { s.track with stall := none } })
    let commanded : CauseSet := { s.line.causes with command := true }
    let stopped : CauseSet := { s.line.causes with operator := true }
    (s.line.state = .jammed → exec (.lineHalt tag) s = .next (refuse tag 0x52 .state s)) ∧
    (s.line.state = .idle → exec (.lineHalt tag) s = .next (takeBacklog u)) ∧
    (s.line.state = .halt → exec (.lineHalt tag) s = .next (takeBacklog { u with line := { s.line with causes := commanded } })) ∧
    (s.line.state = .run → exec (.lineHalt tag) s = .next (halted u .lineHalt commanded .run)) ∧
    (s.line.state = .drain → exec (.lineHalt tag) s = .next (halted u .lineHalt commanded .drain)) ∧
    ((s.line.state = .idle ∨ s.line.state = .jammed) → exec .operatorStop s = .next s) ∧
    (s.line.state = .halt → exec .operatorStop s = .next { s with line := { s.line with causes := stopped } }) ∧
    (s.line.state = .run → exec .operatorStop s = .next (halted s .operator stopped .run)) ∧
    (s.line.state = .drain → exec .operatorStop s = .next (halted s .operator stopped .drain))

/-- RECOVER: refused STATE outside JAMMED. In JAMMED the line comes to IDLE without a jam in force, OPERATOR and COMMAND are removed,
the Loss List is empty, the edge sequence counter takes the next sequence, and every CLOSING deposit with nothing in flight closes with
its bound declaration; everything else of the tables, pockets and groups stands. Its reports, with room for them: the answer, the
RECOVERY report with the jam in force and every loss record in list order (R186), the LINE report, then those of the deposits. BACKLOG
set by the request's own reports is taken when it is done, so the LINE report's cause set does not hold one that the answer or the
RECOVERY report sets: the model's reading (notes/assumptions/7.md). -/
def Obligations.RecoverTaken : Prop :=
  ∀ (tag next : Byte) (s : State),
    (s.line.state ≠ .jammed → exec (.recover tag next) s = .next (refuse tag 0x54 .state s)) ∧
    (s.line.state = .jammed → (s.deposit.deposits.map (·.slot)).Nodup →
      ∃ t, exec (.recover tag next) s = .next t ∧
        t.line.state = .idle ∧ t.line.jam = none ∧ t.line.resume = none ∧ t.line.runOut = false ∧ t.line.feedEn = false ∧
        t.line.causes.operator = false ∧ t.line.causes.command = false ∧
        t.line.causes.quarantineFull = s.line.causes.quarantineFull ∧ t.line.causes.groupFull = s.line.causes.groupFull ∧
        t.track = { s.track with losses := [], stall := none } ∧ t.edge = { s.edge with nextSeq := next } ∧
        t.deposit = { s.deposit with
          deposits := s.deposit.deposits.filter fun d => !(d.state == .closing && d.inFlight == 0)
          declarations := s.deposit.declarations.filter fun e =>
            !(e.bound && s.deposit.deposits.any fun d => d.state == .closing && d.inFlight == 0 && d.id == e.id) } ∧
        t.feed = s.feed ∧ t.route = s.route ∧ t.watch = s.watch ∧ t.pocket = s.pocket ∧ t.group = s.group ∧
        (let causes : CauseSet := { s.line.causes with operator := false, command := false }
         let told : State := hand (.recovery
           { jam := s.line.jam, next := next
             losses := s.track.losses.map fun l =>
               { item := l.item, kind := l.kind, depositId := l.depositId, dest := l.dest, denom := l.denom } })
           (hand (.answer tag 0x54 none .none) s)
         let idle : State := hand (.line
           { from_ := .jammed, to_ := .idle, trigger := .recover, cause := none, causes := causes, resume := none
             position := s.edge.position })
           { told with
             line := { s.line with state := .idle, causes := causes, resume := none, jam := none, runOut := false, feedEn := false }
             track := { s.track with losses := [], stall := none }
             edge := { s.edge with nextSeq := next } }
         t = takeBacklog (s.deposit.deposits.foldl (fun u d => testClose d.slot true u) idle)) ∧
        (s.report.queue.length ≤ 61 → ∃ later, t.report.queue = s.report.queue ++
          { report := .answer tag 0x54 none .none, loss := s.report.lossMark } ::
          { report := .recovery
              { jam := s.line.jam, next := next
                losses := s.track.losses.map fun l =>
                  { item := l.item, kind := l.kind, depositId := l.depositId, dest := l.dest, denom := l.denom } }
            loss := 0 } ::
          { report := .line
              { from_ := .jammed, to_ := .idle, trigger := .recover, cause := none
                causes := { s.line.causes with operator := false, command := false }, resume := none, position := s.edge.position }
            loss := 0 } :: later))

/-- LINE_RESET from any state: the queues, lists, counts, bundles, accumulators, deposits and causes of the line are cleared, the
line is IDLE, DISCARDED counts every item, the answer carries the summary when it can be admitted, and the configuration, the
counters and the Feed Receiver stand. With room for them its reports are the answer, a notice of DISCARDED where one is due, and, from
every line state but IDLE, the LINE report with trigger LINE_RESET (R187, R168). That BACKLOG is taken when the request is done is the model's reading
(notes/assumptions/24.md). That the closing kind of an empty bundle is FULL and its deposit-pure flag clear is the model's choice
(notes/assumptions/27.md). -/
def Obligations.LineResetTaken : Prop :=
  ∀ (tag : Byte) (s : State), ∃ t, exec (.lineReset tag) s = .next t ∧
    let items := s.edge.fifo.length + s.track.queue.length + s.track.waiting.toList.length
    let emptied : List Gate := allGates.filter fun g => (pocketAt g s).state != .unassigned && 0 < (pocketAt g s).committed
    t.feed = s.feed ∧ t.route = s.route ∧ t.watch = s.watch ∧ t.freeCount = s.freeCount ∧
    t.edge = { s.edge with fifo := [], gap := none } ∧
    t.track = { s.track with queue := [], waiting := none, losses := [], gates := Vector.replicate 15 false, stall := none } ∧
    t.pocket = { s.pocket with
      pockets := t.pocket.pockets, manifest := [], runOut := 0, runOutReasons := Vector.replicate 11 0 } ∧
    (∀ g, pocketAt g t = if (pocketAt g s).state = .unassigned then pocketAt g s
      else PocketRec.fresh .openState (pocketAt g s).enabled) ∧
    t.group.accs = Vector.replicate 16 none ∧ t.group.nextBrick = s.group.nextBrick ∧
    (∀ k, groupAt k t = { groupAt k s with
      current := (groupAt k s).members.head?
      armed := decide ((groupAt k s).lowThreshold < (groupAt k s).members.countP fun g =>
        (pocketAt g t).state == .openState && (pocketAt g t).enabled) }) ∧
    t.deposit = { s.deposit with deposits := [], declarations := s.deposit.declarations.filter fun d => !d.bound } ∧
    t.line.state = .idle ∧ t.line.resume = none ∧ t.line.jam = none ∧ t.line.runOut = false ∧ t.line.feedEn = false ∧
    t.line.causes = { CauseSet.empty with backlog := t.line.causes.backlog } ∧
    t.report.events[EventTally.discarded.index] = s.report.events[EventTally.discarded.index] + BitVec.ofNat 16 items ∧
    (s.report.queue.length < 64 → ∃ later, t.report.queue = s.report.queue ++
      { report := .answer tag 0x55 none (.reset
          { items := items, losses := s.track.losses.length, bundles := emptied.length
            notes := (emptied.map fun g => (pocketAt g s).confirmed).sum, runOut := s.pocket.runOut
            deposits := s.deposit.deposits.length, declarations := s.deposit.declarations.countP (·.bound) })
        loss := s.report.lossMark } :: later) ∧
    (items < 65536 → s.report.queue.length ≤ 61 → ∃ first notices, notices.length ≤ 1 ∧
      (∀ q ∈ notices, ∃ x, q.report = .tally x ∧ x.notice = true) ∧
      t.report.queue = s.report.queue ++ first :: notices ++
        if s.line.state = .idle then []
        else [{ report := .line
                  { from_ := s.line.state, to_ := .idle, trigger := .lineReset, cause := none
                    causes := { CauseSet.empty with backlog := s.line.causes.backlog }, resume := none
                    position := s.edge.position }
                loss := 0 }])

/-! ### The track -/

/-- Each of the two expiries of a divert window sets the opened flags of the entries whose open position is reached and the closed flags
of those whose close position is reached (taking both together is the model's choice, notes/assumptions/20.md); after it a gate is in
divert exactly when some entry destined to it has its window opened and not closed. -/
def Obligations.GatesFollowWindows : Prop :=
  (∀ (queue : List Entry) (g : Gate), (gatesOf queue)[g] = true ↔ ∃ e ∈ queue, e.dest = .gated g ∧
    ∃ w, e.divert = some w ∧ w.opened = true ∧ w.closed = false) ∧
  (∀ s : State,
    let x := s.edge.position
    let marked (e : Entry) : Entry := { e with divert := e.divert.map fun w =>
      { w with opened := w.opened || decide (w.opens = x), closed := w.closed || decide (w.closes = x) } }
    ∃ t, exec .divertWindowOpen s = .next t ∧ exec .divertWindowClose s = .next t ∧
      t = { s with track := { s.track with queue := s.track.queue.map marked, gates := t.track.gates } } ∧
      ∀ g : Gate, t.track.gates[g] = true ↔ ∃ e ∈ t.track.queue, e.dest = .gated g ∧
        ∃ w, e.divert = some w ∧ w.opened = true ∧ w.closed = false)

/-- The end of an arrival window with the item still in the queue: a MISSING jam of the oldest such item in RUN, DRAIN and HALT; in
IDLE every such item leaves the queue, and where it is one, its gated place is withdrawn, it is lost in its deposit, which closes when
CLOSING with nothing more in flight, and a TRACE report is handed on whatever its trace flag. Nothing in JAMMED. That the oldest of
several is named, that one place is withdrawn with others in flight, and that nothing happens when no window ends are the model's
readings (notes/assumptions/25.md, 10.md, 4.md), and so are the closing kind FULL and the clear deposit-pure flag of a bundle emptied by
it (notes/assumptions/27.md). The end of the stall interval is a STALL jam; a stopped timer has no expiry (4.md). -/
def Obligations.MissingItemsAndStalls : Prop :=
  ∀ s : State,
    let ends (e : Entry) : Prop := e.arrival.last = s.edge.position
    ((s.line.state = .jammed ∨ ∀ e ∈ s.track.queue, ¬ ends e) → exec .arrivalWindowEnd s = .next s) ∧
    (∀ before e after, s.track.queue = before ++ e :: after → (∀ y ∈ before, ¬ ends y) → ends e →
      (s.line.state ≠ .jammed → s.line.state ≠ .idle → exec .arrivalWindowEnd s = .next (enterJam (.missing e.item) s)) ∧
      (s.line.state = .idle → (∀ y ∈ after, ¬ ends y) →
        ∃ t, exec .arrivalWindowEnd s = .next t ∧ t.track.queue = before ++ after ∧ t.line.state = .idle ∧ t.edge = s.edge ∧
          (∀ g, e.dest ≠ .gated g → pocketAt g t = pocketAt g s) ∧
          (let removed : State := { s with track := { s.track with
             queue := before ++ after, gates := gatesOf (before ++ after) } }
           let put (g : Gate) : State := { removed with pocket := { s.pocket with pockets := s.pocket.pockets.set g (pocketAt g t) } }
           let withdrawn : State := match e.dest with
             | .runOut => removed
             | .gated g =>
               if s.pocket.quarantine = some g then
                 { put g with line := { s.line with causes := { s.line.causes with quarantineFull :=
                     if (pocketAt g s).state = .full ∧ (pocketAt g t).state ≠ .full then false
                     else s.line.causes.quarantineFull } } }
               else memberChanged g (pocketAt g s).state none (put g)
           t = closeItem e .lost none true withdrawn) ∧
          (∀ g, e.dest = .gated g →
            let r := pocketAt g s
            let reopened : PocketState := if r.state = .closing then .openState else r.state
            (s.pocket.quarantine = some g → pocketAt g t = { r with
              committed := r.committed - 1, recount := true
              state := if r.state = .full ∧ r.committed - 1 < s.pocket.limit then .openState else r.state }) ∧
            (s.pocket.quarantine ≠ some g →
              (r.committed - 1 = 0 → r.confirmed = 0 → pocketAt g t = PocketRec.fresh reopened r.enabled) ∧
              ((0 < r.committed - 1 ∨ 0 < r.confirmed) → pocketAt g t = { r with
                committed := r.committed - 1, state := reopened, recount := r.recount || decide (0 < r.confirmed) }))) ∧
          (∀ k d, e.slot = some k → depositAt k s = some d → d.state = .openState →
            depositAt k t = some { d with lost := min (d.lost + 1) 65535, inFlight := d.inFlight - 1 }) ∧
          (∀ k d, e.slot = some k → depositAt k s = some d → d.state = .closing →
            depositAt k t = if d.inFlight ≤ 1 then none
              else some { d with lost := min (d.lost + 1) 65535, inFlight := d.inFlight - 1 }) ∧
          (s.report.queue.length < 47 → ∃ q ∈ t.report.queue, q.report = .trace
            { item := e.item, kind := e.kind, seq := e.seq, cls := e.cls, denom := e.denom, serial := e.serial
              depositId := (e.slot.bind (depositAt · s)).map (·.id), lead := e.lead, length := e.length, gap := e.gap
              dest := e.dest, shadow := e.shadow.map (·.pocket), reason := e.reason, route := e.route, caseRef := e.caseRef
              close := .lost, position := s.edge.position, arrival := none }))) ∧
    (s.line.state = .idle → ∃ t, exec .arrivalWindowEnd s = .next t ∧
      t.track.queue = s.track.queue.filter fun e => e.arrival.last != s.edge.position) ∧
    (s.track.stall = none → exec .stallTimerExpiry s = .next s) ∧
    (s.track.stall ≠ none → s.line.state ≠ .jammed →
      exec .stallTimerExpiry s = .next (enterJam .stall { s with track := { s.track with stall := none } }))

/-- An arrival pulse. With no candidate it is counted, and in RUN, DRAIN and HALT it marks the pocket for a recount and is a STRAY jam.
The oldest candidate leaves the queue: at its destination it is confirmed into the run-out counts, the manifest or the bundle, with
the contribution of its deposit (R85), the ACCEPTED tally and the deposit's accepted or quarantine count; at its shadow pocket it is
counted in neither pocket, whose bundle or late mark takes the recount. Then the item closes (R140): its RUNOUT tally, its TRACE
report when its flag is set (R142), its deposit's counts, in the model's order (notes/assumptions/15.md); and the drain end is tested
last (R176, notes/assumptions/8.md). -/
def Obligations.ArrivalsTaken : Prop :=
  (pocketOf 0 = .runOut ∧ ∀ (p : Fin 16) (g : Gate), pocketOf p = .gated g ↔ p.val = g.val + 1) ∧
  (∀ s : State, recountMark .runOut s = s ∧ ∀ g : Gate,
    let r := pocketAt g s
    let put (r1 : PocketRec) : State := { s with pocket := { s.pocket with pockets := s.pocket.pockets.set g r1 } }
    (s.pocket.quarantine = some g → recountMark (.gated g) s = put { r with recount := true }) ∧
    (s.pocket.quarantine ≠ some g → recountMark (.gated g) s = match r.state with
      | .openState | .closing => put { r with recount := true }
      | .full => put { r with lateMark := true }
      | .unassigned => s)) ∧
  (∀ (p : Fin 16) (s : State),
    let removed (queue : List Entry) : State := { s with track := { s.track with queue := queue, gates := gatesOf queue } }
    let within (w : Window) : Prop := (s.edge.position - w.first).toNat ≤ (w.last - w.first).toNat
    let here (e : Entry) : Prop := e.dest = pocketOf p ∧ within e.arrival
    let shaded (e : Entry) : Prop := ∃ h, e.shadow = some h ∧ Dest.gated h.pocket = pocketOf p ∧ within h.window
    ((∀ e ∈ s.track.queue, ¬ here e ∧ ¬ shaded e) →
      ((s.line.state = .idle ∨ s.line.state = .jammed) → exec (.arrivalPulse p) s = .next (bump .strayArrivals s)) ∧
      (s.line.state ≠ .idle → s.line.state ≠ .jammed →
        exec (.arrivalPulse p) s = .next (enterJam (.stray p) (recountMark (pocketOf p) (bump .strayArrivals s))))) ∧
    (∀ before e after, s.track.queue = before ++ e :: after → (∀ y ∈ before, ¬ here y ∧ ¬ shaded y) →
      (here e →
        ∃ t, exec (.arrivalPulse p) s = .next t ∧ t.track.queue = before ++ after ∧ t.track.gates = gatesOf (before ++ after) ∧
          t = drainEnd (closeItem e .confirmed (some p) e.trace (confirmAt e (removed (before ++ after)))) ∧
          t.edge = s.edge ∧ t.route = s.route ∧ t.watch = s.watch ∧
          (pocketOf p = .runOut →
            t.pocket = { s.pocket with runOut := min (s.pocket.runOut + 1) 65535, runOutReasons := t.pocket.runOutReasons } ∧
            ∀ i : Fin 11, t.pocket.runOutReasons[i] =
              if e.reason.runOutIndex = some i then min (s.pocket.runOutReasons[i] + 1) 65535 else s.pocket.runOutReasons[i]) ∧
          (∀ g, pocketOf p = .gated g →
            let r := pocketAt g s
            (∀ h, h ≠ g → pocketAt h t = pocketAt h s) ∧
            (s.pocket.quarantine = some g →
              pocketAt g t = { r with confirmed := r.confirmed + 1 } ∧
              t.pocket.manifest = s.pocket.manifest ++ [{ item := e.item, depositId := depositId e.slot s, denom := e.denom
                                                          serial := e.serial, caseRef := e.caseRef, reason := e.reason }]) ∧
            (s.pocket.quarantine ≠ some g →
              (pocketAt g t).confirmed = r.confirmed + 1 ∧ (pocketAt g t).committed = r.committed ∧
              (pocketAt g t).target = r.target ∧
              (pocketAt g t).state = if r.target = some (r.confirmed + 1) then .full else r.state))) ∧
      (shaded e → e.dest ≠ pocketOf p →
        ∃ g t, exec (.arrivalPulse p) s = .next t ∧ pocketOf p = .gated g ∧ t.track.queue = before ++ after ∧
          t = drainEnd (closeItem { e with reason := .pitchShadowed } .shadowed (some p) e.trace
            (recountMark (.gated g) (removed (before ++ after)))) ∧
          let r := pocketAt g s
          (∀ h, h ≠ g → pocketAt h t = pocketAt h s) ∧
          t.pocket.runOut = s.pocket.runOut ∧ t.pocket.manifest = s.pocket.manifest ∧
          ((s.pocket.quarantine = some g ∨ r.state = .openState ∨ r.state = .closing) → pocketAt g t = { r with recount := true }) ∧
          (s.pocket.quarantine ≠ some g → r.state = .full → pocketAt g t = { r with lateMark := true }) ∧
          (s.pocket.quarantine ≠ some g → r.state = .unassigned → pocketAt g t = r)))) ∧
  (∀ (e : Entry) (g : Gate) (s : State), e.dest = .gated g →
    let r := pocketAt g s
    let key : DepositKey := match depositId e.slot s with
      | some w => .id w
      | none => .none
    let known : Prop := ∃ n, (key, n) ∈ r.contributions
    let full : Prop := r.target = some (r.confirmed + 1)
    let put (contributions : List (DepositKey × Nat)) (many : Bool) : PocketRec := { r with
      confirmed := r.confirmed + 1, contributions := contributions, manyDeposits := many
      state := if r.target = some (r.confirmed + 1) then .full else r.state }
    let counted (r1 : PocketRec) : State :=
      let u := countAccepted e.slot e.denom { s with pocket := { s.pocket with pockets := s.pocket.pockets.set g r1 } }
      match e.denom with
      | some d => takeBacklog (bumpQuiet (.accepted d) u)
      | none => u
    let result (r1 : PocketRec) : Prop :=
      (¬ full → confirmAt e s = counted r1) ∧
      (full → confirmAt e s = memberChanged g r.state none (closeBundle g r1 (match r.closing with
        | .full => .full
        | .odd => .odd) (counted r1)))
    (s.pocket.quarantine = some g → confirmAt e s = countQuarantine e.slot { s with pocket := { s.pocket with
      pockets := s.pocket.pockets.set g { r with confirmed := r.confirmed + 1 }
      manifest := s.pocket.manifest ++ [{ item := e.item, depositId := depositId e.slot s, denom := e.denom
                                          serial := e.serial, caseRef := e.caseRef, reason := e.reason }] } }) ∧
    (s.pocket.quarantine ≠ some g →
      (r.depositPure = true → result (put r.contributions r.manyDeposits)) ∧
      (r.depositPure = false → known →
        result (put (r.contributions.map fun p => if p.1 = key then (p.1, p.2 + 1) else p) r.manyDeposits)) ∧
      (r.depositPure = false → ¬ known → r.contributions.length < 8 →
        result (put (r.contributions ++ [(key, 1)]) r.manyDeposits)) ∧
      (r.depositPure = false → ¬ known → 8 ≤ r.contributions.length → result (put r.contributions true)))) ∧
  (∀ (e : Entry) (close : ItemClose) (p : Option (Fin 16)) (traced : Bool) (s : State),
    let u := tallyClose e close s
    closeItem e close p traced s = closeInDeposit e close (if traced then emit (.trace
      { item := e.item, kind := e.kind, seq := e.seq, cls := e.cls, denom := e.denom, serial := e.serial
        depositId := (e.slot.bind (depositAt · s)).map (·.id), lead := e.lead, length := e.length, gap := e.gap, dest := e.dest
        shadow := e.shadow.map (·.pocket), reason := e.reason, route := e.route, caseRef := e.caseRef
        close := close, position := s.edge.position, arrival := p }) u else u)) ∧
  (∀ s : State,
    let ended : State := { s with
      line := { s.line with state := .idle, resume := none, runOut := false, feedEn := false }
      track := { s.track with stall := none } }
    (s.line.state = .drain → s.track.queue = [] → s.edge.fifo = [] → drainEnd s = takeBacklog (hand (.line
      { from_ := .drain, to_ := .idle, trigger := .drainEnd, cause := none, causes := s.line.causes, resume := none
        position := s.edge.position }) ended)) ∧
    ((s.line.state ≠ .drain ∨ s.track.queue ≠ [] ∨ s.edge.fifo ≠ []) → drainEnd s = takeBacklog s))

/-- A jam cause: ignored in JAMMED. The entry into JAMMED takes every item off the books: both queues are empty and their items in
the Loss List, every gate is through, the outputs are low, the stall timer stopped, each pocket's committed count and each deposit's
in-flight count go down by the items lost, and JAMS goes up by one. A member that lost items takes RECOUNT when notes of its bundle
are confirmed, returns from CLOSING to OPEN, and is empty when nothing of its bundle is left; the quarantine pocket takes RECOUNT
and is OPEN again below its limit (R91, R100). The order is that of R144 and R182: the losses, the withdrawals pocket by pocket, one
TRACE report for each lost item whose trace flag is set, in the order of the Loss List, the deposits, the held edges, JAMS, the JAM
report and the LINE report (R142, R168, R183). The counters, the tables and OPERATOR and COMMAND stand. That the closing kind of an
empty bundle is FULL and its deposit-pure flag clear is the model's choice (notes/assumptions/27.md). -/
def Obligations.EntryIntoJammed : Prop :=
  ∀ (cause : JamCause) (s : State),
    (s.line.state = .jammed → handJam cause s = s) ∧
    (s.line.state ≠ .jammed → enterJam cause s = handJam cause s) ∧
    (s.line.state ≠ .jammed →
      let t := handJam cause s
      let lost := s.track.queue ++ s.track.waiting.toList
      t.line.state = .jammed ∧ t.line.jam = some cause ∧ t.line.resume = none ∧ t.line.runOut = false ∧ t.line.feedEn = false ∧
      t.line.causes.operator = s.line.causes.operator ∧ t.line.causes.command = s.line.causes.command ∧
      t.track = { s.track with
        queue := [], waiting := none, gates := Vector.replicate 15 false, stall := none
        losses := s.track.losses ++
          (lost.map fun e => { item := e.item, kind := e.kind, depositId := depositId e.slot s, dest := e.dest, denom := e.denom
                               caseRef := e.caseRef }) ++
          s.edge.fifo.map fun e => { item := e.item, kind := .unread, depositId := none, dest := .runOut, denom := none
                                     caseRef := none } } ∧
      t.edge = { s.edge with fifo := [] } ∧ t.feed = s.feed ∧ t.route = s.route ∧ t.watch = s.watch ∧
      (∀ g, (pocketAt g t).committed = (pocketAt g s).committed - lost.countP (fun e => e.dest == .gated g) ∧
        (pocketAt g t).confirmed = (pocketAt g s).confirmed) ∧
      t.deposit = { s.deposit with deposits := s.deposit.deposits.map fun d =>
        let n := lost.countP fun e => e.slot == some d.slot
        { d with lost := min (d.lost + n) 65535, inFlight := d.inFlight - n } } ∧
      t.report.events[EventTally.jams.index] = s.report.events[EventTally.jams.index] + 1 ∧
      (∀ g,
        let r := pocketAt g s
        let n := lost.countP fun e => e.dest == .gated g
        let reopened : PocketState := if r.state = .closing then .openState else r.state
        (n = 0 → pocketAt g t = r) ∧
        (0 < n → s.pocket.quarantine = some g → pocketAt g t = { r with
          committed := r.committed - n, recount := true
          state := if r.state = .full ∧ r.committed - n < s.pocket.limit then .openState else r.state }) ∧
        (0 < n → s.pocket.quarantine ≠ some g →
          (r.committed - n = 0 → r.confirmed = 0 → pocketAt g t = PocketRec.fresh reopened r.enabled) ∧
          ((0 < r.committed - n ∨ 0 < r.confirmed) → pocketAt g t = { r with
            committed := r.committed - n, state := reopened, recount := r.recount || decide (0 < r.confirmed) }))) ∧
      let entered : State := { s with
        line := { s.line with state := .jammed, resume := none, jam := some cause, runOut := false, feedEn := false }
        track := { s.track with
          queue := [], waiting := none, gates := Vector.replicate 15 false, stall := none
          losses := s.track.losses ++ lost.map fun e =>
            { item := e.item, kind := e.kind, depositId := depositId e.slot s, dest := e.dest, denom := e.denom
              caseRef := e.caseRef } } }
      let withdrawn : State := (List.finRange 15).foldl (fun (u : State) (g : Gate) =>
        let put : State := { u with pocket := { u.pocket with pockets := u.pocket.pockets.set g (pocketAt g t) } }
        if s.pocket.quarantine = some g then
          { put with line := { put.line with causes := { put.line.causes with quarantineFull :=
              if (pocketAt g s).state = .full ∧ (pocketAt g t).state ≠ .full then false else put.line.causes.quarantineFull } } }
        else memberChanged g (pocketAt g s).state none put) entered
      let traced : State := lost.foldl (fun u e => if e.trace then emit (.trace
        { item := e.item, kind := e.kind, seq := e.seq, cls := e.cls, denom := e.denom, serial := e.serial
          depositId := depositId e.slot s, lead := e.lead, length := e.length, gap := e.gap, dest := e.dest
          shadow := e.shadow.map (·.pocket), reason := e.reason, route := e.route, caseRef := e.caseRef
          close := .lost, position := s.edge.position, arrival := none }) u else u) withdrawn
      let u : State := bump .jams { traced with deposit := t.deposit, track := t.track, edge := t.edge }
      let v : State := emit (.jam { cause := cause, previous := s.line.state, position := s.edge.position
                                    entriesLost := lost.length, edgesLost := s.edge.fifo.length, causes := u.line.causes }) u
      t = emit (.line { from_ := s.line.state, to_ := .jammed, trigger := .jam, cause := some (.jam cause)
                        causes := v.line.causes, resume := none, position := s.edge.position }) v)

/-! ### What every step keeps -/

/-- The machine right after hard reset keeps every law. -/
def Obligations.LawsAtReset : Prop :=
  LineLaw State.reset ∧ TrackLaw State.reset ∧ ReportLaw State.reset ∧ WatchLaw State.reset ∧ RouteLaw State.reset ∧
    DepositLaw State.reset ∧ GroupLaw State.reset ∧ PocketLaw State.reset

/-- Every step keeps the law of the line: outputs, resume target, jam in force, cause set and stall timer agree with the line state, and
BACKLOG with the backlog flag. -/
def Obligations.LineLawKept : Prop :=
  ∀ s t : State, LineLaw s → step s = .next t → LineLaw t

/-- Every step keeps the laws of the track and of the Report Unit: the capacities of the FIFO, the Track Queue, the Loss List and the
Report Queue, the gates that follow the queue, empty queues in JAMMED, and a frame on REPORT_TX that is the head report's. -/
def Obligations.TrackAndReportLawsKept : Prop :=
  ∀ s t : State, TrackLaw s → ReportLaw s → step s = .next t → TrackLaw t ∧ ReportLaw t

/-- Every step keeps the laws of the route lists and of the watch list: every object in one list at most and once, every counting-index
cell equal to the number of entries that index to it, the index in canonical form. -/
def Obligations.TableLawsKept : Prop :=
  ∀ s t : State, RouteLaw s → WatchLaw s → step s = .next t → RouteLaw t ∧ WatchLaw t

/-- Every step keeps the law of the deposits: slots and ids held once, at most one OPEN deposit, every in-flight count the number of
Track Queue entries attributed to it, and every declaration bound exactly when its deposit is held. -/
def Obligations.DepositLawKept : Prop :=
  ∀ s t : State, TrackLaw s → DepositLaw s → step s = .next t → DepositLaw t

/-- Every step keeps the laws of groups and pockets: no pocket in two roles, laws 1 and 2 of R79, and every state as its role and counts
give it. -/
def Obligations.GroupAndPocketLawsKept : Prop :=
  ∀ s t : State, TrackLaw s → GroupLaw s → PocketLaw s → step s = .next t → GroupLaw t ∧ PocketLaw t
end

