-- ==== Sys2Proof/Laws/Memory.lean ====
section
/-! SUPPORT. The counting index as an addressed table: every operation keeps its canonical form, and a read gives what was written. -/

namespace Sys2Proof.Machine

theorem Memory.wfFrom_mono {low high : Nat} {m : Memory} (h : high ≤ low) (hm : Memory.wfFrom low m = true) :
    Memory.wfFrom high m = true := by
  cases m with
  | nil => rfl
  | cons p rest =>
    obtain ⟨k, v⟩ := p
    simp only [Memory.wfFrom, Bool.and_eq_true, decide_eq_true_eq] at hm ⊢
    exact ⟨⟨by omega, hm.1.2⟩, hm.2⟩

theorem Memory.wfFrom_write {low a : Nat} (v : Byte) :
    ∀ {m : Memory}, low ≤ a → Memory.wfFrom low m = true → Memory.wfFrom low (m.write a v) = true := by
  intro m
  induction m generalizing low with
  | nil =>
    intro hlow _
    by_cases hv : v = Memory.unlisted <;> simp [Memory.write, Memory.wfFrom, hv, hlow]
  | cons p rest ih =>
    obtain ⟨k, w⟩ := p
    intro hlow hm
    simp only [Memory.wfFrom, Bool.and_eq_true, decide_eq_true_eq] at hm
    obtain ⟨⟨hk, hw⟩, hrest⟩ := hm
    simp only [Memory.write]
    by_cases h1 : a < k
    · by_cases hv : v = Memory.unlisted
      · simp [h1, hv, Memory.wfFrom, hk, hw, hrest]
      · have : Memory.wfFrom (a + 1) ((k, w) :: rest) = true := by
          simp [Memory.wfFrom, hw, hrest, Nat.succ_le_of_lt h1]
        simp only [h1, hv, if_true, if_false, Memory.wfFrom] at this ⊢
        simp_all
    · by_cases h2 : k = a
      · subst h2
        by_cases hv : v = Memory.unlisted
        · simp only [h1, hv, if_true, if_false]
          exact Memory.wfFrom_mono (by omega) hrest
        · simp [hv, Memory.wfFrom, hk, hrest]
      · simp only [h1, h2, if_false, Memory.wfFrom, Bool.and_eq_true, decide_eq_true_eq]
        exact ⟨⟨hk, hw⟩, ih (by omega) hrest⟩

/-- A write keeps the canonical form. -/
theorem Memory.wf_write (m : Memory) (a : Nat) (v : Byte) (h : m.wf = true) : (m.write a v).wf = true :=
  Memory.wfFrom_write v (Nat.zero_le a) h

/-- The empty table is in canonical form. -/
@[simp] theorem Memory.wf_nil : Memory.wf [] = true := rfl

/-- The empty table reads as unlisted everywhere. -/
@[simp] theorem Memory.read_nil (a : Nat) : Memory.read [] a = Memory.unlisted := rfl

theorem Memory.read_below {low a : Nat} : ∀ {m : Memory}, a < low → Memory.wfFrom low m = true → m.read a = Memory.unlisted := by
  intro m
  induction m generalizing low with
  | nil => intro _ _; rfl
  | cons p rest ih =>
    obtain ⟨k, w⟩ := p
    intro ha hm
    simp only [Memory.wfFrom, Bool.and_eq_true, decide_eq_true_eq] at hm
    have hk : k ≠ a := by omega
    simp only [Memory.read, hk, if_false]
    exact ih (low := k + 1) (by omega) hm.2

theorem Memory.read_write_from {low : Nat} (a b : Nat) (v : Byte) :
    ∀ {m : Memory}, Memory.wfFrom low m = true → (m.write a v).read b = if a = b then v else m.read b := by
  intro m
  induction m generalizing low with
  | nil =>
    intro _
    by_cases hv : v = Memory.unlisted <;> by_cases hab : a = b <;> simp [Memory.write, Memory.read, hv, hab]
  | cons p rest ih =>
    obtain ⟨k, w⟩ := p
    intro hm
    have hm' := hm
    simp only [Memory.wfFrom, Bool.and_eq_true, decide_eq_true_eq] at hm
    obtain ⟨_, hrest⟩ := hm
    simp only [Memory.write]
    by_cases h1 : a < k
    · have hbelow : a = b → Memory.read ((k, w) :: rest) b = Memory.unlisted := by
        intro hab
        subst hab
        refine Memory.read_below (low := k) h1 ?_
        simp only [Memory.wfFrom, Bool.and_eq_true, decide_eq_true_eq] at hm' ⊢
        exact ⟨⟨le_refl k, hm'.1.2⟩, hm'.2⟩
      rw [if_pos h1]
      by_cases hv : v = Memory.unlisted
      · rw [if_pos hv]
        by_cases hab : a = b
        · rw [if_pos hab, hv]
          exact hbelow hab
        · rw [if_neg hab]
      · rw [if_neg hv]
        by_cases hab : a = b <;> simp [hab, Memory.read]
    · by_cases h2 : k = a
      · subst h2
        by_cases hv : v = Memory.unlisted
        · by_cases hab : k = b
          · subst hab
            simp only [h1, hv, if_true, if_false]
            exact Memory.read_below (low := k + 1) (by omega) hrest
          · simp [hv, hab, Memory.read]
        · by_cases hab : k = b
          · simp [hv, hab, Memory.read]
          · simp [hv, hab, Memory.read]
      · simp only [h1, h2, if_false, Memory.read]
        by_cases hkb : k = b
        · have hab : ¬ a = b := by omega
          simp [hkb, hab]
        · simp only [hkb, if_false]
          exact ih hrest

/-- What a write leaves at each cell. -/
theorem Memory.read_write (m : Memory) (a b : Nat) (v : Byte) (h : m.wf = true) :
    (m.write a v).read b = if a = b then v else m.read b :=
  Memory.read_write_from a b v h

end Sys2Proof.Machine
end

