-- ==== Sys2Proof/Laws/State.lean ====
section
/-! SUPPORT. What each update of State leaves in each field: one lemma a field, true by rfl. -/

namespace Sys2Proof.Machine

/-! ### setFeed -/

@[simp] theorem State.setFeed_feed (s : State) (b : Receiver) : (s.setFeed b).feed = b := rfl
@[simp] theorem State.setFeed_edge (s : State) (b : Receiver) : (s.setFeed b).edge = s.edge := rfl
@[simp] theorem State.setFeed_route (s : State) (b : Receiver) : (s.setFeed b).route = s.route := rfl
@[simp] theorem State.setFeed_watch (s : State) (b : Receiver) : (s.setFeed b).watch = s.watch := rfl
@[simp] theorem State.setFeed_pocket (s : State) (b : Receiver) : (s.setFeed b).pocket = s.pocket := rfl
@[simp] theorem State.setFeed_group (s : State) (b : Receiver) : (s.setFeed b).group = s.group := rfl
@[simp] theorem State.setFeed_track (s : State) (b : Receiver) : (s.setFeed b).track = s.track := rfl
@[simp] theorem State.setFeed_deposit (s : State) (b : Receiver) : (s.setFeed b).deposit = s.deposit := rfl
@[simp] theorem State.setFeed_line (s : State) (b : Receiver) : (s.setFeed b).line = s.line := rfl
@[simp] theorem State.setFeed_report (s : State) (b : Receiver) : (s.setFeed b).report = s.report := rfl
@[simp] theorem State.setFeed_freeCount (s : State) (b : Receiver) : (s.setFeed b).freeCount = s.freeCount := rfl
@[simp] theorem State.setFeed_pending (s : State) (b : Receiver) : (s.setFeed b).pending = s.pending := rfl

/-! ### setEdge -/

@[simp] theorem State.setEdge_feed (s : State) (b : EdgeUnit) : (s.setEdge b).feed = s.feed := rfl
@[simp] theorem State.setEdge_edge (s : State) (b : EdgeUnit) : (s.setEdge b).edge = b := rfl
@[simp] theorem State.setEdge_route (s : State) (b : EdgeUnit) : (s.setEdge b).route = s.route := rfl
@[simp] theorem State.setEdge_watch (s : State) (b : EdgeUnit) : (s.setEdge b).watch = s.watch := rfl
@[simp] theorem State.setEdge_pocket (s : State) (b : EdgeUnit) : (s.setEdge b).pocket = s.pocket := rfl
@[simp] theorem State.setEdge_group (s : State) (b : EdgeUnit) : (s.setEdge b).group = s.group := rfl
@[simp] theorem State.setEdge_track (s : State) (b : EdgeUnit) : (s.setEdge b).track = s.track := rfl
@[simp] theorem State.setEdge_deposit (s : State) (b : EdgeUnit) : (s.setEdge b).deposit = s.deposit := rfl
@[simp] theorem State.setEdge_line (s : State) (b : EdgeUnit) : (s.setEdge b).line = s.line := rfl
@[simp] theorem State.setEdge_report (s : State) (b : EdgeUnit) : (s.setEdge b).report = s.report := rfl
@[simp] theorem State.setEdge_freeCount (s : State) (b : EdgeUnit) : (s.setEdge b).freeCount = s.freeCount := rfl
@[simp] theorem State.setEdge_pending (s : State) (b : EdgeUnit) : (s.setEdge b).pending = s.pending := rfl

/-! ### setRoute -/

@[simp] theorem State.setRoute_feed (s : State) (b : RouteUnit) : (s.setRoute b).feed = s.feed := rfl
@[simp] theorem State.setRoute_edge (s : State) (b : RouteUnit) : (s.setRoute b).edge = s.edge := rfl
@[simp] theorem State.setRoute_route (s : State) (b : RouteUnit) : (s.setRoute b).route = b := rfl
@[simp] theorem State.setRoute_watch (s : State) (b : RouteUnit) : (s.setRoute b).watch = s.watch := rfl
@[simp] theorem State.setRoute_pocket (s : State) (b : RouteUnit) : (s.setRoute b).pocket = s.pocket := rfl
@[simp] theorem State.setRoute_group (s : State) (b : RouteUnit) : (s.setRoute b).group = s.group := rfl
@[simp] theorem State.setRoute_track (s : State) (b : RouteUnit) : (s.setRoute b).track = s.track := rfl
@[simp] theorem State.setRoute_deposit (s : State) (b : RouteUnit) : (s.setRoute b).deposit = s.deposit := rfl
@[simp] theorem State.setRoute_line (s : State) (b : RouteUnit) : (s.setRoute b).line = s.line := rfl
@[simp] theorem State.setRoute_report (s : State) (b : RouteUnit) : (s.setRoute b).report = s.report := rfl
@[simp] theorem State.setRoute_freeCount (s : State) (b : RouteUnit) : (s.setRoute b).freeCount = s.freeCount := rfl
@[simp] theorem State.setRoute_pending (s : State) (b : RouteUnit) : (s.setRoute b).pending = s.pending := rfl

/-! ### setWatch -/

@[simp] theorem State.setWatch_feed (s : State) (b : WatchUnit) : (s.setWatch b).feed = s.feed := rfl
@[simp] theorem State.setWatch_edge (s : State) (b : WatchUnit) : (s.setWatch b).edge = s.edge := rfl
@[simp] theorem State.setWatch_route (s : State) (b : WatchUnit) : (s.setWatch b).route = s.route := rfl
@[simp] theorem State.setWatch_watch (s : State) (b : WatchUnit) : (s.setWatch b).watch = b := rfl
@[simp] theorem State.setWatch_pocket (s : State) (b : WatchUnit) : (s.setWatch b).pocket = s.pocket := rfl
@[simp] theorem State.setWatch_group (s : State) (b : WatchUnit) : (s.setWatch b).group = s.group := rfl
@[simp] theorem State.setWatch_track (s : State) (b : WatchUnit) : (s.setWatch b).track = s.track := rfl
@[simp] theorem State.setWatch_deposit (s : State) (b : WatchUnit) : (s.setWatch b).deposit = s.deposit := rfl
@[simp] theorem State.setWatch_line (s : State) (b : WatchUnit) : (s.setWatch b).line = s.line := rfl
@[simp] theorem State.setWatch_report (s : State) (b : WatchUnit) : (s.setWatch b).report = s.report := rfl
@[simp] theorem State.setWatch_freeCount (s : State) (b : WatchUnit) : (s.setWatch b).freeCount = s.freeCount := rfl
@[simp] theorem State.setWatch_pending (s : State) (b : WatchUnit) : (s.setWatch b).pending = s.pending := rfl

/-! ### setPocket -/

@[simp] theorem State.setPocket_feed (s : State) (b : PocketUnit) : (s.setPocket b).feed = s.feed := rfl
@[simp] theorem State.setPocket_edge (s : State) (b : PocketUnit) : (s.setPocket b).edge = s.edge := rfl
@[simp] theorem State.setPocket_route (s : State) (b : PocketUnit) : (s.setPocket b).route = s.route := rfl
@[simp] theorem State.setPocket_watch (s : State) (b : PocketUnit) : (s.setPocket b).watch = s.watch := rfl
@[simp] theorem State.setPocket_pocket (s : State) (b : PocketUnit) : (s.setPocket b).pocket = b := rfl
@[simp] theorem State.setPocket_group (s : State) (b : PocketUnit) : (s.setPocket b).group = s.group := rfl
@[simp] theorem State.setPocket_track (s : State) (b : PocketUnit) : (s.setPocket b).track = s.track := rfl
@[simp] theorem State.setPocket_deposit (s : State) (b : PocketUnit) : (s.setPocket b).deposit = s.deposit := rfl
@[simp] theorem State.setPocket_line (s : State) (b : PocketUnit) : (s.setPocket b).line = s.line := rfl
@[simp] theorem State.setPocket_report (s : State) (b : PocketUnit) : (s.setPocket b).report = s.report := rfl
@[simp] theorem State.setPocket_freeCount (s : State) (b : PocketUnit) : (s.setPocket b).freeCount = s.freeCount := rfl
@[simp] theorem State.setPocket_pending (s : State) (b : PocketUnit) : (s.setPocket b).pending = s.pending := rfl

/-! ### setGroup -/

@[simp] theorem State.setGroup_feed (s : State) (b : GroupUnit) : (s.setGroup b).feed = s.feed := rfl
@[simp] theorem State.setGroup_edge (s : State) (b : GroupUnit) : (s.setGroup b).edge = s.edge := rfl
@[simp] theorem State.setGroup_route (s : State) (b : GroupUnit) : (s.setGroup b).route = s.route := rfl
@[simp] theorem State.setGroup_watch (s : State) (b : GroupUnit) : (s.setGroup b).watch = s.watch := rfl
@[simp] theorem State.setGroup_pocket (s : State) (b : GroupUnit) : (s.setGroup b).pocket = s.pocket := rfl
@[simp] theorem State.setGroup_group (s : State) (b : GroupUnit) : (s.setGroup b).group = b := rfl
@[simp] theorem State.setGroup_track (s : State) (b : GroupUnit) : (s.setGroup b).track = s.track := rfl
@[simp] theorem State.setGroup_deposit (s : State) (b : GroupUnit) : (s.setGroup b).deposit = s.deposit := rfl
@[simp] theorem State.setGroup_line (s : State) (b : GroupUnit) : (s.setGroup b).line = s.line := rfl
@[simp] theorem State.setGroup_report (s : State) (b : GroupUnit) : (s.setGroup b).report = s.report := rfl
@[simp] theorem State.setGroup_freeCount (s : State) (b : GroupUnit) : (s.setGroup b).freeCount = s.freeCount := rfl
@[simp] theorem State.setGroup_pending (s : State) (b : GroupUnit) : (s.setGroup b).pending = s.pending := rfl

/-! ### setTrack -/

@[simp] theorem State.setTrack_feed (s : State) (b : TrackUnit) : (s.setTrack b).feed = s.feed := rfl
@[simp] theorem State.setTrack_edge (s : State) (b : TrackUnit) : (s.setTrack b).edge = s.edge := rfl
@[simp] theorem State.setTrack_route (s : State) (b : TrackUnit) : (s.setTrack b).route = s.route := rfl
@[simp] theorem State.setTrack_watch (s : State) (b : TrackUnit) : (s.setTrack b).watch = s.watch := rfl
@[simp] theorem State.setTrack_pocket (s : State) (b : TrackUnit) : (s.setTrack b).pocket = s.pocket := rfl
@[simp] theorem State.setTrack_group (s : State) (b : TrackUnit) : (s.setTrack b).group = s.group := rfl
@[simp] theorem State.setTrack_track (s : State) (b : TrackUnit) : (s.setTrack b).track = b := rfl
@[simp] theorem State.setTrack_deposit (s : State) (b : TrackUnit) : (s.setTrack b).deposit = s.deposit := rfl
@[simp] theorem State.setTrack_line (s : State) (b : TrackUnit) : (s.setTrack b).line = s.line := rfl
@[simp] theorem State.setTrack_report (s : State) (b : TrackUnit) : (s.setTrack b).report = s.report := rfl
@[simp] theorem State.setTrack_freeCount (s : State) (b : TrackUnit) : (s.setTrack b).freeCount = s.freeCount := rfl
@[simp] theorem State.setTrack_pending (s : State) (b : TrackUnit) : (s.setTrack b).pending = s.pending := rfl

/-! ### setDeposit -/

@[simp] theorem State.setDeposit_feed (s : State) (b : DepositUnit) : (s.setDeposit b).feed = s.feed := rfl
@[simp] theorem State.setDeposit_edge (s : State) (b : DepositUnit) : (s.setDeposit b).edge = s.edge := rfl
@[simp] theorem State.setDeposit_route (s : State) (b : DepositUnit) : (s.setDeposit b).route = s.route := rfl
@[simp] theorem State.setDeposit_watch (s : State) (b : DepositUnit) : (s.setDeposit b).watch = s.watch := rfl
@[simp] theorem State.setDeposit_pocket (s : State) (b : DepositUnit) : (s.setDeposit b).pocket = s.pocket := rfl
@[simp] theorem State.setDeposit_group (s : State) (b : DepositUnit) : (s.setDeposit b).group = s.group := rfl
@[simp] theorem State.setDeposit_track (s : State) (b : DepositUnit) : (s.setDeposit b).track = s.track := rfl
@[simp] theorem State.setDeposit_deposit (s : State) (b : DepositUnit) : (s.setDeposit b).deposit = b := rfl
@[simp] theorem State.setDeposit_line (s : State) (b : DepositUnit) : (s.setDeposit b).line = s.line := rfl
@[simp] theorem State.setDeposit_report (s : State) (b : DepositUnit) : (s.setDeposit b).report = s.report := rfl
@[simp] theorem State.setDeposit_freeCount (s : State) (b : DepositUnit) : (s.setDeposit b).freeCount = s.freeCount := rfl
@[simp] theorem State.setDeposit_pending (s : State) (b : DepositUnit) : (s.setDeposit b).pending = s.pending := rfl

/-! ### setLine -/

@[simp] theorem State.setLine_feed (s : State) (b : LineUnit) : (s.setLine b).feed = s.feed := rfl
@[simp] theorem State.setLine_edge (s : State) (b : LineUnit) : (s.setLine b).edge = s.edge := rfl
@[simp] theorem State.setLine_route (s : State) (b : LineUnit) : (s.setLine b).route = s.route := rfl
@[simp] theorem State.setLine_watch (s : State) (b : LineUnit) : (s.setLine b).watch = s.watch := rfl
@[simp] theorem State.setLine_pocket (s : State) (b : LineUnit) : (s.setLine b).pocket = s.pocket := rfl
@[simp] theorem State.setLine_group (s : State) (b : LineUnit) : (s.setLine b).group = s.group := rfl
@[simp] theorem State.setLine_track (s : State) (b : LineUnit) : (s.setLine b).track = s.track := rfl
@[simp] theorem State.setLine_deposit (s : State) (b : LineUnit) : (s.setLine b).deposit = s.deposit := rfl
@[simp] theorem State.setLine_line (s : State) (b : LineUnit) : (s.setLine b).line = b := rfl
@[simp] theorem State.setLine_report (s : State) (b : LineUnit) : (s.setLine b).report = s.report := rfl
@[simp] theorem State.setLine_freeCount (s : State) (b : LineUnit) : (s.setLine b).freeCount = s.freeCount := rfl
@[simp] theorem State.setLine_pending (s : State) (b : LineUnit) : (s.setLine b).pending = s.pending := rfl

/-! ### setReport -/

@[simp] theorem State.setReport_feed (s : State) (b : ReportUnit) : (s.setReport b).feed = s.feed := rfl
@[simp] theorem State.setReport_edge (s : State) (b : ReportUnit) : (s.setReport b).edge = s.edge := rfl
@[simp] theorem State.setReport_route (s : State) (b : ReportUnit) : (s.setReport b).route = s.route := rfl
@[simp] theorem State.setReport_watch (s : State) (b : ReportUnit) : (s.setReport b).watch = s.watch := rfl
@[simp] theorem State.setReport_pocket (s : State) (b : ReportUnit) : (s.setReport b).pocket = s.pocket := rfl
@[simp] theorem State.setReport_group (s : State) (b : ReportUnit) : (s.setReport b).group = s.group := rfl
@[simp] theorem State.setReport_track (s : State) (b : ReportUnit) : (s.setReport b).track = s.track := rfl
@[simp] theorem State.setReport_deposit (s : State) (b : ReportUnit) : (s.setReport b).deposit = s.deposit := rfl
@[simp] theorem State.setReport_line (s : State) (b : ReportUnit) : (s.setReport b).line = s.line := rfl
@[simp] theorem State.setReport_report (s : State) (b : ReportUnit) : (s.setReport b).report = b := rfl
@[simp] theorem State.setReport_freeCount (s : State) (b : ReportUnit) : (s.setReport b).freeCount = s.freeCount := rfl
@[simp] theorem State.setReport_pending (s : State) (b : ReportUnit) : (s.setReport b).pending = s.pending := rfl

/-! ### setFreeCount -/

@[simp] theorem State.setFreeCount_feed (s : State) (b : Nat) : (s.setFreeCount b).feed = s.feed := rfl
@[simp] theorem State.setFreeCount_edge (s : State) (b : Nat) : (s.setFreeCount b).edge = s.edge := rfl
@[simp] theorem State.setFreeCount_route (s : State) (b : Nat) : (s.setFreeCount b).route = s.route := rfl
@[simp] theorem State.setFreeCount_watch (s : State) (b : Nat) : (s.setFreeCount b).watch = s.watch := rfl
@[simp] theorem State.setFreeCount_pocket (s : State) (b : Nat) : (s.setFreeCount b).pocket = s.pocket := rfl
@[simp] theorem State.setFreeCount_group (s : State) (b : Nat) : (s.setFreeCount b).group = s.group := rfl
@[simp] theorem State.setFreeCount_track (s : State) (b : Nat) : (s.setFreeCount b).track = s.track := rfl
@[simp] theorem State.setFreeCount_deposit (s : State) (b : Nat) : (s.setFreeCount b).deposit = s.deposit := rfl
@[simp] theorem State.setFreeCount_line (s : State) (b : Nat) : (s.setFreeCount b).line = s.line := rfl
@[simp] theorem State.setFreeCount_report (s : State) (b : Nat) : (s.setFreeCount b).report = s.report := rfl
@[simp] theorem State.setFreeCount_freeCount (s : State) (b : Nat) : (s.setFreeCount b).freeCount = b := rfl
@[simp] theorem State.setFreeCount_pending (s : State) (b : Nat) : (s.setFreeCount b).pending = s.pending := rfl

/-! ### setPending -/

@[simp] theorem State.setPending_feed (s : State) (b : List Instr) : (s.setPending b).feed = s.feed := rfl
@[simp] theorem State.setPending_edge (s : State) (b : List Instr) : (s.setPending b).edge = s.edge := rfl
@[simp] theorem State.setPending_route (s : State) (b : List Instr) : (s.setPending b).route = s.route := rfl
@[simp] theorem State.setPending_watch (s : State) (b : List Instr) : (s.setPending b).watch = s.watch := rfl
@[simp] theorem State.setPending_pocket (s : State) (b : List Instr) : (s.setPending b).pocket = s.pocket := rfl
@[simp] theorem State.setPending_group (s : State) (b : List Instr) : (s.setPending b).group = s.group := rfl
@[simp] theorem State.setPending_track (s : State) (b : List Instr) : (s.setPending b).track = s.track := rfl
@[simp] theorem State.setPending_deposit (s : State) (b : List Instr) : (s.setPending b).deposit = s.deposit := rfl
@[simp] theorem State.setPending_line (s : State) (b : List Instr) : (s.setPending b).line = s.line := rfl
@[simp] theorem State.setPending_report (s : State) (b : List Instr) : (s.setPending b).report = s.report := rfl
@[simp] theorem State.setPending_freeCount (s : State) (b : List Instr) : (s.setPending b).freeCount = s.freeCount := rfl
@[simp] theorem State.setPending_pending (s : State) (b : List Instr) : (s.setPending b).pending = b := rfl

/-! ### A field put back -/

@[simp] theorem State.setFeed_self (s : State) : s.setFeed s.feed = s := rfl
@[simp] theorem State.setEdge_self (s : State) : s.setEdge s.edge = s := rfl
@[simp] theorem State.setRoute_self (s : State) : s.setRoute s.route = s := rfl
@[simp] theorem State.setWatch_self (s : State) : s.setWatch s.watch = s := rfl
@[simp] theorem State.setPocket_self (s : State) : s.setPocket s.pocket = s := rfl
@[simp] theorem State.setGroup_self (s : State) : s.setGroup s.group = s := rfl
@[simp] theorem State.setTrack_self (s : State) : s.setTrack s.track = s := rfl
@[simp] theorem State.setDeposit_self (s : State) : s.setDeposit s.deposit = s := rfl
@[simp] theorem State.setLine_self (s : State) : s.setLine s.line = s := rfl
@[simp] theorem State.setReport_self (s : State) : s.setReport s.report = s := rfl
@[simp] theorem State.setFreeCount_self (s : State) : s.setFreeCount s.freeCount = s := rfl
@[simp] theorem State.setPending_self (s : State) : s.setPending s.pending = s := rfl
@[simp] theorem State.setFeed_setFeed (s : State) (a b : Receiver) : (s.setFeed a).setFeed b = s.setFeed b := rfl
@[simp] theorem State.setEdge_setEdge (s : State) (a b : EdgeUnit) : (s.setEdge a).setEdge b = s.setEdge b := rfl
@[simp] theorem State.setRoute_setRoute (s : State) (a b : RouteUnit) : (s.setRoute a).setRoute b = s.setRoute b := rfl
@[simp] theorem State.setWatch_setWatch (s : State) (a b : WatchUnit) : (s.setWatch a).setWatch b = s.setWatch b := rfl
@[simp] theorem State.setPocket_setPocket (s : State) (a b : PocketUnit) : (s.setPocket a).setPocket b = s.setPocket b := rfl
@[simp] theorem State.setGroup_setGroup (s : State) (a b : GroupUnit) : (s.setGroup a).setGroup b = s.setGroup b := rfl
@[simp] theorem State.setTrack_setTrack (s : State) (a b : TrackUnit) : (s.setTrack a).setTrack b = s.setTrack b := rfl
@[simp] theorem State.setDeposit_setDeposit (s : State) (a b : DepositUnit) : (s.setDeposit a).setDeposit b = s.setDeposit b := rfl
@[simp] theorem State.setLine_setLine (s : State) (a b : LineUnit) : (s.setLine a).setLine b = s.setLine b := rfl
@[simp] theorem State.setReport_setReport (s : State) (a b : ReportUnit) : (s.setReport a).setReport b = s.setReport b := rfl
@[simp] theorem State.setFreeCount_setFreeCount (s : State) (a b : Nat) : (s.setFreeCount a).setFreeCount b = s.setFreeCount b := rfl
@[simp] theorem State.setPending_setPending (s : State) (a b : List Instr) : (s.setPending a).setPending b = s.setPending b := rfl

end Sys2Proof.Machine
end

