-- ==== Sys2Proof/Laws/Ops.lean ====
section
/-! SUPPORT. What each shared operation of Machine/Ops.lean can do: the reports it hands on and nothing else, but for a BACKLOG
that halts the line. -/

namespace Sys2Proof.Machine

/-! ### Operations of the Report Unit alone -/

/-- enqueue changes the Report Unit alone. -/
theorem enqueue_eq (r : Report) (s : State) : enqueue r s = s.setReport (enqueue r s).report := rfl

/-- loseOnce changes the Report Unit alone. -/
theorem loseOnce_eq (s : State) : loseOnce s = s.setReport (loseOnce s).report := rfl

/-- loseReport changes the Report Unit alone. -/
theorem loseReport_eq (s : State) : loseReport s = s.setReport (loseReport s).report := by
  unfold loseReport
  simp only
  split <;> rfl

/-- handPlain changes the Report Unit alone. -/
theorem handPlain_eq (r : Report) (s : State) : handPlain r s = s.setReport (handPlain r s).report := by
  unfold handPlain
  split
  · rfl
  · exact loseReport_eq s

/-- bumpQuiet changes the Report Unit alone. -/
theorem bumpQuiet_eq (t : Tally) (s : State) : bumpQuiet t s = s.setReport (bumpQuiet t s).report := by
  unfold bumpQuiet
  simp only
  split
  · rw [handPlain_eq]; rfl
  · rfl

/-- hand changes the Report Unit alone. -/
theorem hand_eq (r : Report) (s : State) : hand r s = s.setReport (hand r s).report := by
  unfold hand
  split
  · split
    · rfl
    · exact bumpQuiet_eq _ s
  · exact handPlain_eq _ s

/-- A report that is no TRACE joins a queue with room, at the tail, with the loss mark in its loss field (R194, R195). -/
theorem handPlain_room (r : Report) (s : State) (h : s.report.queue.length < Config.queueCapacity) :
    handPlain r s = enqueue r s := if_pos h

/-- A report that is no TRACE is lost at a full queue (R194). -/
theorem handPlain_full (r : Report) (s : State) (h : ¬ s.report.queue.length < Config.queueCapacity) :
    handPlain r s = loseReport s := if_neg h

/-! ### The line -/

/-- putCause changes the line alone. -/
theorem putCause_eq (held : Bool) (c : Cause) (s : State) : putCause held c s = s.setLine (putCause held c s).line := rfl

/-- endCause changes the line alone. -/
theorem endCause_eq (c : Cause) (s : State) : endCause c s = s.setLine (endCause c s).line := rfl

/-- A change of line state from a state other than IDLE, or to a state other than RUN, leaves all but the line, the stall timer
and the Report Unit. -/
theorem changeLine_eq (to_ : LineState) (resume : Option Resume) (trigger : Trigger) (cause : Option LineCause) (s : State)
    (h : ¬ (s.line.state = .idle ∧ to_ = .run)) :
    changeLine to_ resume trigger cause s =
      ((s.setReport (changeLine to_ resume trigger cause s).report).setLine (changeLine to_ resume trigger cause s).line).setTrack
        { s.track with stall := (changeLine to_ resume trigger cause s).track.stall } := by
  unfold changeLine
  simp only
  rw [hand_eq]
  unfold enterLine
  simp only [if_neg h]
  rfl

/-- raiseQuiet leaves all but the line, the stall timer and the Report Unit. -/
theorem raiseQuiet_eq (c : Cause) (s : State) :
    raiseQuiet c s =
      ((s.setReport (raiseQuiet c s).report).setLine (raiseQuiet c s).line).setTrack
        { s.track with stall := (raiseQuiet c s).track.stall } := by
  unfold raiseQuiet
  split
  · rfl
  · simp only
    split
    · rw [changeLine_eq _ _ _ _ _ (by simp)]; rfl
    · rw [changeLine_eq _ _ _ _ _ (by simp)]; rfl
    all_goals rfl

/-- takeBacklog leaves all but the line, the stall timer and the Report Unit. -/
theorem takeBacklog_eq (s : State) :
    takeBacklog s =
      ((s.setReport (takeBacklog s).report).setLine (takeBacklog s).line).setTrack
        { s.track with stall := (takeBacklog s).track.stall } := by
  unfold takeBacklog
  split
  · exact raiseQuiet_eq _ s
  · rfl

/-- Nothing to take while the backlog flag is clear. -/
theorem takeBacklog_clear (s : State) (h : s.report.backlog = false) : takeBacklog s = s := by
  unfold takeBacklog
  simp [h]

/-- Nothing to take while BACKLOG is held already. -/
theorem takeBacklog_held (s : State) (h : s.line.causes.backlog = true) : takeBacklog s = s := by
  unfold takeBacklog
  simp [h]

/-- emit leaves all but the line, the stall timer and the Report Unit. -/
theorem emit_eq (r : Report) (s : State) :
    emit r s =
      ((s.setReport (emit r s).report).setLine (emit r s).line).setTrack
        { s.track with stall := (emit r s).track.stall } := by
  unfold emit
  rw [takeBacklog_eq, hand_eq]
  rfl

/-- bump leaves all but the line, the stall timer and the Report Unit. -/
theorem bump_eq (t : EventTally) (s : State) :
    bump t s =
      ((s.setReport (bump t s).report).setLine (bump t s).line).setTrack
        { s.track with stall := (bump t s).track.stall } := by
  unfold bump
  rw [takeBacklog_eq, bumpQuiet_eq]
  rfl

/-- raiseCause leaves all but the line, the stall timer and the Report Unit. -/
theorem raiseCause_eq (c : Cause) (s : State) :
    raiseCause c s =
      ((s.setReport (raiseCause c s).report).setLine (raiseCause c s).line).setTrack
        { s.track with stall := (raiseCause c s).track.stall } := by
  unfold raiseCause
  rw [takeBacklog_eq, raiseQuiet_eq]
  rfl

/-- answer leaves all but the line, the stall timer and the Report Unit. -/
theorem answer_eq (tag code : Byte) (detail : Detail) (s : State) :
    answer tag code detail s =
      ((s.setReport (answer tag code detail s).report).setLine (answer tag code detail s).line).setTrack
        { s.track with stall := (answer tag code detail s).track.stall } := emit_eq _ s

/-- refuse leaves all but the line, the stall timer and the Report Unit. -/
theorem refuse_eq (tag code : Byte) (reason : RefusalReason) (s : State) :
    refuse tag code reason s =
      ((s.setReport (refuse tag code reason s).report).setLine (refuse tag code reason s).line).setTrack
        { s.track with stall := (refuse tag code reason s).track.stall } := emit_eq _ s

/-! ### Field by field: the Report Unit's own operations -/

@[simp] theorem loseReport_feed (s : State) : (loseReport s).feed = s.feed := by rw [loseReport_eq]; rfl
@[simp] theorem loseReport_edge (s : State) : (loseReport s).edge = s.edge := by rw [loseReport_eq]; rfl
@[simp] theorem loseReport_route (s : State) : (loseReport s).route = s.route := by rw [loseReport_eq]; rfl
@[simp] theorem loseReport_watch (s : State) : (loseReport s).watch = s.watch := by rw [loseReport_eq]; rfl
@[simp] theorem loseReport_pocket (s : State) : (loseReport s).pocket = s.pocket := by rw [loseReport_eq]; rfl
@[simp] theorem loseReport_group (s : State) : (loseReport s).group = s.group := by rw [loseReport_eq]; rfl
@[simp] theorem loseReport_deposit (s : State) : (loseReport s).deposit = s.deposit := by rw [loseReport_eq]; rfl
@[simp] theorem loseReport_freeCount (s : State) : (loseReport s).freeCount = s.freeCount := by rw [loseReport_eq]; rfl
@[simp] theorem loseReport_pending (s : State) : (loseReport s).pending = s.pending := by rw [loseReport_eq]; rfl
@[simp] theorem loseReport_track (s : State) : (loseReport s).track = s.track := by rw [loseReport_eq]; rfl
@[simp] theorem loseReport_line (s : State) : (loseReport s).line = s.line := by rw [loseReport_eq]; rfl

@[simp] theorem handPlain_feed (r : Report) (s : State) : (handPlain r s).feed = s.feed := by rw [handPlain_eq]; rfl
@[simp] theorem handPlain_edge (r : Report) (s : State) : (handPlain r s).edge = s.edge := by rw [handPlain_eq]; rfl
@[simp] theorem handPlain_route (r : Report) (s : State) : (handPlain r s).route = s.route := by rw [handPlain_eq]; rfl
@[simp] theorem handPlain_watch (r : Report) (s : State) : (handPlain r s).watch = s.watch := by rw [handPlain_eq]; rfl
@[simp] theorem handPlain_pocket (r : Report) (s : State) : (handPlain r s).pocket = s.pocket := by rw [handPlain_eq]; rfl
@[simp] theorem handPlain_group (r : Report) (s : State) : (handPlain r s).group = s.group := by rw [handPlain_eq]; rfl
@[simp] theorem handPlain_deposit (r : Report) (s : State) : (handPlain r s).deposit = s.deposit := by rw [handPlain_eq]; rfl
@[simp] theorem handPlain_freeCount (r : Report) (s : State) : (handPlain r s).freeCount = s.freeCount := by rw [handPlain_eq]; rfl
@[simp] theorem handPlain_pending (r : Report) (s : State) : (handPlain r s).pending = s.pending := by rw [handPlain_eq]; rfl
@[simp] theorem handPlain_track (r : Report) (s : State) : (handPlain r s).track = s.track := by rw [handPlain_eq]; rfl
@[simp] theorem handPlain_line (r : Report) (s : State) : (handPlain r s).line = s.line := by rw [handPlain_eq]; rfl

@[simp] theorem hand_feed (r : Report) (s : State) : (hand r s).feed = s.feed := by rw [hand_eq]; rfl
@[simp] theorem hand_edge (r : Report) (s : State) : (hand r s).edge = s.edge := by rw [hand_eq]; rfl
@[simp] theorem hand_route (r : Report) (s : State) : (hand r s).route = s.route := by rw [hand_eq]; rfl
@[simp] theorem hand_watch (r : Report) (s : State) : (hand r s).watch = s.watch := by rw [hand_eq]; rfl
@[simp] theorem hand_pocket (r : Report) (s : State) : (hand r s).pocket = s.pocket := by rw [hand_eq]; rfl
@[simp] theorem hand_group (r : Report) (s : State) : (hand r s).group = s.group := by rw [hand_eq]; rfl
@[simp] theorem hand_deposit (r : Report) (s : State) : (hand r s).deposit = s.deposit := by rw [hand_eq]; rfl
@[simp] theorem hand_freeCount (r : Report) (s : State) : (hand r s).freeCount = s.freeCount := by rw [hand_eq]; rfl
@[simp] theorem hand_pending (r : Report) (s : State) : (hand r s).pending = s.pending := by rw [hand_eq]; rfl
@[simp] theorem hand_track (r : Report) (s : State) : (hand r s).track = s.track := by rw [hand_eq]; rfl
@[simp] theorem hand_line (r : Report) (s : State) : (hand r s).line = s.line := by rw [hand_eq]; rfl

@[simp] theorem bumpQuiet_feed (t : Tally) (s : State) : (bumpQuiet t s).feed = s.feed := by rw [bumpQuiet_eq]; rfl
@[simp] theorem bumpQuiet_edge (t : Tally) (s : State) : (bumpQuiet t s).edge = s.edge := by rw [bumpQuiet_eq]; rfl
@[simp] theorem bumpQuiet_route (t : Tally) (s : State) : (bumpQuiet t s).route = s.route := by rw [bumpQuiet_eq]; rfl
@[simp] theorem bumpQuiet_watch (t : Tally) (s : State) : (bumpQuiet t s).watch = s.watch := by rw [bumpQuiet_eq]; rfl
@[simp] theorem bumpQuiet_pocket (t : Tally) (s : State) : (bumpQuiet t s).pocket = s.pocket := by rw [bumpQuiet_eq]; rfl
@[simp] theorem bumpQuiet_group (t : Tally) (s : State) : (bumpQuiet t s).group = s.group := by rw [bumpQuiet_eq]; rfl
@[simp] theorem bumpQuiet_deposit (t : Tally) (s : State) : (bumpQuiet t s).deposit = s.deposit := by rw [bumpQuiet_eq]; rfl
@[simp] theorem bumpQuiet_freeCount (t : Tally) (s : State) : (bumpQuiet t s).freeCount = s.freeCount := by rw [bumpQuiet_eq]; rfl
@[simp] theorem bumpQuiet_pending (t : Tally) (s : State) : (bumpQuiet t s).pending = s.pending := by rw [bumpQuiet_eq]; rfl
@[simp] theorem bumpQuiet_track (t : Tally) (s : State) : (bumpQuiet t s).track = s.track := by rw [bumpQuiet_eq]; rfl
@[simp] theorem bumpQuiet_line (t : Tally) (s : State) : (bumpQuiet t s).line = s.line := by rw [bumpQuiet_eq]; rfl

/-! ### Field by field: operations that may halt the line -/

@[simp] theorem raiseQuiet_feed (c : Cause) (s : State) : (raiseQuiet c s).feed = s.feed := by rw [raiseQuiet_eq]; rfl
@[simp] theorem raiseQuiet_edge (c : Cause) (s : State) : (raiseQuiet c s).edge = s.edge := by rw [raiseQuiet_eq]; rfl
@[simp] theorem raiseQuiet_route (c : Cause) (s : State) : (raiseQuiet c s).route = s.route := by rw [raiseQuiet_eq]; rfl
@[simp] theorem raiseQuiet_watch (c : Cause) (s : State) : (raiseQuiet c s).watch = s.watch := by rw [raiseQuiet_eq]; rfl
@[simp] theorem raiseQuiet_pocket (c : Cause) (s : State) : (raiseQuiet c s).pocket = s.pocket := by rw [raiseQuiet_eq]; rfl
@[simp] theorem raiseQuiet_group (c : Cause) (s : State) : (raiseQuiet c s).group = s.group := by rw [raiseQuiet_eq]; rfl
@[simp] theorem raiseQuiet_deposit (c : Cause) (s : State) : (raiseQuiet c s).deposit = s.deposit := by rw [raiseQuiet_eq]; rfl
@[simp] theorem raiseQuiet_freeCount (c : Cause) (s : State) : (raiseQuiet c s).freeCount = s.freeCount := by rw [raiseQuiet_eq]; rfl
@[simp] theorem raiseQuiet_pending (c : Cause) (s : State) : (raiseQuiet c s).pending = s.pending := by rw [raiseQuiet_eq]; rfl
@[simp] theorem raiseQuiet_track_loaded (c : Cause) (s : State) : (raiseQuiet c s).track.loaded = s.track.loaded := by rw [raiseQuiet_eq]; rfl
@[simp] theorem raiseQuiet_track_geometry (c : Cause) (s : State) : (raiseQuiet c s).track.geometry = s.track.geometry := by rw [raiseQuiet_eq]; rfl
@[simp] theorem raiseQuiet_track_queue (c : Cause) (s : State) : (raiseQuiet c s).track.queue = s.track.queue := by rw [raiseQuiet_eq]; rfl
@[simp] theorem raiseQuiet_track_waiting (c : Cause) (s : State) : (raiseQuiet c s).track.waiting = s.track.waiting := by rw [raiseQuiet_eq]; rfl
@[simp] theorem raiseQuiet_track_losses (c : Cause) (s : State) : (raiseQuiet c s).track.losses = s.track.losses := by rw [raiseQuiet_eq]; rfl
@[simp] theorem raiseQuiet_track_gates (c : Cause) (s : State) : (raiseQuiet c s).track.gates = s.track.gates := by rw [raiseQuiet_eq]; rfl
@[simp] theorem raiseQuiet_track_gapMin (c : Cause) (s : State) : (raiseQuiet c s).track.gapMin = s.track.gapMin := by rw [raiseQuiet_eq]; rfl
@[simp] theorem raiseQuiet_track_stallTime (c : Cause) (s : State) : (raiseQuiet c s).track.stallTime = s.track.stallTime := by rw [raiseQuiet_eq]; rfl
@[simp] theorem raiseQuiet_track_startTime (c : Cause) (s : State) : (raiseQuiet c s).track.startTime = s.track.startTime := by rw [raiseQuiet_eq]; rfl
@[simp] theorem raiseQuiet_track_traceAll (c : Cause) (s : State) : (raiseQuiet c s).track.traceAll = s.track.traceAll := by rw [raiseQuiet_eq]; rfl
@[simp] theorem raiseQuiet_track_traceRejects (c : Cause) (s : State) : (raiseQuiet c s).track.traceRejects = s.track.traceRejects := by rw [raiseQuiet_eq]; rfl

@[simp] theorem takeBacklog_feed (s : State) : (takeBacklog s).feed = s.feed := by rw [takeBacklog_eq]; rfl
@[simp] theorem takeBacklog_edge (s : State) : (takeBacklog s).edge = s.edge := by rw [takeBacklog_eq]; rfl
@[simp] theorem takeBacklog_route (s : State) : (takeBacklog s).route = s.route := by rw [takeBacklog_eq]; rfl
@[simp] theorem takeBacklog_watch (s : State) : (takeBacklog s).watch = s.watch := by rw [takeBacklog_eq]; rfl
@[simp] theorem takeBacklog_pocket (s : State) : (takeBacklog s).pocket = s.pocket := by rw [takeBacklog_eq]; rfl
@[simp] theorem takeBacklog_group (s : State) : (takeBacklog s).group = s.group := by rw [takeBacklog_eq]; rfl
@[simp] theorem takeBacklog_deposit (s : State) : (takeBacklog s).deposit = s.deposit := by rw [takeBacklog_eq]; rfl
@[simp] theorem takeBacklog_freeCount (s : State) : (takeBacklog s).freeCount = s.freeCount := by rw [takeBacklog_eq]; rfl
@[simp] theorem takeBacklog_pending (s : State) : (takeBacklog s).pending = s.pending := by rw [takeBacklog_eq]; rfl
@[simp] theorem takeBacklog_track_loaded (s : State) : (takeBacklog s).track.loaded = s.track.loaded := by rw [takeBacklog_eq]; rfl
@[simp] theorem takeBacklog_track_geometry (s : State) : (takeBacklog s).track.geometry = s.track.geometry := by rw [takeBacklog_eq]; rfl
@[simp] theorem takeBacklog_track_queue (s : State) : (takeBacklog s).track.queue = s.track.queue := by rw [takeBacklog_eq]; rfl
@[simp] theorem takeBacklog_track_waiting (s : State) : (takeBacklog s).track.waiting = s.track.waiting := by rw [takeBacklog_eq]; rfl
@[simp] theorem takeBacklog_track_losses (s : State) : (takeBacklog s).track.losses = s.track.losses := by rw [takeBacklog_eq]; rfl
@[simp] theorem takeBacklog_track_gates (s : State) : (takeBacklog s).track.gates = s.track.gates := by rw [takeBacklog_eq]; rfl
@[simp] theorem takeBacklog_track_gapMin (s : State) : (takeBacklog s).track.gapMin = s.track.gapMin := by rw [takeBacklog_eq]; rfl
@[simp] theorem takeBacklog_track_stallTime (s : State) : (takeBacklog s).track.stallTime = s.track.stallTime := by rw [takeBacklog_eq]; rfl
@[simp] theorem takeBacklog_track_startTime (s : State) : (takeBacklog s).track.startTime = s.track.startTime := by rw [takeBacklog_eq]; rfl
@[simp] theorem takeBacklog_track_traceAll (s : State) : (takeBacklog s).track.traceAll = s.track.traceAll := by rw [takeBacklog_eq]; rfl
@[simp] theorem takeBacklog_track_traceRejects (s : State) : (takeBacklog s).track.traceRejects = s.track.traceRejects := by rw [takeBacklog_eq]; rfl

@[simp] theorem emit_feed (r : Report) (s : State) : (emit r s).feed = s.feed := by rw [emit_eq]; rfl
@[simp] theorem emit_edge (r : Report) (s : State) : (emit r s).edge = s.edge := by rw [emit_eq]; rfl
@[simp] theorem emit_route (r : Report) (s : State) : (emit r s).route = s.route := by rw [emit_eq]; rfl
@[simp] theorem emit_watch (r : Report) (s : State) : (emit r s).watch = s.watch := by rw [emit_eq]; rfl
@[simp] theorem emit_pocket (r : Report) (s : State) : (emit r s).pocket = s.pocket := by rw [emit_eq]; rfl
@[simp] theorem emit_group (r : Report) (s : State) : (emit r s).group = s.group := by rw [emit_eq]; rfl
@[simp] theorem emit_deposit (r : Report) (s : State) : (emit r s).deposit = s.deposit := by rw [emit_eq]; rfl
@[simp] theorem emit_freeCount (r : Report) (s : State) : (emit r s).freeCount = s.freeCount := by rw [emit_eq]; rfl
@[simp] theorem emit_pending (r : Report) (s : State) : (emit r s).pending = s.pending := by rw [emit_eq]; rfl
@[simp] theorem emit_track_loaded (r : Report) (s : State) : (emit r s).track.loaded = s.track.loaded := by rw [emit_eq]; rfl
@[simp] theorem emit_track_geometry (r : Report) (s : State) : (emit r s).track.geometry = s.track.geometry := by rw [emit_eq]; rfl
@[simp] theorem emit_track_queue (r : Report) (s : State) : (emit r s).track.queue = s.track.queue := by rw [emit_eq]; rfl
@[simp] theorem emit_track_waiting (r : Report) (s : State) : (emit r s).track.waiting = s.track.waiting := by rw [emit_eq]; rfl
@[simp] theorem emit_track_losses (r : Report) (s : State) : (emit r s).track.losses = s.track.losses := by rw [emit_eq]; rfl
@[simp] theorem emit_track_gates (r : Report) (s : State) : (emit r s).track.gates = s.track.gates := by rw [emit_eq]; rfl
@[simp] theorem emit_track_gapMin (r : Report) (s : State) : (emit r s).track.gapMin = s.track.gapMin := by rw [emit_eq]; rfl
@[simp] theorem emit_track_stallTime (r : Report) (s : State) : (emit r s).track.stallTime = s.track.stallTime := by rw [emit_eq]; rfl
@[simp] theorem emit_track_startTime (r : Report) (s : State) : (emit r s).track.startTime = s.track.startTime := by rw [emit_eq]; rfl
@[simp] theorem emit_track_traceAll (r : Report) (s : State) : (emit r s).track.traceAll = s.track.traceAll := by rw [emit_eq]; rfl
@[simp] theorem emit_track_traceRejects (r : Report) (s : State) : (emit r s).track.traceRejects = s.track.traceRejects := by rw [emit_eq]; rfl

@[simp] theorem bump_feed (t : EventTally) (s : State) : (bump t s).feed = s.feed := by rw [bump_eq]; rfl
@[simp] theorem bump_edge (t : EventTally) (s : State) : (bump t s).edge = s.edge := by rw [bump_eq]; rfl
@[simp] theorem bump_route (t : EventTally) (s : State) : (bump t s).route = s.route := by rw [bump_eq]; rfl
@[simp] theorem bump_watch (t : EventTally) (s : State) : (bump t s).watch = s.watch := by rw [bump_eq]; rfl
@[simp] theorem bump_pocket (t : EventTally) (s : State) : (bump t s).pocket = s.pocket := by rw [bump_eq]; rfl
@[simp] theorem bump_group (t : EventTally) (s : State) : (bump t s).group = s.group := by rw [bump_eq]; rfl
@[simp] theorem bump_deposit (t : EventTally) (s : State) : (bump t s).deposit = s.deposit := by rw [bump_eq]; rfl
@[simp] theorem bump_freeCount (t : EventTally) (s : State) : (bump t s).freeCount = s.freeCount := by rw [bump_eq]; rfl
@[simp] theorem bump_pending (t : EventTally) (s : State) : (bump t s).pending = s.pending := by rw [bump_eq]; rfl
@[simp] theorem bump_track_loaded (t : EventTally) (s : State) : (bump t s).track.loaded = s.track.loaded := by rw [bump_eq]; rfl
@[simp] theorem bump_track_geometry (t : EventTally) (s : State) : (bump t s).track.geometry = s.track.geometry := by rw [bump_eq]; rfl
@[simp] theorem bump_track_queue (t : EventTally) (s : State) : (bump t s).track.queue = s.track.queue := by rw [bump_eq]; rfl
@[simp] theorem bump_track_waiting (t : EventTally) (s : State) : (bump t s).track.waiting = s.track.waiting := by rw [bump_eq]; rfl
@[simp] theorem bump_track_losses (t : EventTally) (s : State) : (bump t s).track.losses = s.track.losses := by rw [bump_eq]; rfl
@[simp] theorem bump_track_gates (t : EventTally) (s : State) : (bump t s).track.gates = s.track.gates := by rw [bump_eq]; rfl
@[simp] theorem bump_track_gapMin (t : EventTally) (s : State) : (bump t s).track.gapMin = s.track.gapMin := by rw [bump_eq]; rfl
@[simp] theorem bump_track_stallTime (t : EventTally) (s : State) : (bump t s).track.stallTime = s.track.stallTime := by rw [bump_eq]; rfl
@[simp] theorem bump_track_startTime (t : EventTally) (s : State) : (bump t s).track.startTime = s.track.startTime := by rw [bump_eq]; rfl
@[simp] theorem bump_track_traceAll (t : EventTally) (s : State) : (bump t s).track.traceAll = s.track.traceAll := by rw [bump_eq]; rfl
@[simp] theorem bump_track_traceRejects (t : EventTally) (s : State) : (bump t s).track.traceRejects = s.track.traceRejects := by rw [bump_eq]; rfl

@[simp] theorem raiseCause_feed (c : Cause) (s : State) : (raiseCause c s).feed = s.feed := by rw [raiseCause_eq]; rfl
@[simp] theorem raiseCause_edge (c : Cause) (s : State) : (raiseCause c s).edge = s.edge := by rw [raiseCause_eq]; rfl
@[simp] theorem raiseCause_route (c : Cause) (s : State) : (raiseCause c s).route = s.route := by rw [raiseCause_eq]; rfl
@[simp] theorem raiseCause_watch (c : Cause) (s : State) : (raiseCause c s).watch = s.watch := by rw [raiseCause_eq]; rfl
@[simp] theorem raiseCause_pocket (c : Cause) (s : State) : (raiseCause c s).pocket = s.pocket := by rw [raiseCause_eq]; rfl
@[simp] theorem raiseCause_group (c : Cause) (s : State) : (raiseCause c s).group = s.group := by rw [raiseCause_eq]; rfl
@[simp] theorem raiseCause_deposit (c : Cause) (s : State) : (raiseCause c s).deposit = s.deposit := by rw [raiseCause_eq]; rfl
@[simp] theorem raiseCause_freeCount (c : Cause) (s : State) : (raiseCause c s).freeCount = s.freeCount := by rw [raiseCause_eq]; rfl
@[simp] theorem raiseCause_pending (c : Cause) (s : State) : (raiseCause c s).pending = s.pending := by rw [raiseCause_eq]; rfl
@[simp] theorem raiseCause_track_loaded (c : Cause) (s : State) : (raiseCause c s).track.loaded = s.track.loaded := by rw [raiseCause_eq]; rfl
@[simp] theorem raiseCause_track_geometry (c : Cause) (s : State) : (raiseCause c s).track.geometry = s.track.geometry := by rw [raiseCause_eq]; rfl
@[simp] theorem raiseCause_track_queue (c : Cause) (s : State) : (raiseCause c s).track.queue = s.track.queue := by rw [raiseCause_eq]; rfl
@[simp] theorem raiseCause_track_waiting (c : Cause) (s : State) : (raiseCause c s).track.waiting = s.track.waiting := by rw [raiseCause_eq]; rfl
@[simp] theorem raiseCause_track_losses (c : Cause) (s : State) : (raiseCause c s).track.losses = s.track.losses := by rw [raiseCause_eq]; rfl
@[simp] theorem raiseCause_track_gates (c : Cause) (s : State) : (raiseCause c s).track.gates = s.track.gates := by rw [raiseCause_eq]; rfl
@[simp] theorem raiseCause_track_gapMin (c : Cause) (s : State) : (raiseCause c s).track.gapMin = s.track.gapMin := by rw [raiseCause_eq]; rfl
@[simp] theorem raiseCause_track_stallTime (c : Cause) (s : State) : (raiseCause c s).track.stallTime = s.track.stallTime := by rw [raiseCause_eq]; rfl
@[simp] theorem raiseCause_track_startTime (c : Cause) (s : State) : (raiseCause c s).track.startTime = s.track.startTime := by rw [raiseCause_eq]; rfl
@[simp] theorem raiseCause_track_traceAll (c : Cause) (s : State) : (raiseCause c s).track.traceAll = s.track.traceAll := by rw [raiseCause_eq]; rfl
@[simp] theorem raiseCause_track_traceRejects (c : Cause) (s : State) : (raiseCause c s).track.traceRejects = s.track.traceRejects := by rw [raiseCause_eq]; rfl

@[simp] theorem answer_feed (tag code : Byte) (detail : Detail) (s : State) : (answer tag code detail s).feed = s.feed := by rw [answer_eq]; rfl
@[simp] theorem answer_edge (tag code : Byte) (detail : Detail) (s : State) : (answer tag code detail s).edge = s.edge := by rw [answer_eq]; rfl
@[simp] theorem answer_route (tag code : Byte) (detail : Detail) (s : State) : (answer tag code detail s).route = s.route := by rw [answer_eq]; rfl
@[simp] theorem answer_watch (tag code : Byte) (detail : Detail) (s : State) : (answer tag code detail s).watch = s.watch := by rw [answer_eq]; rfl
@[simp] theorem answer_pocket (tag code : Byte) (detail : Detail) (s : State) : (answer tag code detail s).pocket = s.pocket := by rw [answer_eq]; rfl
@[simp] theorem answer_group (tag code : Byte) (detail : Detail) (s : State) : (answer tag code detail s).group = s.group := by rw [answer_eq]; rfl
@[simp] theorem answer_deposit (tag code : Byte) (detail : Detail) (s : State) : (answer tag code detail s).deposit = s.deposit := by rw [answer_eq]; rfl
@[simp] theorem answer_freeCount (tag code : Byte) (detail : Detail) (s : State) : (answer tag code detail s).freeCount = s.freeCount := by rw [answer_eq]; rfl
@[simp] theorem answer_pending (tag code : Byte) (detail : Detail) (s : State) : (answer tag code detail s).pending = s.pending := by rw [answer_eq]; rfl
@[simp] theorem answer_track_loaded (tag code : Byte) (detail : Detail) (s : State) : (answer tag code detail s).track.loaded = s.track.loaded := by rw [answer_eq]; rfl
@[simp] theorem answer_track_geometry (tag code : Byte) (detail : Detail) (s : State) : (answer tag code detail s).track.geometry = s.track.geometry := by rw [answer_eq]; rfl
@[simp] theorem answer_track_queue (tag code : Byte) (detail : Detail) (s : State) : (answer tag code detail s).track.queue = s.track.queue := by rw [answer_eq]; rfl
@[simp] theorem answer_track_waiting (tag code : Byte) (detail : Detail) (s : State) : (answer tag code detail s).track.waiting = s.track.waiting := by rw [answer_eq]; rfl
@[simp] theorem answer_track_losses (tag code : Byte) (detail : Detail) (s : State) : (answer tag code detail s).track.losses = s.track.losses := by rw [answer_eq]; rfl
@[simp] theorem answer_track_gates (tag code : Byte) (detail : Detail) (s : State) : (answer tag code detail s).track.gates = s.track.gates := by rw [answer_eq]; rfl
@[simp] theorem answer_track_gapMin (tag code : Byte) (detail : Detail) (s : State) : (answer tag code detail s).track.gapMin = s.track.gapMin := by rw [answer_eq]; rfl
@[simp] theorem answer_track_stallTime (tag code : Byte) (detail : Detail) (s : State) : (answer tag code detail s).track.stallTime = s.track.stallTime := by rw [answer_eq]; rfl
@[simp] theorem answer_track_startTime (tag code : Byte) (detail : Detail) (s : State) : (answer tag code detail s).track.startTime = s.track.startTime := by rw [answer_eq]; rfl
@[simp] theorem answer_track_traceAll (tag code : Byte) (detail : Detail) (s : State) : (answer tag code detail s).track.traceAll = s.track.traceAll := by rw [answer_eq]; rfl
@[simp] theorem answer_track_traceRejects (tag code : Byte) (detail : Detail) (s : State) : (answer tag code detail s).track.traceRejects = s.track.traceRejects := by rw [answer_eq]; rfl

@[simp] theorem refuse_feed (tag code : Byte) (reason : RefusalReason) (s : State) : (refuse tag code reason s).feed = s.feed := by rw [refuse_eq]; rfl
@[simp] theorem refuse_edge (tag code : Byte) (reason : RefusalReason) (s : State) : (refuse tag code reason s).edge = s.edge := by rw [refuse_eq]; rfl
@[simp] theorem refuse_route (tag code : Byte) (reason : RefusalReason) (s : State) : (refuse tag code reason s).route = s.route := by rw [refuse_eq]; rfl
@[simp] theorem refuse_watch (tag code : Byte) (reason : RefusalReason) (s : State) : (refuse tag code reason s).watch = s.watch := by rw [refuse_eq]; rfl
@[simp] theorem refuse_pocket (tag code : Byte) (reason : RefusalReason) (s : State) : (refuse tag code reason s).pocket = s.pocket := by rw [refuse_eq]; rfl
@[simp] theorem refuse_group (tag code : Byte) (reason : RefusalReason) (s : State) : (refuse tag code reason s).group = s.group := by rw [refuse_eq]; rfl
@[simp] theorem refuse_deposit (tag code : Byte) (reason : RefusalReason) (s : State) : (refuse tag code reason s).deposit = s.deposit := by rw [refuse_eq]; rfl
@[simp] theorem refuse_freeCount (tag code : Byte) (reason : RefusalReason) (s : State) : (refuse tag code reason s).freeCount = s.freeCount := by rw [refuse_eq]; rfl
@[simp] theorem refuse_pending (tag code : Byte) (reason : RefusalReason) (s : State) : (refuse tag code reason s).pending = s.pending := by rw [refuse_eq]; rfl
@[simp] theorem refuse_track_loaded (tag code : Byte) (reason : RefusalReason) (s : State) : (refuse tag code reason s).track.loaded = s.track.loaded := by rw [refuse_eq]; rfl
@[simp] theorem refuse_track_geometry (tag code : Byte) (reason : RefusalReason) (s : State) : (refuse tag code reason s).track.geometry = s.track.geometry := by rw [refuse_eq]; rfl
@[simp] theorem refuse_track_queue (tag code : Byte) (reason : RefusalReason) (s : State) : (refuse tag code reason s).track.queue = s.track.queue := by rw [refuse_eq]; rfl
@[simp] theorem refuse_track_waiting (tag code : Byte) (reason : RefusalReason) (s : State) : (refuse tag code reason s).track.waiting = s.track.waiting := by rw [refuse_eq]; rfl
@[simp] theorem refuse_track_losses (tag code : Byte) (reason : RefusalReason) (s : State) : (refuse tag code reason s).track.losses = s.track.losses := by rw [refuse_eq]; rfl
@[simp] theorem refuse_track_gates (tag code : Byte) (reason : RefusalReason) (s : State) : (refuse tag code reason s).track.gates = s.track.gates := by rw [refuse_eq]; rfl
@[simp] theorem refuse_track_gapMin (tag code : Byte) (reason : RefusalReason) (s : State) : (refuse tag code reason s).track.gapMin = s.track.gapMin := by rw [refuse_eq]; rfl
@[simp] theorem refuse_track_stallTime (tag code : Byte) (reason : RefusalReason) (s : State) : (refuse tag code reason s).track.stallTime = s.track.stallTime := by rw [refuse_eq]; rfl
@[simp] theorem refuse_track_startTime (tag code : Byte) (reason : RefusalReason) (s : State) : (refuse tag code reason s).track.startTime = s.track.startTime := by rw [refuse_eq]; rfl
@[simp] theorem refuse_track_traceAll (tag code : Byte) (reason : RefusalReason) (s : State) : (refuse tag code reason s).track.traceAll = s.track.traceAll := by rw [refuse_eq]; rfl
@[simp] theorem refuse_track_traceRejects (tag code : Byte) (reason : RefusalReason) (s : State) : (refuse tag code reason s).track.traceRejects = s.track.traceRejects := by rw [refuse_eq]; rfl

/-! ### Field by field: causes -/

@[simp] theorem putCause_feed (held : Bool) (c : Cause) (s : State) : (putCause held c s).feed = s.feed := rfl
@[simp] theorem putCause_edge (held : Bool) (c : Cause) (s : State) : (putCause held c s).edge = s.edge := rfl
@[simp] theorem putCause_route (held : Bool) (c : Cause) (s : State) : (putCause held c s).route = s.route := rfl
@[simp] theorem putCause_watch (held : Bool) (c : Cause) (s : State) : (putCause held c s).watch = s.watch := rfl
@[simp] theorem putCause_pocket (held : Bool) (c : Cause) (s : State) : (putCause held c s).pocket = s.pocket := rfl
@[simp] theorem putCause_group (held : Bool) (c : Cause) (s : State) : (putCause held c s).group = s.group := rfl
@[simp] theorem putCause_deposit (held : Bool) (c : Cause) (s : State) : (putCause held c s).deposit = s.deposit := rfl
@[simp] theorem putCause_freeCount (held : Bool) (c : Cause) (s : State) : (putCause held c s).freeCount = s.freeCount := rfl
@[simp] theorem putCause_pending (held : Bool) (c : Cause) (s : State) : (putCause held c s).pending = s.pending := rfl
@[simp] theorem putCause_track (held : Bool) (c : Cause) (s : State) : (putCause held c s).track = s.track := rfl
@[simp] theorem putCause_report (held : Bool) (c : Cause) (s : State) : (putCause held c s).report = s.report := rfl

@[simp] theorem endCause_feed (c : Cause) (s : State) : (endCause c s).feed = s.feed := rfl
@[simp] theorem endCause_edge (c : Cause) (s : State) : (endCause c s).edge = s.edge := rfl
@[simp] theorem endCause_route (c : Cause) (s : State) : (endCause c s).route = s.route := rfl
@[simp] theorem endCause_watch (c : Cause) (s : State) : (endCause c s).watch = s.watch := rfl
@[simp] theorem endCause_pocket (c : Cause) (s : State) : (endCause c s).pocket = s.pocket := rfl
@[simp] theorem endCause_group (c : Cause) (s : State) : (endCause c s).group = s.group := rfl
@[simp] theorem endCause_deposit (c : Cause) (s : State) : (endCause c s).deposit = s.deposit := rfl
@[simp] theorem endCause_freeCount (c : Cause) (s : State) : (endCause c s).freeCount = s.freeCount := rfl
@[simp] theorem endCause_pending (c : Cause) (s : State) : (endCause c s).pending = s.pending := rfl
@[simp] theorem endCause_track (c : Cause) (s : State) : (endCause c s).track = s.track := rfl
@[simp] theorem endCause_report (c : Cause) (s : State) : (endCause c s).report = s.report := rfl

/-! ### The transmitter and hard reset -/

/-- setTransmitter changes the Report Unit alone. -/
theorem setTransmitter_eq (tx : Transmitter) (s : State) :
    setTransmitter tx s = s.setReport { s.report with tx := tx, reportTx := tx.line } := rfl

@[simp] theorem setTransmitter_feed (tx : Transmitter) (s : State) : (setTransmitter tx s).feed = s.feed := rfl
@[simp] theorem setTransmitter_edge (tx : Transmitter) (s : State) : (setTransmitter tx s).edge = s.edge := rfl
@[simp] theorem setTransmitter_route (tx : Transmitter) (s : State) : (setTransmitter tx s).route = s.route := rfl
@[simp] theorem setTransmitter_watch (tx : Transmitter) (s : State) : (setTransmitter tx s).watch = s.watch := rfl
@[simp] theorem setTransmitter_pocket (tx : Transmitter) (s : State) : (setTransmitter tx s).pocket = s.pocket := rfl
@[simp] theorem setTransmitter_group (tx : Transmitter) (s : State) : (setTransmitter tx s).group = s.group := rfl
@[simp] theorem setTransmitter_track (tx : Transmitter) (s : State) : (setTransmitter tx s).track = s.track := rfl
@[simp] theorem setTransmitter_deposit (tx : Transmitter) (s : State) : (setTransmitter tx s).deposit = s.deposit := rfl
@[simp] theorem setTransmitter_line (tx : Transmitter) (s : State) : (setTransmitter tx s).line = s.line := rfl
@[simp] theorem setTransmitter_freeCount (tx : Transmitter) (s : State) : (setTransmitter tx s).freeCount = s.freeCount := rfl
@[simp] theorem setTransmitter_pending (tx : Transmitter) (s : State) : (setTransmitter tx s).pending = s.pending := rfl
@[simp] theorem setTransmitter_report_queue (tx : Transmitter) (s : State) : (setTransmitter tx s).report.queue = s.report.queue := rfl
@[simp] theorem setTransmitter_report_lossMark (tx : Transmitter) (s : State) : (setTransmitter tx s).report.lossMark = s.report.lossMark := rfl
@[simp] theorem setTransmitter_report_backlog (tx : Transmitter) (s : State) : (setTransmitter tx s).report.backlog = s.report.backlog := rfl
@[simp] theorem setTransmitter_report_accepted (tx : Transmitter) (s : State) : (setTransmitter tx s).report.accepted = s.report.accepted := rfl
@[simp] theorem setTransmitter_report_events (tx : Transmitter) (s : State) : (setTransmitter tx s).report.events = s.report.events := rfl
@[simp] theorem setTransmitter_report_noticeMask (tx : Transmitter) (s : State) : (setTransmitter tx s).report.noticeMask = s.report.noticeMask := rfl
@[simp] theorem setTransmitter_report_segment (tx : Transmitter) (s : State) : (setTransmitter tx s).report.segment = s.report.segment := rfl
@[simp] theorem setTransmitter_report_rdyIn (tx : Transmitter) (s : State) : (setTransmitter tx s).report.rdyIn = s.report.rdyIn := rfl
@[simp] theorem setTransmitter_report_tx (tx : Transmitter) (s : State) : (setTransmitter tx s).report.tx = tx := rfl
@[simp] theorem setTransmitter_report_reportTx (tx : Transmitter) (s : State) : (setTransmitter tx s).report.reportTx = tx.line := rfl

/-- The levels of a byte, written out (R1, R190). -/
theorem byteLevels_eq (b : Byte) :
    byteLevels b = [false, b.getLsbD 0, b.getLsbD 1, b.getLsbD 2, b.getLsbD 3, b.getLsbD 4, b.getLsbD 5, b.getLsbD 6, b.getLsbD 7,
      true] := rfl

/-- Every byte takes ten bit times (R1, R190). -/
theorem lineLevels_length (bytes : List Byte) : (lineLevels bytes).length = 10 * bytes.length := by
  induction bytes with
  | nil => rfl
  | cons b rest ih =>
    have step : (lineLevels (b :: rest)).length = 10 + (lineLevels rest).length := by simp [lineLevels, byteLevels_eq]; omega
    rw [step, ih, List.length_cons]
    omega

/-- The part while RESET_N is low is at its hard-reset values, with an empty Report Queue and REPORT_TX high (R188, R190). -/
theorem holdReset_eq (s : State) :
    holdReset s = { State.reset with
      report := { State.reset.report with queue := [], tx := .held, reportTx := .high }, freeCount := s.freeCount, pending := s.pending } :=
  rfl

/-- The release of RESET_N leaves the machine as it is right after hard reset (R188). -/
theorem releaseReset_holdReset (s : State) :
    releaseReset (holdReset s) = { State.reset with freeCount := s.freeCount, pending := s.pending } := rfl

end Sys2Proof.Machine
end

