-- ==== Sys2Proof/Laws/PerInstr.lean ====
section
/-! SUPPORT. Facts of every command as syntax, one lemma a constructor: a well-formed control request fits a CONTROL frame. -/

namespace Sys2Proof.Laws.ControlFits

/-- The payload of a well-formed control request has the 2 to 60 bytes of a CONTROL frame (R2); a command that is no control
record has no payload. -/
def Statement (i : Instr) : Prop :=
  i.wf = true → ∀ p, encodeControl i = some p → 2 ≤ p.length ∧ p.length ≤ 60

theorem feedByte (b : Byte) (faulted : Bool) : Statement (.feedByte b faulted) := by
  intro _ p hp
  cases hp

theorem noteRecord (r : NoteRecord) : Statement (.noteRecord r) := by
  intro _ p hp
  cases hp

theorem separatorRecord (r : SeparatorRecord) : Statement (.separatorRecord r) := by
  intro _ p hp
  cases hp

theorem controlFormatRefusal (tag code : Byte) (args : List Byte) : Statement (.controlFormatRefusal tag code args) := by
  intro h p hp
  cases hp
  simp [Instr.wf] at h
  simp only [List.length_cons]
  omega

theorem setParamLengthMin (tag : Byte) (value : Word) : Statement (.setParamLengthMin tag value) := by
  intro _ p hp
  cases hp
  exact ⟨by simp [encodeParam, bytes32], by simp [encodeParam, bytes32]⟩

theorem setParamLengthMax (tag : Byte) (value : Word) : Statement (.setParamLengthMax tag value) := by
  intro _ p hp
  cases hp
  exact ⟨by simp [encodeParam, bytes32], by simp [encodeParam, bytes32]⟩

theorem setParamRequireDeposit (tag : Byte) (value : Word) : Statement (.setParamRequireDeposit tag value) := by
  intro _ p hp
  cases hp
  exact ⟨by simp [encodeParam, bytes32], by simp [encodeParam, bytes32]⟩

theorem setParamQuarantinePocket (tag : Byte) (value : Word) : Statement (.setParamQuarantinePocket tag value) := by
  intro _ p hp
  cases hp
  exact ⟨by simp [encodeParam, bytes32], by simp [encodeParam, bytes32]⟩

theorem setParamQuarantineLimit (tag : Byte) (value : Word) : Statement (.setParamQuarantineLimit tag value) := by
  intro _ p hp
  cases hp
  exact ⟨by simp [encodeParam, bytes32], by simp [encodeParam, bytes32]⟩

theorem setParamGapMin (tag : Byte) (value : Word) : Statement (.setParamGapMin tag value) := by
  intro _ p hp
  cases hp
  exact ⟨by simp [encodeParam, bytes32], by simp [encodeParam, bytes32]⟩

theorem setParamStallTime (tag : Byte) (value : Word) : Statement (.setParamStallTime tag value) := by
  intro _ p hp
  cases hp
  exact ⟨by simp [encodeParam, bytes32], by simp [encodeParam, bytes32]⟩

theorem setParamStartTime (tag : Byte) (value : Word) : Statement (.setParamStartTime tag value) := by
  intro _ p hp
  cases hp
  exact ⟨by simp [encodeParam, bytes32], by simp [encodeParam, bytes32]⟩

theorem setParamTraceAll (tag : Byte) (value : Word) : Statement (.setParamTraceAll tag value) := by
  intro _ p hp
  cases hp
  exact ⟨by simp [encodeParam, bytes32], by simp [encodeParam, bytes32]⟩

theorem setParamTraceRejects (tag : Byte) (value : Word) : Statement (.setParamTraceRejects tag value) := by
  intro _ p hp
  cases hp
  exact ⟨by simp [encodeParam, bytes32], by simp [encodeParam, bytes32]⟩

theorem setParamNoticeMask (tag : Byte) (value : Word) : Statement (.setParamNoticeMask tag value) := by
  intro _ p hp
  cases hp
  exact ⟨by simp [encodeParam, bytes32], by simp [encodeParam, bytes32]⟩

theorem setParamStrapPreset (tag : Byte) (g : GroupNo) (value : Word) : Statement (.setParamStrapPreset tag g value) := by
  intro _ p hp
  cases hp
  exact ⟨by simp [encodeParam, bytes32], by simp [encodeParam, bytes32]⟩

theorem setParamDenominationPurity (tag : Byte) (g : GroupNo) (value : Word) : Statement (.setParamDenominationPurity tag g value) := by
  intro _ p hp
  cases hp
  exact ⟨by simp [encodeParam, bytes32], by simp [encodeParam, bytes32]⟩

theorem setParamDepositPurity (tag : Byte) (g : GroupNo) (value : Word) : Statement (.setParamDepositPurity tag g value) := by
  intro _ p hp
  cases hp
  exact ⟨by simp [encodeParam, bytes32], by simp [encodeParam, bytes32]⟩

theorem setParamBrickSize (tag : Byte) (g : GroupNo) (value : Word) : Statement (.setParamBrickSize tag g value) := by
  intro _ p hp
  cases hp
  exact ⟨by simp [encodeParam, bytes32], by simp [encodeParam, bytes32]⟩

theorem setParamLowThreshold (tag : Byte) (g : GroupNo) (value : Word) : Statement (.setParamLowThreshold tag g value) := by
  intro _ p hp
  cases hp
  exact ⟨by simp [encodeParam, bytes32], by simp [encodeParam, bytes32]⟩

theorem setParamOverflowAction (tag : Byte) (g : GroupNo) (value : Word) : Statement (.setParamOverflowAction tag g value) := by
  intro _ p hp
  cases hp
  exact ⟨by simp [encodeParam, bytes32], by simp [encodeParam, bytes32]⟩

theorem setGeometry (tag : Byte) (geo : Geometry) : Statement (.setGeometry tag geo) := by
  intro _ p hp
  cases hp
  simp [encodeGeometry, bytes16, List.length_flatMap]

theorem sync (tag next : Byte) : Statement (.sync tag next) := by
  intro _ p hp
  cases hp
  exact ⟨by simp, by simp⟩

theorem routeWrite (tag index : Byte) (a : RouteArgs) : Statement (.routeWrite tag index a) := by
  intro _ p hp
  cases hp
  exact ⟨by simp [bytes16], by simp [bytes16]⟩

theorem routeLink (tag index list position : Byte) : Statement (.routeLink tag index list position) := by
  intro _ p hp
  cases hp
  exact ⟨by simp, by simp⟩

theorem routeUnlink (tag index : Byte) : Statement (.routeUnlink tag index) := by
  intro _ p hp
  cases hp
  exact ⟨by simp, by simp⟩

theorem routeSwap (tag : Byte) : Statement (.routeSwap tag) := by
  intro _ p hp
  cases hp
  exact ⟨by simp, by simp⟩

theorem watchAdd (tag denom : Byte) (caseRef : Word) (serial : List Byte) : Statement (.watchAdd tag denom caseRef serial) := by
  intro h p hp
  cases hp
  simp [Instr.wf] at h
  simp only [bytes32, List.length_cons, List.cons_append, List.nil_append]
  omega

theorem watchRemove (tag denom : Byte) (serial : List Byte) : Statement (.watchRemove tag denom serial) := by
  intro h p hp
  cases hp
  simp [Instr.wf] at h
  simp only [List.length_cons]
  omega

theorem watchClear (tag : Byte) : Statement (.watchClear tag) := by
  intro _ p hp
  cases hp
  exact ⟨by simp, by simp⟩

theorem groupDefine (tag group : Byte) (pockets : List Byte) : Statement (.groupDefine tag group pockets) := by
  intro h p hp
  cases hp
  simp [Instr.wf] at h
  simp only [List.length_cons]
  omega

theorem groupFlush (tag group : Byte) : Statement (.groupFlush tag group) := by
  intro _ p hp
  cases hp
  exact ⟨by simp, by simp⟩

theorem pocketEnable (tag pocket setting : Byte) : Statement (.pocketEnable tag pocket setting) := by
  intro _ p hp
  cases hp
  exact ⟨by simp, by simp⟩

theorem quarantineRelease (tag : Byte) : Statement (.quarantineRelease tag) := by
  intro _ p hp
  cases hp
  exact ⟨by simp, by simp⟩

theorem declare (tag : Byte) (id : Word) (lines : List (Byte × Half)) : Statement (.declare tag id lines) := by
  intro h p hp
  cases hp
  simp [Instr.wf] at h
  simp [bytes32, bytes16, List.length_flatMap, List.map_const']
  omega

theorem declareCancel (tag : Byte) (id : Word) : Statement (.declareCancel tag id) := by
  intro _ p hp
  cases hp
  exact ⟨by simp [bytes32], by simp [bytes32]⟩

theorem lineStart (tag : Byte) : Statement (.lineStart tag) := by
  intro _ p hp
  cases hp
  exact ⟨by simp, by simp⟩

theorem lineStop (tag : Byte) : Statement (.lineStop tag) := by
  intro _ p hp
  cases hp
  exact ⟨by simp, by simp⟩

theorem lineHalt (tag : Byte) : Statement (.lineHalt tag) := by
  intro _ p hp
  cases hp
  exact ⟨by simp, by simp⟩

theorem lineResume (tag : Byte) : Statement (.lineResume tag) := by
  intro _ p hp
  cases hp
  exact ⟨by simp, by simp⟩

theorem recover (tag next : Byte) : Statement (.recover tag next) := by
  intro _ p hp
  cases hp
  exact ⟨by simp, by simp⟩

theorem lineReset (tag : Byte) : Statement (.lineReset tag) := by
  intro _ p hp
  cases hp
  exact ⟨by simp, by simp⟩

theorem statusRead (tag : Byte) : Statement (.statusRead tag) := by
  intro _ p hp
  cases hp
  exact ⟨by simp, by simp⟩

theorem tallyRead (tag group clear : Byte) : Statement (.tallyRead tag group clear) := by
  intro _ p hp
  cases hp
  exact ⟨by simp, by simp⟩

theorem encEdge : Statement (.encEdge) := by
  intro _ p hp
  cases hp

theorem admissionDeadline : Statement (.admissionDeadline) := by
  intro _ p hp
  cases hp

theorem divertWindowOpen : Statement (.divertWindowOpen) := by
  intro _ p hp
  cases hp

theorem divertWindowClose : Statement (.divertWindowClose) := by
  intro _ p hp
  cases hp

theorem arrivalWindowEnd : Statement (.arrivalWindowEnd) := by
  intro _ p hp
  cases hp

theorem stallTimerExpiry : Statement (.stallTimerExpiry) := by
  intro _ p hp
  cases hp

theorem leadingEdge : Statement (.leadingEdge) := by
  intro _ p hp
  cases hp

theorem trailingEdge : Statement (.trailingEdge) := by
  intro _ p hp
  cases hp

theorem arrivalPulse (p : Fin 16) : Statement (.arrivalPulse p) := by
  intro _ p hp
  cases hp

theorem pocketCleared (p : Fin 16) : Statement (.pocketCleared p) := by
  intro _ p hp
  cases hp

theorem operatorStop : Statement (.operatorStop) := by
  intro _ p hp
  cases hp

theorem hardReset : Statement (.hardReset) := by
  intro _ p hp
  cases hp

theorem idleByteSent (rdyIn : Bool) : Statement (.idleByteSent rdyIn) := by
  intro _ p hp
  cases hp

theorem frameStart : Statement (.frameStart) := by
  intro _ p hp
  cases hp

theorem frameSent : Statement (.frameSent) := by
  intro _ p hp
  cases hp

end Sys2Proof.Laws.ControlFits
end

