-- ==== Sys2Proof/Tests/Slice0.lean ====
section
/-! SUPPORT. Tests: ill-formed commands that the check refuses, single commands with the outcome the manual gives, and for every
obligation with hypotheses a witness that meets them, clause by clause. -/

namespace Sys2Proof.Tests

open Sys2Proof.Machine

set_option Elab.async false

/-! ### Small states and records to test on -/

/-- The state after one command. -/
def after (c : Instr) (s : State) : State :=
  match exec c s with
  | .next t => t
  | .fault _ | .refused _ => s

/-- A note of denomination 7, series 2. -/
def note : NoteRecord := { seq := 5, cls := .genuine, code := some (7, 2), fitness := 1, orientation := 2, serial := none }

/-- The serial of the manual's cell example (R66). -/
def digits : Serial := [0x31, 0x32, 0x33, 0x34, 0x35, 0x36, 0x37, 0x38, 0x39]

/-- A separator that opens deposit 9100. -/
def card : SeparatorRecord := { seq := 5, depositId := 9100, parent := none, kind := 1, endFlag := false }

/-- A held edge with a good length and gap, led at position 0. -/
def edge (item : Word) (seq : Byte) : HeldEdge :=
  { item := item, seq := seq, lead := 0, trail := some 300, gap := some 100, deadline := 600 }

/-- A geometry with D(p) = 1000 p for the gated pockets and D(0) = 16000; LEAD + LAG is the initial GAP_MIN. -/
def geometry : Geometry :=
  { d := #v[16000, 1000, 2000, 3000, 4000, 5000, 6000, 7000, 8000, 9000, 10000, 11000, 12000, 13000, 14000, 15000]
    lead := 20, lag := 20, tol := 10, admitLimit := 600 }

/-- A route object that admits every note. -/
def catchAll (target : Target) (quota : Option Nat) : RouteObject :=
  { RouteObject.initial with
    classSet := 15, fitnessSet := 15, orientSet := 15, kindSet := 15, target := target, preset := quota
    remaining := quota.getD 0 }

/-- A deposit as it opens. -/
def deposit (slot : SlotNo) (id : Word) (state : DepositState) : Deposit :=
  { slot := slot, id := id, parent := none, kind := 1, state := state, cardItem := 1, accepted := Vector.replicate 33 0
    runOut := Vector.replicate 10 0, cards := 0, quarantine := 0, watchHits := 0, lost := 0, inFlight := 0, itemCount := 0
    firstItem := none, lastItem := none, boundaryLost := false }

/-- An entry of the Track Queue, its arrival window 990 to 1310. -/
def entry (item : Word) (dest : Dest) (reason : Reason) : Entry :=
  { item := item, seq := 9, kind := .note, cls := some .genuine, denom := some 7, serial := none, slot := none, lead := 0
    length := some 300, gap := some 100, dest := dest, reason := reason, route := none, caseRef := none, lateMark := false
    shadow := none, divert := none, arrival := { first := 990, last := 1310 }, trace := false }

/-- An UNREAD entry waiting for its late record. -/
def unread : Entry := { entry 4 .runOut .unread with kind := .unread, cls := none, denom := none, seq := 5 }

/-- A set-up line in IDLE: geometry, group 0 of pockets 1 and 2, quarantine pocket 3, route object 0 to group 0 in ACTIVE and 1 in
STANDBY, one watch entry. -/
def rig : State :=
  { State.reset with
    feed := .wait
    route := { State.reset.route with
      objects := (State.reset.route.objects.set 0 (catchAll (.group 0) (some 2))).set 1 (catchAll .runOut none)
      active := [0], standby := [1] }
    watch := { list := [{ serial := digits, denom := none, caseRef := 77 }], index := [(2481, 1)] }
    pocket := { State.reset.pocket with
      pockets := ((State.reset.pocket.pockets.set 0 (PocketRec.fresh .openState true)).set 1 (PocketRec.fresh .openState true)).set 2
        (PocketRec.fresh .openState true)
      quarantine := some 2 }
    group := { State.reset.group with
      groups := State.reset.group.groups.set 0 { GroupRec.initial with members := [0, 1], current := some 0, armed := true } }
    track := { State.reset.track with loaded := true, geometry := geometry }
    report := { State.reset.report with queue := [] } }

/-- The rig with the line in another state. -/
def lineIn (l : LineState) : State := { rig with line := { rig.line with state := l } }

/-- The rig in HALT with a resume target. -/
def halted (r : Resume) : State := { rig with line := { rig.line with state := .halt, resume := some r } }

/-- The rig holding edges. -/
def holding (edges : List HeldEdge) (s : State) : State := { s with edge := { s.edge with fifo := edges } }

/-- A state with a Track Queue. -/
def tracking (es : List Entry) (s : State) : State := { s with track := { s.track with queue := es } }

/-- A state at a position. -/
def atPosition (x : Pos) (s : State) : State := { s with edge := { s.edge with position := x } }

/-- A state with deposits held. -/
def depositing (ds : List Deposit) (s : State) : State := { s with deposit := { s.deposit with deposits := ds } }

/-- A state with one gated pocket's record replaced. -/
def pocketed (g : Gate) (r : PocketRec) (s : State) : State :=
  { s with pocket := { s.pocket with pockets := s.pocket.pockets.set g r } }

/-- A bundle in progress with its target. -/
def bundle (state : PocketState) (target committed confirmed : Nat) : PocketRec :=
  { PocketRec.fresh state true with
    target := some target, committed := committed, confirmed := confirmed, denom := some (.code 7) }

/-- A state with a number of reports queued. -/
def queued (n : Nat) (s : State) : State :=
  { s with report := { s.report with queue := List.replicate n { report := .ready 1, loss := 0 } } }

/-- A TRACE report. -/
def aTrace : Report := traceReport (entry 4 .runOut .unread) .confirmed (some 0) rig

/-! ### The well-formedness check refuses an ill-formed command (R2, R10, R13) -/

theorem test_note_without_code_refused : Instr.wf (.noteRecord { note with code := none }) = false := by decide

theorem test_coded_multiple_refused : Instr.wf (.noteRecord { note with cls := .multiple }) = false := by decide

theorem test_short_and_long_serial_refused :
    Instr.wf (.noteRecord { note with serial := some [0x31, 0x32, 0x33] }) = false ∧
    Instr.wf (.noteRecord { note with serial := some (List.replicate 13 0x31) }) = false ∧
    Instr.wf (.noteRecord { note with serial := some (List.replicate 4 0x31) }) = true ∧
    Instr.wf (.noteRecord { note with serial := some (List.replicate 12 0x31) }) = true := by decide

theorem test_serial_character_refused :
    Instr.wf (.noteRecord { note with serial := some [0x31, 0x32, 0x33, 0x61] }) = false := by decide

theorem test_format_refusal_of_good_record_refused : Instr.wf (.controlFormatRefusal 1 0x53 []) = false := by decide

theorem test_long_format_refusal_refused : Instr.wf (.controlFormatRefusal 1 0x99 (List.replicate 59 0)) = false := by decide

theorem test_watch_add_refused :
    Instr.wf (.watchAdd 1 7 0 [0x61, 0x31, 0x32, 0x33]) = false ∧
    Instr.wf (.watchAdd 1 7 0 (List.replicate 53 0x31)) = false := by decide

theorem test_watch_remove_refused :
    Instr.wf (.watchRemove 1 7 [0x20, 0x31, 0x32, 0x33]) = false ∧
    Instr.wf (.watchRemove 1 7 (List.replicate 57 0x31)) = false := by decide

theorem test_long_group_define_refused : Instr.wf (.groupDefine 1 0 (List.replicate 57 1)) = false := by decide

theorem test_long_declare_refused : Instr.wf (.declare 1 9100 (List.replicate 18 (1, 1))) = false := by decide

/-! ### Bytes (R3, R6, section 11.3) -/

theorem test_no_table_word : decodeTableWord 8 0xC3 = none := rfl

theorem test_crc_and_cell : crc digits = 0x29B1 ∧ cellOf digits = 2481 := by decide +kernel

/-- Bit by bit from section 11.3: class SUSPECT 01, present 1, fitness 10, orientation 01, ignored 0; series 010, denomination 00111;
then four serial characters. -/
theorem test_note_bits :
    parseNote [0x29, 0b01110010, 0b01000111, 4, 0x41, 0x42, 0x30, 0x39] =
      some { seq := 41, cls := .suspect, code := some (7, 2), fitness := 2, orientation := 1
             serial := some [0x41, 0x42, 0x30, 0x39] } := by decide +kernel

theorem test_note_record_check_fails : parseNote [0x29, 0b11110010, 0b01000111, 0] = none ∧
    parseNote [0x29, 0b00100000, 0, 3, 0x41, 0x42, 0x30] = none ∧ parseNote [0x29, 0b00100000, 0, 1] = none := by decide +kernel

/-- A parent-present separator: kind 10, end flag 0, parent present 1. -/
theorem test_separator_bits :
    parseSeparator [7, 0, 0, 0x23, 0x8C, 0b10010000, 0, 0, 0, 9] =
      some { seq := 7, depositId := 9100, parent := some 9, kind := 2, endFlag := false } ∧
    parseSeparator [7, 0, 0, 0x23, 0x8C, 0b10010000] = none := by decide +kernel

theorem test_control_requests :
    parseControl [3, 0x11, 47, 1, 255] = some (.routeLink 3 47 1 255) ∧
    parseControl [3, 0x20, 0xFF, 0, 0, 0, 77, 4, 0x41, 0x42, 0x30, 0x39] = some (.watchAdd 3 0xFF 77 [0x41, 0x42, 0x30, 0x39]) ∧
    parseControl [3, 0x30, 1, 2, 3, 6] = some (.groupDefine 3 1 [3, 6]) ∧
    parseControl [3, 0x40, 0, 0, 0x23, 0x8C, 1, 7, 0, 9] = some (.declare 3 9100 [(7, 9)]) ∧
    parseControl [3, 0x01, 0x48, 0, 0, 0, 1] = some (.setParamOverflowAction 3 0 1) ∧
    parseControl [3, 0x01, 0x0C, 0, 0, 0, 1] = some (.controlFormatRefusal 3 0x01 [0x0C, 0, 0, 0, 1]) := by decide +kernel

/-- Three idle bytes leave HUNT on the fourth, and a start byte opens a frame (R8, R5). -/
theorem test_feed_byte :
    (after (.feedByte 0 false) { rig with feed := .hunt 3 }).feed = .wait ∧
    (after (.feedByte 0xC3 false) { rig with feed := .hunt 3 }).feed = .hunt 0 ∧
    (after (.feedByte 0xC3 false) rig).feed = .receiving Frame.empty ∧
    (after (.feedByte 0xC3 true) rig).report.events[11] = 1 := by decide +kernel

/-! ### The read point (section 2.6) -/

/-- Section 2.6.1: a leading edge at 10,360 with ADMIT_LIMIT 800 holds deadline 11,160. -/
theorem test_leading_edge :
    let s := { atPosition 10360 rig with track := { rig.track with geometry := { geometry with admitLimit := 800 } } }
    (after .leadingEdge s).edge.fifo.map (·.deadline) = [11160] ∧ (after .leadingEdge s).edge.nextItem = 2 ∧
    (after .leadingEdge s).edge.nextSeq = 1 := by decide +kernel

theorem test_trailing_edge :
    let s := after .trailingEdge (atPosition 310 (after .leadingEdge rig))
    s.edge.fifo.map (·.trail) = [some 310] ∧ s.edge.gap = some 0 := by decide +kernel

/-- Section 2.6.1: record 18 with 17 and 18 held is a slip: the older item UNREAD at run-out, the younger admitted. -/
theorem test_slip :
    let s := after (.noteRecord { note with seq := 18 }) (holding [edge 501 17, edge 502 18] rig)
    s.edge.fifo = [] ∧ s.track.queue.map (·.item) = [501, 502] ∧ s.track.queue.map (·.reason) = [.unread, .placed] ∧
    s.report.events[12] = 1 := by decide +kernel

/-- Section 2.6.2, the deadline taken first: the item is UNREAD, and its record is late. -/
theorem test_deadline_then_record :
    let s := after .admissionDeadline (atPosition 600 (holding [edge 610 5] rig))
    let t := after (.noteRecord { note with serial := some digits }) s
    s.track.queue.map (·.kind) = [.unread] ∧ t.track.queue.map (·.reason) = [.lateRecord] ∧
    t.track.queue.map (·.caseRef) = [some 77] ∧ t.report.events[17] = 1 := by decide +kernel

theorem test_enc_edge : (after .encEdge (atPosition 0xFFFFFF rig)).edge.position = 0 := by decide +kernel

/-- Section 2.6.3. -/
theorem test_sync : (after (.sync 1 0) { rig with edge := { rig.edge with nextSeq := 202 } }).edge.nextSeq = 0 := by decide +kernel

/-! ### Routes and the watch list (sections 3.8, 4.5) -/

/-- Section 3.8.1, item 4402: the second commitment of preset 2 spends the object and reports it. -/
theorem test_note_placed_and_quota_spent :
    let s1 := after (.noteRecord note) (holding [edge 4401 5] rig)
    let s2 := after (.noteRecord note) (holding [edge 4402 5] s1)
    (objectAt 0 s1).remaining = 1 ∧ (objectAt 0 s2).spent = true ∧
    s2.report.queue.map (·.report) = [.routeSpent 0 2 0 4402] ∧ (pocketAt 0 s2).committed = 2 := by decide +kernel

/-- Section 3.8.2, orders 1, 2 and 5. -/
theorem test_swap_at_separator :
    let s1 := after (.routeSwap 30) { lineIn .run with edge := { rig.edge with fifo := [edge 2303 5] } }
    let s2 := after (.routeUnlink 31 1) s1
    let s3 := after (.separatorRecord card) s2
    s1.route.swapPending = true ∧ s2.route.standby = [1] ∧ s3.route.active = [1] ∧ s3.route.standby = [0] ∧
    s3.route.swapPending = false ∧ (openDeposit s3).map (·.id) = some 9100 := by decide +kernel

/-- Section 4.5.1, orders 2 and 3: the same pair is a DUPLICATE, another denomination is not. -/
theorem test_watch_add :
    (after (.watchAdd 51 0xFF 1 digits) rig).report.queue.map (·.report) = [.answer 51 0x20 (some .duplicate) .none] ∧
    (after (.watchAdd 52 7 40001 digits) rig).report.queue.map (·.report) = [.answer 52 0x20 none (.entries 2)] ∧
    (after (.watchAdd 52 7 40001 digits) rig).watch.index = [(2481, 2)] := by decide +kernel

/-- Section 4.5.1, item 3102: a hit is held in the quarantine pocket. -/
theorem test_watch_hit_held :
    let s := after (.noteRecord { note with cls := .multiple, code := none, serial := some digits }) (holding [edge 3102 5] rig)
    s.track.queue.map (·.dest) = [.gated 2] ∧ s.track.queue.map (·.caseRef) = [some 77] ∧ (pocketAt 2 s).committed = 1 ∧
    s.report.events[17] = 1 := by decide +kernel

theorem test_watch_remove_and_clear :
    (after (.watchRemove 53 0xFF digits) rig).watch = { list := [], index := [] } ∧
    (after (.watchClear 54) rig).report.queue.map (·.report) = [.answer 54 0x22 none (.entries 1)] := by decide +kernel

/-! ### Pockets and groups (sections 5.11, 6.8) -/

/-- Section 5.11, order 7: the last arrival closes the bundle FULL; the BUNDLE report and the counters. -/
theorem test_bundle_closes :
    let s := tracking [entry 1204 (.gated 0) .placed] (pocketed 0 (bundle .closing 100 100 99) (atPosition 1000 rig))
    let t := after (.arrivalPulse 1) s
    (pocketAt 0 t).state = .full ∧ t.pocket.nextBundle = 2 ∧ t.report.events[21] = 1 ∧ t.report.accepted[7] = 1 ∧
    (t.group.accs[0]).map (·.bundles) = some [1] := by decide +kernel

/-- Section 5.11, order 10: 40 committed, 37 confirmed, preset 2: the carried bundle's target is 3, and it is CLOSING. -/
theorem test_pocket_cleared_carries :
    let s := pocketed 0 (bundle .openState 50 40 37)
      { rig with group := { rig.group with groups := rig.group.groups.set 0 { groupAt 0 rig with strap := 2 } } }
    let r := pocketAt 0 (after (.pocketCleared 1) s)
    r.state = .closing ∧ r.target = some 3 ∧ r.committed = 3 ∧ r.confirmed = 0 ∧ r.recount = true ∧ r.carried = true := by
  decide +kernel

/-- Section 6.8, order 6: no member can take the note: run-out NO_SPACE, GROUP_FULL held, and the line halts. -/
theorem test_group_full :
    let s := pocketed 0 (bundle .closing 2 2 0) (pocketed 1 (bundle .closing 2 2 0) (holding [edge 105 5] (lineIn .run)))
    let t := after (.noteRecord note) s
    t.track.queue.map (·.reason) = [.noSpace] ∧ t.line.causes.groupFull[0] = true ∧ t.line.state = .halt ∧
    t.line.resume = some .run := by decide +kernel

theorem test_group_requests :
    (groupAt 1 (after (.groupDefine 1 1 [7, 4]) rig)).members = [6, 3] ∧
    (after (.groupDefine 1 1 [1]) rig).report.queue.map (·.report) = [.answer 1 0x30 (some .duplicate) .none] ∧
    (pocketAt 0 (after (.groupFlush 1 0) (pocketed 0 (bundle .openState 100 3 3) rig))).state = .full ∧
    (pocketAt 0 (after (.pocketEnable 1 1 0) rig)).enabled = false := by decide +kernel

theorem test_quarantine_requests :
    (after (.setParamQuarantinePocket 1 0) rig).pocket.quarantine = none ∧
    (after (.setParamQuarantineLimit 1 1) (pocketed 2 (bundle .openState 9 1 1) rig)).line.causes.quarantineFull = true ∧
    (pocketAt 2 (after (.quarantineRelease 1) (pocketed 2 (bundle .openState 9 1 1) rig))).committed = 0 := by decide +kernel

/-! ### The track (section 7.9) -/

/-- Section 7.9.1's arithmetic: the windows of item 700 at a pocket 2,600 counts away. -/
theorem test_windows :
    let geo : Geometry := { geometry with d := geometry.d.set 6 2600, tol := 30 }
    divertWindow geo 40000 300 5 = { opens := 42580, closes := 42920, opened := false, closed := false } ∧
    arrivalWindow geo 40000 300 (.gated 5) = { first := 42570, last := 42930 } ∧
    arrivalWindow { geo with d := geo.d.set 0 5000 } 40310 290 .runOut = { first := 45280, last := 45630 } := by decide +kernel

theorem test_gate_opens_and_closes :
    let w : DivertWindow := { opens := 980, closes := 1320, opened := false, closed := false }
    let s := tracking [{ entry 700 (.gated 0) .placed with divert := some w }] rig
    let t := after .divertWindowOpen (atPosition 980 s)
    t.track.gates[0] = true ∧ (after .divertWindowClose (atPosition 1320 t)).track.gates[0] = false := by decide +kernel

/-- Section 9.10.2, the jam: the queue becomes loss records, the pocket loses its item, and JAMS goes up. -/
theorem test_missing_jams :
    let s := tracking [entry 5001 (.gated 0) .placed] (pocketed 0 (bundle .closing 100 100 99) (atPosition 1310 (lineIn .run)))
    let t := after .arrivalWindowEnd s
    t.line.state = .jammed ∧ t.line.jam = some (.missing 5001) ∧ t.track.losses.map (·.item) = [5001] ∧
    (pocketAt 0 t).committed = 99 ∧ (pocketAt 0 t).state = .openState ∧ (pocketAt 0 t).recount = true ∧ t.report.events[23] = 1 := by
  decide +kernel

/-- R77's table: the case reference of an item in flight stands in the Loss List after a jam; the RECOVERY report has the five fields of
R143. -/
theorem test_case_reference_lost :
    let s := tracking [{ entry 5001 .runOut .watchUnheld with caseRef := some 77 }] (lineIn .run)
    let t := after .stallTimerExpiry { s with track := { s.track with stall := some 250 } }
    t.track.losses.map (·.caseRef) = [some 77] ∧
    recoveryReport 47 t = .recovery { jam := some .stall, next := 47, losses :=
      [{ item := 5001, kind := .note, depositId := none, dest := .runOut, denom := some 7 }] } := by decide +kernel

/-- R142, R144: the TRACE reports of the lost items whose flag is set, in the order of the Loss List. -/
theorem test_lost_items_traced :
    let lost (item : Word) (trace : Bool) : Entry := { entry item .runOut .routed with trace := trace }
    let t := handJam .stall (tracking [lost 3 true, lost 4 false, lost 5 true] (lineIn .run))
    t.report.queue.filterMap (fun q => match q.report with
      | .trace x => some (x.item, x.close)
      | _ => none) = [(3, .lost), (5, .lost)] := by decide +kernel

/-- Section 7.2: with 32 entries the item is kept in waiting, and the jam names it and loses all 33. -/
theorem test_track_full_jams :
    let t := after (.noteRecord note) (tracking (List.replicate 32 (entry 1 .runOut .routed)) (holding [edge 40 5] (lineIn .run)))
    t.line.jam = some (.trackFull 40) ∧ t.track.losses.length = 33 ∧ (t.track.losses.getLast?).map (·.item) = some 40 ∧
    t.track.waiting = none := by decide +kernel

theorem test_stray_and_stall :
    (after (.arrivalPulse 11) (lineIn .run)).line.jam = some (.stray 11) ∧
    (after (.arrivalPulse 11) (lineIn .jammed)).report.events[14] = 1 ∧
    (after .stallTimerExpiry { lineIn .run with track := { rig.track with stall := some 250 } }).line.jam = some .stall := by
  decide +kernel

/-! ### Deposits (section 8.7) -/

theorem test_declarations :
    let s := after (.declare 1 9100 [(7, 9)]) rig
    s.deposit.declarations = [{ id := 9100, lines := [(7, 9)], bound := false }] ∧
    (after (.declareCancel 2 9100) s).deposit.declarations = [] := by decide +kernel

/-- Section 8.7.2: with every slot held the boundary is lost and DEPOSIT_FULL is held. -/
theorem test_boundary_lost :
    let s := depositing [deposit 0 1 .closing, deposit 1 2 .closing, deposit 2 3 .closing, deposit 3 4 .openState]
      (holding [edge 9 5] rig)
    let t := after (.separatorRecord card) s
    t.line.causes.depositFull = true ∧ (openDeposit t).map (·.boundaryLost) = some true := by decide +kernel

/-! ### The line (section 9.10) -/

/-- Section 9.10.1, orders 1 and 3. -/
theorem test_halt_and_stop :
    let s := after .operatorStop (lineIn .run)
    s.line.state = .halt ∧ s.line.resume = some .run ∧ s.line.causes.operator = true ∧
    (after (.lineStop 3) s).line.resume = some .drain ∧ (after (.lineHalt 4) (lineIn .run)).line.causes.command = true := by
  decide +kernel

theorem test_start_and_resume :
    (after (.lineStart 1) rig).line.feedEn = true ∧ (after (.lineStart 1) rig).track.stall = some 1000 ∧
    (after (.lineResume 2) (halted .run)).line.state = .run ∧
    (after (.lineResume 2) (halted .drain)).line.state = .idle := by decide +kernel

/-- Section 9.10.2, RECOVER with next sequence 47. -/
theorem test_recover :
    let s := depositing [{ deposit 1 9299 .closing with lost := 1 }]
      { lineIn .jammed with line := { rig.line with state := .jammed, jam := some (.missing 5001) } }
    let t := after (.recover 7 47) s
    t.line.state = .idle ∧ t.edge.nextSeq = 47 ∧ t.deposit.deposits = [] ∧ t.line.jam = none := by decide +kernel

theorem test_resets :
    (after (.lineReset 1) (tracking [unread] (lineIn .run))).line.state = .idle ∧
    (after (.lineReset 1) (tracking [unread] (lineIn .run))).report.events[24] = 1 ∧
    ((after (.lineReset 1) (tracking [unread] (lineIn .run))).report.queue.getLast?).map (·.report) = some (.line
      { from_ := .run, to_ := .idle, trigger := .lineReset, cause := none, causes := CauseSet.empty, resume := none, position := 0 }) ∧
    after .hardReset (lineIn .run) = State.reset := by decide +kernel

/-! ### Reports (section 10.6) -/

/-- Section 10.6, orders 1, 3 and 4: a TRACE dropped at 54; the report that makes 56 raises BACKLOG, and the line halts. -/
theorem test_backlog :
    (hand aTrace (queued 54 rig)).report.events[19] = 1 ∧
    (emit (.ready 1) (queued 55 (lineIn .run))).line.state = .halt ∧
    (emit (.ready 1) (queued 55 (lineIn .run))).report.queue.length = 57 := by decide +kernel

/-- Section 10.6.1: the group is cleared after its values are reported; with 63 reports queued it keeps them. -/
theorem test_tally_read :
    let s := { rig with report := { rig.report with events := rig.report.events.set 0 12 } }
    (after (.tallyRead 21 1 1) s).report.events[0] = 0 ∧
    (after (.tallyRead 21 1 1) (queued 63 s)).report.events[0] = 12 ∧
    (after (.tallyRead 21 1 1) (queued 63 s)).report.lossMark = 1 := by decide +kernel

/-- An ACCEPTED tally at its notice level, with bit 25 of the mask set. -/
theorem test_accepted_notice :
    let s := { rig with report := { rig.report with accepted := rig.report.accepted.set 7 0xDFFFFFFF, noticeMask := 1 <<< 25 } }
    (bumpQuiet (.accepted 7) s).report.queue.map (·.report) =
      [.tally { notice := true, group := .accepted, cleared := false, tallies := [(7, 0xE0000000)] }] ∧
    (bumpQuiet (.accepted 7) rig).report.queue = [] := by decide +kernel

/-- A group at its threshold, counted again: one GROUP_LOW report, and the arm disarmed. -/
theorem test_group_low :
    let s := pocketed 0 (bundle .closing 2 2 0) rig
    let t := recountGroup 0 (some 105) s
    (groupAt 0 t).armed = false ∧ t.report.queue.map (·.report) = [.groupLow
      { group := 0, openCount := 1, threshold := 1, item := some 105
        members := [(0, .closing, true), (1, .openState, true)] }] := by decide +kernel

theorem test_transmitter :
    let s := { queued 1 rig with report := { (queued 1 rig).report with tx := .quiet 3 } }
    let t := after (.idleByteSent true) s
    let u := after .frameStart t
    t.report.tx = .quiet 4 ∧ u.report.tx ≠ .quiet 4 ∧ (after .frameSent u).report.queue = [] ∧
    (after .frameStart s).report.tx = .quiet 3 := by decide +kernel

/-- The ten bit times of the start byte 0xC3, sent and received, and a break (R1, R190). -/
theorem test_serial_bits :
    byteLevels 0xC3 = [false, true, true, false, false, false, false, true, true, true] ∧
    feedCommand (byteLevels 0xC3) = .feedByte 0xC3 false ∧ feedCommand (List.replicate 10 false) = .feedByte 0 true := by decide

/-- REPORT_TX (R190): the idle byte in QUIET, the frame of a READY report while it is sent, high and no byte while RESET_N is low, the
idle byte again after it. -/
theorem test_report_tx :
    let s := { queued 1 rig with report := { (queued 1 rig).report with tx := .quiet 4, rdyIn := true } }
    s.report.reportTx = .sends (List.replicate 9 false ++ [true]) ∧
    (after .frameStart s).report.reportTx = .sends (lineLevels (reportFrame { report := .ready 1, loss := 0 } 0)) ∧
    reportFrame { report := .ready 1, loss := 0 } 0 =
      [0xC3, 0x92, 0x03, 0x00, 0x80, 0x01] ++ bytes16 (crc [0x92, 0x03, 0x00, 0x80, 0x01]) ∧
    (holdReset (lineIn .run)).report.reportTx = .high ∧ (holdReset (lineIn .run)).line.runOut = false ∧
    after .frameStart (holdReset rig) = holdReset rig ∧ (after .hardReset rig).report.reportTx = s.report.reportTx := by decide +kernel

theorem test_status_answered :
    (after (.statusRead 9) rig).report.queue.map (·.report) =
      [.answer 9 0x60 none .none, .status (statusOf rig 1)] := by decide +kernel

theorem test_queue_front_taken :
    step (rig.setPending [.routeSwap 1]) = exec (.routeSwap 1) rig ∧ step rig = .next rig := ⟨rfl, rfl⟩

/-! ### Witnesses: states and operands that meet the hypotheses of each obligation, one part for each clause -/

theorem witness_EveryStepProceeds : rig.pending = [] := rfl

theorem witness_ReportAdmission :
    (∃ x, aTrace = .trace x) ∧ (queued 47 rig).report.queue.length < 48 ∧ 48 ≤ (queued 48 rig).report.queue.length ∧
    (∀ x, Report.ready 1 ≠ .trace x) ∧ (queued 63 rig).report.queue.length < 64 ∧
    64 ≤ (queued 64 rig).report.queue.length :=
  ⟨⟨_, rfl⟩, by decide, by decide, fun _ h => (by cases h), by decide, by decide⟩

theorem witness_BacklogHaltsTheLine :
    let s := { lineIn .run with report := { rig.report with backlog := true } }
    let held := { rig with line := { rig.line with causes := { CauseSet.empty with groupFull := CauseSet.empty.groupFull.set 7 true } } }
    (s.report.backlog = true ∧ s.line.causes.backlog = false) ∧ held.line.causes.groupFull[7] = true ∧
    rig.line.causes.groupFull[7] = false ∧ rig.line.causes.quarantineFull = false ∧ rig.line.causes.depositFull = false := by
  decide +kernel

/-- A tally of 16 bits and one of 32 one below the notice level, in the mask; and one of 32 bits at its end. -/
theorem witness_TallyIncrease :
    let s := { rig with report := { rig.report with
      events := rig.report.events.set 20 0xDFFF, accepted := rig.report.accepted.set 7 0xDFFFFFFF
      noticeMask := 1 <<< 20 ||| 1 <<< 25 } }
    (s.report.events[20] + 1 = 0xE000 ∧ s.report.noticeMask.getLsbD 20 = true) ∧
    (s.report.accepted[(7 : Denom).toFin] + 1 = 0xE0000000 ∧ s.report.noticeMask.getLsbD 25 = true) ∧
    ({ rig with report := { rig.report with accepted := rig.report.accepted.set 31 0xFFFFFFFF } } : State).report.accepted[
      (31 : Denom).toFin].toNat = 0xFFFFFFFF := by decide +kernel

theorem witness_TallyReadAnswered :
    (5 : Byte).toNat > 4 ∧ (2 : Byte).toNat > 1 ∧ tallyGroupOf 4 = some .all ∧ tallyGroupOf 0 = some .accepted ∧
    (1 : Byte).toNat ≤ 1 := by decide +kernel

theorem witness_TransmitterSteps :
    let s := { queued 1 rig with report := { (queued 1 rig).report with tx := .quiet 4, rdyIn := true } }
    let u := after .frameStart s
    s.report.tx = .quiet 4 ∧ (∃ f, u.report.tx = .sending f) ∧ (∃ q rest, u.report.queue = q :: rest) ∧
      (holdReset rig).report.tx = .held :=
  ⟨rfl, ⟨_, rfl⟩, ⟨_, _, rfl⟩, rfl⟩

/-- A report with a body of more than 253 bytes. -/
theorem witness_SegmentsCarryTheBody :
    let losses : List LossLine :=
      List.replicate 40 { item := 1, kind := .note, depositId := some 1, dest := .runOut, denom := some 7 }
    let q : Queued := { report := .recovery { jam := none, next := 0, losses := losses }, loss := 0 }
    0 < q.report.segments ∧ 0 + 1 < q.report.segments := by decide +kernel

/-- Receiver states before the kind byte, the length byte, the payload, the first and the second check byte, and in HUNT. -/
theorem witness_ReceiverTakesBytes :
    let f := Frame.empty
    let k : Frame := { f with kind := some .control }
    let n : Frame := { k with length := some 2, payload := [1] }
    let c : Frame := { n with payload := [1, 0x53] }
    rig.feed = .wait ∧ f.kind = none ∧ (k.kind = some .control ∧ k.length = none) ∧
    (n.length = some 2 ∧ n.payload.length < (2 : Byte).toNat) ∧ ((2 : Byte).toNat ≤ c.payload.length ∧ c.check = none) ∧
    ({ c with check := some 9 } : Frame).check = some 9 ∧ ({ rig with feed := .hunt 3 } : State).feed = .hunt 3 := by
  decide +kernel

/-- A payload of each length at an end of its range, which the receiver takes, and the lengths next to them, which it does not. -/
theorem witness_FrameDeliversItsRecord :
    let payload (n : Nat) : List Byte := List.replicate n 0
    let takes (k : FeedKind) (n : Byte) : Bool :=
      (after (.feedByte n false) { rig with feed := .receiving { Frame.empty with kind := some k } }).feed != .hunt 0
    rig.feed = .wait ∧ (payload 4).length = 4 ∧ (payload 60).length = 60 ∧
    ([4, 16].all (takes .note) && [6, 10].all (takes .separator) && [2, 60].all (takes .control)) = true ∧
    ([3, 17].any (takes .note) || [5, 11].any (takes .separator) || [1, 61].any (takes .control)) = false := by decide +kernel

/-- The record check of a NOTE payload, from its bytes 1 and 3 and its characters (R10). -/
def notePasses (b1 n : Byte) (chars : List Byte) : Bool :=
  chars.length == n.toNat && b1.getLsbD 5 == decide (b1.toNat / 64 < 2) &&
    (n == 0 || (4 ≤ n.toNat && n.toNat ≤ 12 &&
      chars.all fun c => (0x30 ≤ c.toNat && c.toNat ≤ 0x39) || (0x41 ≤ c.toNat && c.toNat ≤ 0x5A)))

/-- NOTE payloads that pass the record check and that fail it in each way; separators without and with a parent; and payloads too
short for their kind. -/
theorem witness_RecordsRoundTrip :
    let passes (b1 n : Byte) (chars : List Byte) : Prop := notePasses b1 n chars = true
    ((Instr.watchAdd 3 31 77 digits).wf = true ∧ (encodeControl (.watchAdd 3 31 77 digits)).isSome = true ∧
      NoteRecord.wf { note with serial := some digits } = true ∧ parseControl [3, 0x13] = some (.routeSwap 3)) ∧
    (passes 0x20 0 [] ∧ passes 0x20 4 [0x30, 0x39, 0x41, 0x5A] ∧ passes 0x80 0 [] ∧ passes 0x60 12 (List.replicate 12 0x41)) ∧
    (¬ passes 0x20 3 [0x30, 0x30, 0x30] ∧ ¬ passes 0x20 4 [0x30, 0x30, 0x30] ∧ ¬ passes 0x20 4 [0x30, 0x39, 0x41, 0x5B] ∧
      ¬ passes 0x00 0 [] ∧ ¬ passes 0xA0 0 []) ∧
    ((0x00 : Byte).getLsbD 4 = false ∧ (0x10 : Byte).getLsbD 4 = true ∧ ([1, 2, 3, 4] : List Byte).length = 4 ∧
      ([1, 2, 3] : List Byte).length ≠ 4) ∧
    (([3] : List Byte).length < 2 ∧ ([1, 2, 3] : List Byte).length < 4 ∧ ([1, 2, 3, 4, 5] : List Byte).length < 6) := by decide +kernel

/-- The expiries that stand before an edge each answer a next state. -/
theorem witness_ExpiriesBeforeTheEdge :
    let s := atPosition 600 (holding [edge 610 5] rig)
    ∃ a b c, exec .divertWindowOpen s = .next a ∧ exec .admissionDeadline a = .next b ∧ exec .arrivalWindowEnd b = .next c :=
  ⟨_, _, _, rfl, rfl, rfl⟩

/-- Nothing due, with an edge and an entry held. -/
theorem witness_EncoderEdgeAdvances :
    NothingDue (tracking [entry 1 .runOut .routed] (holding [edge 2 2] rig)) := by
  refine ⟨by decide, fun e he => ?_, by decide +kernel⟩
  simp only [tracking, List.mem_singleton] at he
  subst he
  exact ⟨by decide, fun w hw => (by cases hw)⟩

theorem witness_LeadingEdgeCaptures :
    State.reset.track.loaded = false ∧ ((lineIn .jammed).track.loaded = true ∧ (lineIn .jammed).line.state = .jammed) ∧
    (rig.track.loaded = true ∧ rig.line.state ≠ .jammed ∧ (holding (List.replicate 7 (edge 1 1)) rig).edge.fifo.length < 8) ∧
    8 ≤ (holding (List.replicate 8 (edge 1 1)) rig).edge.fifo.length := by decide +kernel

theorem witness_TrailingEdgeMeasures :
    let e : HeldEdge := { edge 3 3 with trail := none }
    let s := holding [edge 2 2, e] { rig with edge := { rig.edge with lastItem := some 3 } }
    (s.edge.fifo = [edge 2 2] ++ [e] ∧ s.edge.lastItem = some e.item ∧ e.trail = none) ∧
    ((holding [edge 3 3] s).edge.fifo = [] ++ [edge 3 3] ∧ (edge 3 3).trail ≠ none) ∧ rig.edge.fifo = [] := by decide +kernel

/-- The queue one below full; and of three held edges the second is due. -/
theorem witness_DeadlineAdmitsUnread :
    let s := tracking (List.replicate 31 unread) (holding [edge 1 1] rig)
    let late : HeldEdge := { edge 3 3 with deadline := 900 }
    let u := atPosition 600 (holding [{ edge 1 1 with deadline := 500 }, edge 2 2, late] rig)
    (s.edge.fifo = edge 1 1 :: [] ∧ s.track.queue.length < 32) ∧
    (∀ e ∈ (holding [edge 1 1] rig).edge.fifo, e.deadline ≠ rig.edge.position) ∧
    (u.edge.fifo = [{ edge 1 1 with deadline := 500 }] ++ edge 2 2 :: [late] ∧ (edge 2 2).deadline = u.edge.position ∧
      ∀ y ∈ [late], y.deadline ≠ u.edge.position) ∧
    (32 ≤ (tracking (List.replicate 32 unread) (holding [edge 1 1] rig)).track.queue.length ∧ rig.line.state ≠ .jammed ∧
      rig.edge.fifo = []) := by decide +kernel

/-- The four outcomes: match; slip, whole and cut short by a TRACK_FULL jam; late; stray. -/
theorem witness_RecordsSought :
    let s := holding [edge 1 4, edge 2 5] rig
    let full := tracking (List.replicate 32 (entry 1 .runOut .routed)) s
    ((edge 1 5).seq = note.seq ∧ (edge 1 5).seq = card.seq) ∧
    (s.edge.fifo = [edge 1 4] ++ edge 2 5 :: [] ∧ (∀ o ∈ [edge 1 4], o.seq ≠ note.seq) ∧ (edge 2 5).seq = note.seq ∧
      (admitUnreads 1 s).edge.fifo = edge 2 5 :: []) ∧
    (full.edge.fifo = [edge 1 4] ++ edge 2 5 :: [] ∧ (admitUnreads 1 full).edge.fifo = []) ∧
    ((tracking [unread] rig).track.queue.find? (·.awaits note.seq) = some unread ∧ rig.edge.fifo = []) ∧
    (∀ e ∈ (tracking [{ unread with lateMark := true }] rig).track.queue,
      ¬ (e.kind = .unread ∧ e.seq = note.seq ∧ e.lateMark = false)) := by decide +kernel

theorem witness_MatchedRecordEntersTheQueue :
    let s := tracking (List.replicate 31 unread) (holding [edge 1 5] rig)
    let full := tracking (List.replicate 32 unread) (holding [edge 1 5] (lineIn .halt))
    (s.edge.fifo = edge 1 5 :: [] ∧ s.track.queue.length < 32 ∧ (edge 1 5).seq = note.seq ∧ (edge 1 5).seq = card.seq) ∧
    (full.edge.fifo = edge 1 5 :: [] ∧ 32 ≤ full.track.queue.length ∧ full.line.state ≠ .jammed) := by decide +kernel

/-- Lengths 199 and 401 fail and 200 and 400 pass; a gap of 39 is short and one of 40 is not; no deposit where one is required; and a
watch hit with no quarantine pocket, with a FULL one, with its gate passed, and with room before it. -/
theorem witness_FirstThreeChecks :
    let ofLength (p : Pos) : HeldEdge := { edge 1 5 with trail := some p }
    let good (e : HeldEdge) : Bool := e.trail.any fun p => 200 ≤ (p - e.lead).toNat && (p - e.lead).toNat ≤ 400
    let required := { rig with deposit := { rig.deposit with requireDeposit := true } }
    let hit (s : State) : Option WatchEntry := (lookup digits (some 7) s).2
    let late (x : Pos) : Prop := (x - ((edge 1 5).lead + 3000 - 20)).toNat < 2 ^ 23
    (good (ofLength 199) = false ∧ good (ofLength 401) = false ∧ good (ofLength 200) = true ∧ good (ofLength 400) = true) ∧
    ((39 : Nat) < rig.track.gapMin ∧ ¬ (40 : Nat) < rig.track.gapMin) ∧
    (required.deposit.requireDeposit = true ∧ openDeposit required = none) ∧
    (admissionFault (edge 1 5) rig = none ∧ (hit rig).isSome ∧ rig.deposit.requireDeposit = false) ∧
    (note.serial = none ∧ lookup [0x31, 0x32, 0x33, 0x34] (some 7) rig = (rig, none)) ∧
    ({ rig with pocket := { rig.pocket with quarantine := none } } : State).pocket.quarantine = none ∧
    (pocketAt 2 (pocketed 2 (bundle .full 9 9 9) rig)).state = .full ∧
    (rig.pocket.quarantine = some 2 ∧ (pocketAt 2 rig).state ≠ .full) ∧ late 2980 ∧ ¬ late 2979 := by decide +kernel

/-- No winner; each target; for the quarantine pocket and for a group, no place, the gate passed at its open position, and a place. -/
theorem witness_RouteDecides :
    let with_ (t : Target) := { rig with route := { rig.route with objects := rig.route.objects.set 0 (catchAll t none) } }
    let full := pocketed 0 (bundle .closing 2 2 0) (pocketed 1 (bundle .closing 2 2 0) rig)
    let late (x : Pos) (g : Gate) : Prop :=
      (x - ((edge 1 5).lead + BitVec.ofNat 24 (1000 * (g.val + 1)) - BitVec.ofNat 24 20)).toNat < 2 ^ 23
    winner note { rig with route := { rig.route with active := [] } } = none ∧ winner note rig = some 0 ∧
    (objectAt 0 (with_ .runOut)).target = .runOut ∧ (objectAt 0 (with_ .quarantine)).target = .quarantine ∧
    ({ rig with pocket := { rig.pocket with quarantine := none } } : State).pocket.quarantine = none ∧
    (pocketAt 2 (pocketed 2 (bundle .full 9 9 9) rig)).state = .full ∧
    (rig.pocket.quarantine = some 2 ∧ (pocketAt 2 rig).state ≠ .full) ∧ late 2980 2 ∧ ¬ late 2979 2 ∧ (objectAt 0 rig).target = .group 0 ∧ (groupAt 1 rig).members = [] ∧
    (groupAt 0 rig).members ≠ [] ∧ place 0 (some 7) full = none ∧ place 0 (some 7) rig = some 0 ∧ late 980 0 ∧ ¬ late 979 0 := by
  decide +kernel

theorem witness_LateNoteRecordApplied :
    let s := tracking ([{ unread with lateMark := true }] ++ unread :: [unread]) rig
    (∀ x ∈ s.edge.fifo, x.seq ≠ note.seq) ∧
    (∀ x ∈ [{ unread with lateMark := true }], ¬ (x.kind = .unread ∧ x.seq = note.seq ∧ x.lateMark = false)) ∧
    (unread.kind = .unread ∧ unread.seq = note.seq ∧ unread.lateMark = false) ∧ note.serial = none ∧
    (lookup [0x31, 0x32, 0x33, 0x34] (some 7) s).2 = none ∧ (lookup digits (some 7) s).2 = some { serial := digits, denom := none, caseRef := 77 } := by
  decide +kernel

/-- A mask of 31, and a note without a code at an object with masks 0. -/
theorem witness_MatchingAsKeyed :
    ({ catchAll .runOut none with denomMask := 31, denomValue := 7 } : RouteObject).admits note none = true ∧
    (catchAll .runOut none).admits { note with cls := .multiple, code := none } none = true := by decide +kernel

/-- A winner among two matches of one priority class. -/
theorem witness_WinnerIsMostUrgent :
    winner note { rig with route := { rig.route with active := [1, 0], standby := [] } } = some 1 := by decide +kernel

theorem witness_QuotaSpent :
    let with_ (n : Nat) := { rig with route := { rig.route with
      objects := rig.route.objects.set 0 { catchAll .runOut (some 2) with remaining := n } } }
    (objectAt 1 rig).preset = none ∧ ((objectAt 0 (with_ 2)).preset = some 2 ∧ 2 ≤ (objectAt 0 (with_ 2)).remaining) ∧
    (objectAt 0 (with_ 1)).remaining = 1 := by decide +kernel

theorem witness_RouteSwapTaken :
    (rig.route.active ++ rig.route.standby).Nodup ∧ (1 ∈ rig.route.standby ∧ 0 ∈ rig.route.active ∧ 2 ∉ rig.route.active ∧ 2 ∉ rig.route.standby) ∧
    ({ rig with route := { rig.route with swapPending := true } } : State).route.swapPending = true ∧
    (rig.route.swapPending = false ∧ rig.line.state = .idle ∧ (lineIn .run).line.state ≠ .idle) := by decide +kernel

/-- The range fault of each field just beyond its range, and an object in ACTIVE outside IDLE, in STANDBY with a swap pending, and let
pass. -/
theorem witness_RouteWriteReplaces :
    let good : RouteArgs := ⟨15, 31, 31, 0x77, 0xFF, 15, 0x07, 3, 1, 1⟩
    let faulty (a : RouteArgs) : Prop := 15 < a.classSet.toNat ∨ 31 < a.denomValue.toNat ∨ 31 < a.denomMask.toNat ∨
      15 < a.kindSet.toNat ∨ a.target.toNat / 64 = 3 ∨ (a.target.toNat / 64 = 0 ∧ 7 < a.target.toNat % 64) ∨ 3 < a.priority.toNat ∨
      (a.options.getLsbD 0 = true ∧ a.quota = 0)
    (48 : Byte).toNat > 47 ∧ (47 : Byte).toNat = (47 : ObjectNo) ∧ ¬ faulty good ∧ faulty { good with classSet := 16 } ∧
    faulty { good with target := 0x08 } ∧ faulty { good with target := 0xC0 } ∧ faulty { good with quota := 0 } ∧
    ((0 : Byte).toNat = (0 : ObjectNo) ∧ (lineIn .run).route.active.contains 0 = true ∧ (lineIn .run).line.state ≠ .idle) ∧
    ((1 : Byte).toNat = (1 : ObjectNo) ∧ rig.route.standby.contains 1 = true ∧ rig.route.active.contains 1 = false ∧
      ({ rig with route := { rig.route with swapPending := true } } : State).route.swapPending = true) ∧
    (rig.route.active.contains 0 = true ∧ rig.line.state = .idle ∧ rig.route.swapPending = false) := by decide +kernel

theorem witness_RouteLinksMove :
    ((47 : Byte).toNat = (47 : ObjectNo) ∧ 47 ∉ rig.route.active ∧ 47 ∉ rig.route.standby ∧ rig.line.state = .idle ∧ rig.route.swapPending = false) ∧
    (0 ∈ rig.route.active ∧ 0 ∉ rig.route.standby ∧ 1 ∈ rig.route.standby ∧ 1 ∉ rig.route.active) ∧
    ((48 : Byte).toNat > 47 ∧ (2 : Byte).toNat > 1) ∧ (lineIn .run).line.state ≠ .idle ∧
    ({ rig with route := { rig.route with swapPending := true } } : State).route.swapPending = true := by decide +kernel

theorem witness_LookupByIndexThenList :
    rig.watch.index.read (cellOf [0x31, 0x32, 0x33, 0x34]) = 0 ∧ rig.watch.index.read (cellOf digits) ≠ 0 ∧
    (∀ e ∈ ({ rig with watch := { rig.watch with list := [{ serial := digits, denom := some 3, caseRef := 1 }] } } : State).watch.list,
      ¬ (e.serial = digits ∧ (e.denom = none ∨ e.denom = some 7))) ∧
    rig.watch.list = [] ++ { serial := digits, denom := none, caseRef := 77 } :: [] := by decide +kernel

/-- Serials of 3, 4, 12 and 13 characters, denomination bytes 31, 32 and 0xFF; the pair held; 256 entries; a cell at 255; and room. -/
theorem witness_WatchAddKeepsTheIndex :
    let faulty (d : Byte) (n : Nat) : Prop := n < 4 ∨ 12 < n ∨ (31 < d.toNat ∧ d ≠ 0xFF)
    let characters (cs : List Byte) : Prop := ∀ c ∈ cs, (0x30 ≤ c.toNat ∧ c.toNat ≤ 0x39) ∨ (0x41 ≤ c.toNat ∧ c.toNat ≤ 0x5A)
    let e : WatchEntry := { serial := digits, denom := none, caseRef := 77 }
    ¬ characters [0x61, 0x31, 0x32, 0x33] ∧ characters digits ∧
    faulty 31 3 ∧ faulty 31 13 ∧ faulty 32 4 ∧ ¬ faulty 31 4 ∧ ¬ faulty 0xFF 12 ∧
    (∃ x ∈ rig.watch.list, x.serial = digits ∧ x.denom = none) ∧
    (¬ (∃ x ∈ rig.watch.list, x.serial = digits ∧ x.denom = some 31) ∧ rig.watch.list.length < 256 ∧
      rig.watch.index.read (cellOf digits) ≠ 255) ∧
    256 ≤ (List.replicate 256 e).length ∧ Memory.read [(2481, 255)] (cellOf digits) = 255 := by decide +kernel

theorem witness_WatchRemoveAndClear :
    (∀ c ∈ digits, (0x30 ≤ c.toNat ∧ c.toNat ≤ 0x39) ∨ (0x41 ≤ c.toNat ∧ c.toNat ≤ 0x5A)) ∧ (31 : Nat) < (32 : Byte).toNat ∧
    (∀ e ∈ rig.watch.list, ¬ (e.serial = digits ∧ e.denom = some 31)) ∧
    rig.watch.list = [] ++ { serial := digits, denom := none, caseRef := 77 } :: [] := by decide +kernel

/-- An accumulator of the group in use, and none. -/
theorem witness_GroupParametersWritten :
    let a : Accumulator := { group := 0, denom := 7, bundles := [1], total := 100, recount := false, manyDeposits := false
                             carried := false }
    let s := { rig with group := { rig.group with accs := rig.group.accs.set 15 (some a) } }
    (20 : Nat) < (21 : Word).toNat ∧ (s.group.accs[15] = some a ∧ a.group = 0 ∧ (20 : Word).toNat ≤ 20 ∧ (20 : Word).toNat ≠ 1) ∧
    (∀ i : Fin 16, rig.group.accs[i] = none) := by decide +kernel

theorem witness_QuarantinePocketSelected :
    (15 : Nat) < (16 : Word).toNat ∧ ((15 : Word).toNat ≤ 15 ∧ (lineIn .run).line.state ≠ .idle) ∧
    ((1 : Word).toNat = ((some 0 : Option Gate).map gateNumber).getD 0 ∧ groupOf 0 rig = some 0) ∧
    ((3 : Word).toNat = ((some 2 : Option Gate).map gateNumber).getD 0 ∧ groupOf 2 rig = none ∧ rig.pocket.quarantine = some 2) ∧
    ((15 : Word).toNat = ((some 14 : Option Gate).map gateNumber).getD 0 ∧ groupOf 14 rig = none ∧
      0 < (pocketAt 2 (pocketed 2 (bundle .openState 9 1 0) rig)).committed) ∧
    ((0 : Word).toNat = ((none : Option Gate).map gateNumber).getD 0 ∧ (pocketAt 2 rig).committed = 0 ∧
      rig.pocket.manifest = []) := by decide +kernel

/-- A limit below, at and above the committed count, with the pocket OPEN and FULL; and the three cases of a release. -/
theorem witness_QuarantineLimitAndRelease :
    let r := pocketAt 2 (pocketed 2 (bundle .openState 9 5 5) rig)
    let f := pocketAt 2 (pocketed 2 (bundle .full 9 5 4) rig)
    ((0 : Nat) < 1 ∧ (64 : Nat) < 65) ∧ State.reset.pocket.quarantine = none ∧ rig.pocket.quarantine = some 2 ∧
    4 < r.committed ∧ (r.committed = 5 ∧ r.state = .openState) ∧ (f.committed < 6 ∧ f.state = .full) ∧
    (f.committed = 5 ∧ r.committed < 6) ∧ f.confirmed < f.committed ∧ r.committed = r.confirmed := by decide +kernel

/-- The relations of SET_GEOMETRY at a GAP_MIN of 40. -/
def relations (geo : Geometry) : Bool :=
  let d (p : Fin 16) : Nat := (geo.d[p]).toNat
  decide ((∀ p, 1 ≤ d p) ∧ 1 ≤ geo.admitLimit.toNat ∧ (∀ p q : Fin 16, 1 ≤ p ∧ p < q → d p < d q) ∧ d 15 < d 0 ∧
    geo.lead.toNat + geo.lag.toNat ≤ rig.track.gapMin ∧ geo.admitLimit.toNat + geo.tol.toNat < d 0)

/-- The geometry of the rig holds every relation, with LEAD + LAG equal to GAP_MIN; each relation broken at its boundary. -/
theorem witness_GeometryReplaced :
    relations geometry = true ∧ relations { geometry with lead := 21 } = false ∧
    relations { geometry with admitLimit := 15990 } = false ∧ relations { geometry with admitLimit := 15989 } = true ∧
    relations { geometry with d := geometry.d.set 0 15000 } = false ∧ relations { geometry with d := geometry.d.set 1 0 } = false ∧
    (lineIn .run).line.state ≠ .idle ∧ rig.line.state = .idle := by decide +kernel

/-- A pocket listed twice, pocket 0, pocket 16 and group 8; pockets held elsewhere; a present member with notes; an accumulator in use;
and a list let pass. -/
theorem witness_GroupDefined :
    let held := pocketed 0 (bundle .openState 100 1 0) rig
    (7 : Nat) < (8 : Byte).toNat ∧ ¬ ([1, 1] : List Byte).Nodup ∧ (15 : Nat) < (16 : Byte).toNat ∧
    (([15, 4] : List Byte).map (·.toNat) = ([14, 3] : List Gate).map gateNumber ∧ ([14, 3] : List Gate).Nodup) ∧
    (∃ g ∈ ([0] : List Gate), (∃ j, j ≠ (1 : GroupNo) ∧ groupOf g rig = some j)) ∧
    (∀ g ∈ ([14, 3] : List Gate), groupOf g rig = none ∧ rig.pocket.quarantine ≠ some g) ∧
    (0 ∈ (groupAt 0 held).members ∧ 0 < (pocketAt 0 held).committed) ∧
    (∀ g : Gate, (pocketAt g rig).committed = 0 ∧ (pocketAt g rig).confirmed = 0) ∧ (∀ i : Fin 16, rig.group.accs[i] = none) := by
  decide +kernel

/-- The three lines of a flush; a bundle that the cascade is not offered, in each of the three ways; one offered with its key held, with
the first index free, and with no accumulator free; a list that reaches the brick size and one that does not. -/
theorem witness_GroupFlushed :
    let r := bundle .full 100 100 100
    let a : Accumulator := { group := 0, denom := 7, bundles := [1], total := 100, recount := false, manyDeposits := false
                             carried := false }
    let gathering (b : Accumulator) := { rig with group := { rig.group with accs := rig.group.accs.set 3 (some b) } }
    let taken := { rig with group := { rig.group with accs := Vector.replicate 16 (some { a with denom := 8 }) } }
    (7 : Nat) < (8 : Byte).toNat ∧ ((7 : Byte).toNat = (7 : GroupNo) ∧ (lineIn .halt).line.state ≠ .idle) ∧
    (rig.line.state = .idle ∧ (groupAt 7 rig).members = [] ∧ (groupAt 0 rig).members ≠ []) ∧
    -- an odd close: no bundle to close, one with all its notes arrived, and one with notes in flight
    ((pocketAt 14 rig).state ≠ .openState ∧ (pocketAt 0 rig).committed = 0 ∧
      (let o := bundle .openState 9 2 2
       o.state = .openState ∧ 0 < o.committed ∧ o.confirmed = o.committed ∧ (bundle .openState 9 2 1).confirmed ≠ 2)) ∧
    (groupOf 0 rig = some 0 ∧ r.target = some r.confirmed ∧ r.denom = some (.code 7) ∧ (groupAt 0 rig).brickSize ≠ 0) ∧
    (BundleClose.odd ≠ .full ∧ ({ GroupRec.initial with brickSize := 0 } : GroupRec).brickSize = 0 ∧
      ∀ d, some BundleDenom.uncoded ≠ some (.code d)) ∧
    ((gathering a).group.accs[3] = some a ∧ a.group = 0 ∧ a.denom = 7 ∧ ∀ j : Fin 16, j < 3 → (gathering a).group.accs[j] = none) ∧
    (rig.group.accs[0] = none ∧ ∀ j : Fin 16, ¬ j < 0) ∧
    ((∀ i : Fin 16, taken.group.accs[i] ≠ none) ∧ ∀ i : Fin 16, (taken.group.accs[i]).map (·.denom) ≠ some 7) ∧
    ((groupAt 0 rig).brickSize ≤ (List.replicate 9 1 ++ [2]).length ∧ ¬ (groupAt 0 rig).brickSize ≤ (List.replicate 8 1 ++ [2]).length) := by
  decide +kernel

theorem witness_PocketEnabled :
    (14 ∉ (groupAt 0 rig).members ∧ 0 ∈ (groupAt 0 rig).members ∧ ∀ j : GroupNo, ¬ j < 0) ∧
    (15 : Nat) < (16 : Byte).toNat ∧ (1 : Nat) < (2 : Byte).toNat ∧ ((15 : Byte).toNat = gateNumber 14 ∧ groupOf 14 rig = none) ∧
    ((1 : Byte).toNat = gateNumber 0 ∧ groupOf 0 rig = some 0 ∧ (pocketAt 0 rig).state = .openState) ∧
    -- the recount: armed at the threshold, disarmed just above it, and in neither case
    (let count (s : State) := (groupAt 0 s).members.countP fun g => (pocketAt g s).state == .openState && (pocketAt g s).enabled
     let disarmed := { rig with group := { rig.group with groups := rig.group.groups.set 0 { groupAt 0 rig with armed := false } } }
     ((groupAt 0 rig).armed = true ∧ count (pocketed 0 (bundle .closing 2 2 0) rig) = 1 ∧ (groupAt 0 rig).lowThreshold = 1) ∧
     ((groupAt 0 disarmed).armed = false ∧ count disarmed = 2) ∧ ((groupAt 0 rig).armed = true ∧ count rig = 2)) ∧
    (PocketState.openState = (pocketAt 0 rig).state ∧ PocketState.full ≠ (pocketAt 0 rig).state) := by decide +kernel

/-- The current member stands second; a bundle in progress; an empty one. -/
theorem witness_PlacementAndCommitment :
    let s := { rig with group := { rig.group with groups := rig.group.groups.set 0 { groupAt 0 rig with current := some 1 } } }
    ((groupAt 0 s).members = [0] ++ 1 :: [] ∧ (groupAt 0 s).current = some 1 ∧ (1 : Gate) ∉ ([0] : List Gate)) ∧
    place 0 (some 7) s = some 1 ∧ (pocketAt 0 rig).target = none ∧
    (pocketAt 0 (pocketed 0 (bundle .openState 2 1 0) rig)).target = some 2 ∧
    ((pocketAt 2 (pocketed 2 (bundle .openState 9 48 0) rig)).committed + 1 ≠ rig.pocket.limit ∧
      (pocketAt 2 (pocketed 2 (bundle .openState 9 49 0) rig)).committed + 1 = rig.pocket.limit) := by decide +kernel

theorem witness_PocketsCleared :
    let s (r : PocketRec) := pocketed 0 r rig
    (pocketOf 0 = .runOut ∧ rig.pocket.runOut = 0 ∧ 0 < ({ rig with pocket := { rig.pocket with runOut := 1 } } : State).pocket.runOut) ∧
    (pocketOf 3 = .gated 2 ∧ rig.pocket.quarantine = some 2) ∧ (bundle .openState 9 2 1).confirmed < (bundle .openState 9 2 1).committed ∧
    ((pocketAt 2 rig).committed = 0 ∧ (pocketAt 2 rig).confirmed = 0) ∧
    (0 < (bundle .full 9 2 2).committed ∧ (bundle .full 9 2 2).committed = (bundle .full 9 2 2).confirmed) ∧
    (pocketOf 15 = .gated 14 ∧ (pocketAt 14 rig).state = .unassigned) ∧ (pocketOf 1 = .gated 0 ∧ groupOf 0 rig = some 0) ∧
    (pocketAt 0 (s (bundle .full 2 2 2))).state = .full ∧
    ((pocketAt 0 (s (bundle .openState 5 2 2))).state ≠ .full ∧ (pocketAt 0 (s (bundle .openState 5 2 2))).committed = 2) ∧
    (pocketAt 0 (s (bundle .closing 2 2 1))).confirmed < (pocketAt 0 (s (bundle .closing 2 2 1))).committed ∧
    ((pocketAt 0 rig).state ≠ .full ∧ (pocketAt 0 rig).committed = 0 ∧ (pocketAt 0 rig).confirmed = 0) ∧
    rig.pocket.nextBundle ≠ 0xFFFFFFFF ∧ (queued 63 rig).report.queue.length < 64 := by
  decide +kernel

theorem witness_DeclarationsKept :
    let e (bound : Bool) : Declaration := { id := 9100, lines := [(7, 9)], bound := bound }
    let faulty (ls : List (Byte × Half)) : Prop :=
      ls = [] ∨ 16 < ls.length ∨ (∃ l ∈ ls, 31 < l.1.toNat ∨ l.2 = 0) ∨ ¬ (ls.map (·.1)).Nodup
    faulty [] ∧ faulty [(32, 1)] ∧ faulty [(7, 0)] ∧ faulty [(7, 1), (7, 2)] ∧ ¬ faulty [(31, 1)] ∧
    (∃ x ∈ [e false], x.id = 9100) ∧ 8 ≤ (List.replicate 8 (e false)).length ∧
    (∀ d ∈ rig.deposit.deposits, d.id ≠ 9100) ∧
    (depositing [deposit 2 9100 .closing] rig).deposit.deposits = [] ++ deposit 2 9100 .closing :: [] ∧
    (deposit 2 9100 .closing).id = 9100 ∧ ([e true] = [] ++ e true :: [] ∧ (e true).bound = true ∧ (e false).bound = false) := by
  decide +kernel

/-- An OPEN member of the deposit that is OPEN, with two of its three notes arrived, and a swap pending. -/
def boundary (confirmed inFlight : Nat) : State :=
  pocketed 0 { bundle .openState 100 3 confirmed with depositPure := true, deposit := some (.id 7002) }
    (depositing [deposit 0 7001 .closing, { deposit 1 7002 .openState with inFlight := inFlight }]
      { rig with
        route := { rig.route with swapPending := true }
        deposit := { rig.deposit with declarations := [{ id := 7002, lines := [(7, 9)], bound := true },
          { id := 9100, lines := [(7, 9)], bound := false }] } })

/-- A boundary with an item of the closing deposit in flight (R155): the bundle of that deposit takes an odd close, the deposit stays
CLOSING, the new one opens in slot 2 with its declaration bound, and the swap is taken and reported last. -/
theorem test_boundary_closes_bundles :
    let t := (takeSeparator card 9 false (boundary 2 1)).1
    (pocketAt 0 t).state = .closing ∧ (pocketAt 0 t).target = some 3 ∧ (pocketAt 0 t).closing = .odd ∧
    (pocketAt 1 t).state = .openState ∧ t.deposit.deposits.map (fun d => (d.slot, d.state)) =
      [(0, .closing), (1, .closing), (2, .openState)] ∧
    t.deposit.declarations.map (·.bound) = [true, true] ∧ t.route.active = [1] ∧ t.route.standby = [0] ∧
    (t.report.queue.getLast?).map (·.report) =
      some (.routes { cardItem := some 9, depositId := some 9100, active := [1], standby := [0] }) := by decide +kernel

/-- The same with nothing in flight: the deposit closes with its declaration, and its slot is the lowest one free. -/
theorem test_boundary_closes_deposit :
    let t := (takeSeparator card 9 false (boundary 3 0)).1
    (pocketAt 0 t).state = .full ∧ (takeSeparator card 9 false (boundary 3 0)).2 = some 1 ∧
    t.deposit.deposits.map (fun d => (d.slot, d.id)) = [(0, 7001), (1, 9100)] ∧ t.deposit.declarations.map (·.id) = [9100] := by
  decide +kernel

/-- A repeat; an id in use; every slot held; the end card; a new deposit with the lowest slot held; a boundary at which the OPEN deposit
closes and one at which it does not, with a swap pending and with none. -/
theorem witness_SeparatorCases :
    let s := depositing [deposit 0 7001 .closing, deposit 1 9100 .openState] rig
    let u := depositing [deposit 0 9100 .closing, deposit 1 7002 .openState] rig
    let full := depositing [deposit 0 1 .closing, deposit 1 2 .closing, deposit 2 3 .closing, deposit 3 4 .openState] rig
    ((s.deposit.deposits.map (·.slot)).Nodup ∧ (s.deposit.deposits.countP fun d => d.state == .openState) ≤ 1) ∧
    ((openDeposit s).map (·.id) = some card.depositId) ∧
    ((openDeposit u).map (·.id) ≠ some card.depositId ∧ (∃ d ∈ u.deposit.deposits, d.state = .closing ∧ d.id = card.depositId) ∧
      card.endFlag = false) ∧
    ((∀ k, (depositAt k full).isSome) ∧ ∀ d ∈ full.deposit.deposits, d.id ≠ card.depositId) ∧
    ({ card with endFlag := true } : SeparatorRecord).endFlag = true ∧
    ((∃ k, depositAt k rig = none) ∧ openDeposit rig = none ∧ rig.route.swapPending = false) ∧
    (let b := boundary 3 0
     (b.deposit.deposits.map (·.slot)).Nodup ∧ (openDeposit b).map (fun d => (d.id, d.inFlight)) = some (7002, 0) ∧
     (openDeposit (boundary 2 1)).map (·.inFlight) = some 1 ∧ b.line.state ≠ .jammed ∧ b.route.swapPending = true ∧
     (∃ k, depositAt k b = none) ∧ ∀ d ∈ b.deposit.deposits, d.id ≠ card.depositId) ∧
    -- a late end card: the OPEN deposit with nothing in flight, and with one item
    ((openDeposit u).map (·.inFlight) = some 0 ∧ u.line.state ≠ .jammed ∧
      0 < ({ deposit 1 7002 .openState with inFlight := 1 } : Deposit).inFlight) ∧
    -- a late SEPARATOR record
    ((tracking ([{ unread with lateMark := true }] ++ unread :: []) rig).edge.fifo = [] ∧ unread.kind = .unread ∧
      unread.seq = card.seq ∧ unread.lateMark = false ∧
      ∀ x ∈ [{ unread with lateMark := true }], ¬ (x.kind = .unread ∧ x.seq = card.seq ∧ x.lateMark = false)) := by decide +kernel

/-- Each result; a denomination with a line, one without, and UNCODED; and a deposit OPEN, one with an item in flight, one in JAMMED, and one that closes. -/
theorem witness_DepositsReconciled :
    let d := deposit 0 9100 .closing
    let e : Declaration := { id := 9100, lines := [(7, 1)], bound := true }
    let s := depositing [d] rig
    (0 < ({ d with lost := 1 } : Deposit).lost ∧ ¬ (0 < d.lost ∨ d.boundaryLost = true)) ∧
    d.accepted[acceptedIndex (some 7)] ≠ declaredCount e (some 7) ∧
    (e.lines = [] ++ (7, 1) :: [] ∧ ∀ l ∈ e.lines, l.1 ≠ 8) ∧
    ((∀ x ∈ s.deposit.deposits, x.state ≠ .openState) ∧ (∀ x ∈ s.deposit.deposits, x.slot ≠ 1) ∧
      s.deposit.deposits = [] ++ d :: [] ∧ (deposit 0 9100 .openState).state = .openState) ∧
    (∀ k : Option Denom, ({ d with accepted := d.accepted.set 7 1 } : Deposit).accepted[acceptedIndex k] = declaredCount e k) ∧
    depositAt 0 s = some d ∧ (deposit 0 9100 .openState).state = .openState ∧ 0 < ({ d with inFlight := 1 } : Deposit).inFlight ∧
    (lineIn .jammed).line.state = .jammed ∧ (d.state = .closing ∧ d.inFlight = 0 ∧ rig.line.state ≠ .jammed) ∧
    (unread.slot = none ∧ ({ unread with slot := some 0 } : Entry).slot = some 0) := by decide +kernel

theorem witness_LineMoves :
    let held (c : CauseSet) (s : State) := { s with line := { s.line with causes := c } }
    let full : CauseSet := { CauseSet.empty with depositFull := true }
    (rig.line.state = .idle ∧ rig.track.loaded = true ∧ rig.line.causes = CauseSet.empty) ∧
    (State.reset.track.loaded = false ∧ (held full rig).line.causes ≠ CauseSet.empty) ∧ (lineIn .jammed).line.state = .jammed ∧
    (lineIn .drain).line.state = .drain ∧ (halted .run).line.state = .halt ∧ (lineIn .run).line.state = .run ∧
    (rig.track.queue = [] ∧ rig.edge.fifo = [] ∧ (holding [edge 1 1] rig).edge.fifo ≠ []) ∧
    ({ (held full (halted .run)).line.causes with operator := false, command := false } ≠ CauseSet.empty) ∧
    ({ (held { CauseSet.empty with operator := true } (halted .run)).line.causes with operator := false, command := false } =
      CauseSet.empty) ∧
    (halted .run).line.resume = some .run ∧ (halted .drain).line.resume = some .drain := by decide +kernel

/-- States that keep the law of the line, in each line state. -/
theorem witness_LineHalts :
    let moving (l : LineState) := after (.lineStart 1) rig |> fun s =>
      if l = .drain then after (.lineStop 2) (holding [edge 1 1] s) else s
    (LineLaw rig ∧ rig.line.state = .idle) ∧ (LineLaw (moving .run) ∧ (moving .run).line.state = .run) ∧
    (LineLaw (moving .drain) ∧ (moving .drain).line.state = .drain) ∧
    (LineLaw (after .operatorStop (moving .run)) ∧ (after .operatorStop (moving .run)).line.state = .halt) ∧
    (LineLaw (after .stallTimerExpiry (moving .run)) ∧ (after .stallTimerExpiry (moving .run)).line.state = .jammed) := by
  refine ⟨⟨?_, by decide +kernel⟩, ⟨?_, by decide +kernel⟩, ⟨?_, by decide +kernel⟩, ⟨?_, by decide +kernel⟩,
    ⟨?_, by decide +kernel⟩⟩ <;> constructor <;> decide +kernel

theorem witness_RecoverTaken :
    rig.line.state ≠ .jammed ∧
    (let s := depositing [deposit 0 1 .closing, deposit 3 2 .openState] (lineIn .jammed)
     s.line.state = .jammed ∧ (s.deposit.deposits.map (·.slot)).Nodup) ∧
    (queued 61 (lineIn .jammed)).report.queue.length ≤ 61 := by decide +kernel

theorem witness_LineResetTaken :
    let s := tracking [unread] (queued 61 (lineIn .run))
    (queued 63 rig).report.queue.length < 64 ∧ s.report.queue.length ≤ 61 ∧
    s.edge.fifo.length + s.track.queue.length + s.track.waiting.toList.length < 65536 ∧ s.line.state ≠ .idle ∧
    rig.line.state = .idle := by decide +kernel

/-- No window ends; one ends with another item before it, in RUN, HALT and IDLE; the stall timer stopped and running. -/
theorem witness_MissingItemsAndStalls :
    let other : Entry := { entry 1 .runOut .routed with arrival := { first := 0, last := 9 } }
    let e := entry 2 (.gated 0) .placed
    let s := tracking ([other] ++ e :: []) (atPosition 1310 rig)
    (∀ x ∈ [other], ¬ x.arrival.last = s.edge.position) ∧ e.arrival.last = s.edge.position ∧
    (s.track.queue = [other] ++ e :: [] ∧ s.line.state = .idle) ∧ ((lineIn .halt).line.state ≠ .jammed ∧ (lineIn .halt).line.state ≠ .idle) ∧
    (depositAt 0 (depositing [deposit 0 9100 .openState] s) = some (deposit 0 9100 .openState) ∧
      ({ e with slot := some 0 } : Entry).slot = some 0) ∧
    (depositAt 0 (depositing [{ deposit 0 9100 .closing with inFlight := 1 }] s)).map (·.state) = some .closing ∧
    (queued 46 s).report.queue.length < 47 ∧
    -- the place withdrawn: at the quarantine pocket, at a member left empty, and at one that is not
    (rig.pocket.quarantine = some 2 ∧ rig.pocket.quarantine ≠ some 0 ∧ (bundle .closing 2 1 0).committed - 1 = 0 ∧
      (bundle .closing 2 1 0).confirmed = 0 ∧ 0 < (bundle .closing 2 2 1).confirmed) ∧
    rig.track.stall = none ∧ ({ lineIn .run with track := { rig.track with stall := some 250 } } : State).track.stall ≠ none := by
  decide +kernel

/-- No candidate at the positions next to the window; a candidate at each of its ends, at run-out, at a member and at the quarantine
pocket; a shadow candidate at its window's ends. -/
theorem witness_ArrivalsTaken :
    let within (x : Pos) (w : Window) : Prop := (x - w.first).toNat ≤ (w.last - w.first).toNat
    let e := entry 2 (.gated 0) .placed
    let sh : Shadow := { pocket := 0, window := { first := 990, last := 1310 } }
    let x : Entry := { entry 3 .runOut .pitch with arrival := { first := 5, last := 9 }, shadow := some sh }
    (¬ within 989 e.arrival ∧ within 990 e.arrival ∧ within 1310 e.arrival ∧ ¬ within 1311 e.arrival) ∧
    (e.dest = pocketOf 1 ∧ (entry 1 .runOut .routed).dest = pocketOf 0 ∧ (entry 1 (.gated 2) .watch).dest = pocketOf 3) ∧
    (rig.pocket.quarantine = some 2 ∧ rig.pocket.quarantine ≠ some 0) ∧
    (x.shadow = some sh ∧ Dest.gated sh.pocket = pocketOf 1 ∧ within 990 sh.window ∧ x.dest ≠ pocketOf 1) ∧
    -- a recount at a pocket OPEN, FULL, CLOSING and UNASSIGNED
    (pocketAt 0 rig).state = .openState ∧ (pocketAt 0 (pocketed 0 (bundle .full 2 2 2) rig)).state = .full ∧
    ((pocketAt 0 (pocketed 0 (bundle .closing 2 2 1) rig)).state = .closing ∧ (pocketAt 14 rig).state = .unassigned) ∧
    -- a confirmation that fills the bundle and one that does not; deposit-pure or not; the deposit in the list or not; the list at 8
    (let r := pocketAt 0 (pocketed 0 (bundle .closing 2 2 1) rig)
     let list (n : Nat) : List (DepositKey × Nat) := (List.range n).map fun k => (.id (BitVec.ofNat 32 k), 1)
     (e.dest = .gated 0 ∧ r.target = some (r.confirmed + 1) ∧ (bundle .openState 3 2 1).target ≠ some ((bundle .openState 3 2 1).confirmed + 1)) ∧
     (({ r with depositPure := true } : PocketRec).depositPure = true ∧ r.depositPure = false) ∧
     ((list 8).any (fun p => p.1 == .id 7) = true ∧ (list 8).any (fun p => p.1 == .id 8) = false) ∧
     (list 7).length < 8 ∧ 8 ≤ (list 8).length) ∧
    -- the drain end
    ((lineIn .drain).line.state = .drain ∧ rig.track.queue = [] ∧ rig.edge.fifo = [] ∧ rig.line.state ≠ .drain ∧
      (holding [edge 1 1] rig).edge.fifo ≠ [] ∧ (tracking [e] rig).track.queue ≠ []) := by
  decide +kernel

/-- In JAMMED and outside it; a pocket that lost nothing, the quarantine pocket, a member left empty and one that is not. -/
theorem witness_EntryIntoJammed :
    let lost (es : List Entry) (g : Gate) : Nat := es.countP fun e => e.dest == .gated g
    (lineIn .jammed).line.state = .jammed ∧ rig.line.state ≠ .jammed ∧
    (lost [entry 1 (.gated 0) .placed] 1 = 0 ∧ lost [entry 1 (.gated 0) .placed] 0 = 1) ∧
    (lost [entry 1 (.gated 2) .watch] 2 = 1 ∧ rig.pocket.quarantine = some 2 ∧ rig.pocket.quarantine ≠ some 0) ∧
    ((bundle .openState 100 1 0).committed - 1 = 0 ∧ (bundle .openState 100 1 0).confirmed = 0) ∧
    (0 < (bundle .closing 2 2 0).committed - 1 ∨ 0 < (bundle .closing 2 2 0).confirmed) ∧ 0 < (bundle .closing 2 2 1).confirmed := by
  decide +kernel

/-! ### The laws hold of a state with something in every table, and a step from it proceeds -/

/-- The rig with a note in flight to pocket 1 for an OPEN deposit, a report queued, and a command waiting. -/
def busy : State :=
  { pocketed 0 { bundle .closing 100 100 99 with contributions := [(.id 9100, 99)] } (tracking [{ entry 4 (.gated 0) .placed with slot := some 0 }]
      (depositing [{ deposit 0 9100 .openState with inFlight := 1, itemCount := 1 }] (queued 1 rig))) with
    pending := [.arrivalPulse 1] }

theorem test_busy_steps : ∃ t, step busy = .next t := ⟨_, rfl⟩

theorem witness_LineLawKept : LineLaw busy := by constructor <;> decide +kernel

theorem witness_TrackAndReportLawsKept : TrackLaw busy ∧ ReportLaw busy := by
  refine ⟨by constructor <;> decide +kernel, ⟨by decide, by decide, fun n h => ?_, fun f h => ?_, rfl, fun h => ?_⟩⟩
  · have : n = 0 := by cases h; rfl
    omega
  · cases h
  · cases h

theorem witness_TableLawsKept : RouteLaw busy ∧ WatchLaw busy := by
  refine ⟨⟨by decide +kernel, by decide +kernel⟩, ⟨by decide, by decide, by decide, fun cell => ?_⟩⟩
  have list : busy.watch.list = [{ serial := digits, denom := none, caseRef := 77 }] := rfl
  have index : busy.watch.index = [(2481, 1)] := rfl
  rw [list, index]
  by_cases h : 2481 = cell
  · subst h
    decide +kernel
  · simp [Memory.read, Memory.unlisted, test_crc_and_cell.2, h]

theorem witness_DepositLawKept : DepositLaw busy := by constructor <;> decide +kernel

theorem witness_GroupAndPocketLawsKept : GroupLaw busy ∧ PocketLaw busy := by
  constructor
  · refine ⟨by decide +kernel, by decide +kernel, fun k => ?_, by decide +kernel⟩
    have cases : k = 0 ∨ ((groupAt k busy).current = none ∧ (groupAt k busy).members = []) := by revert k; decide +kernel
    rcases cases with rfl | ⟨current, members⟩
    · exact (by decide +kernel : (0 : Gate) ∈ (groupAt 0 busy).members)
    · simp [current, members]
  · refine ⟨by decide +kernel, by decide +kernel, by decide +kernel, fun g k h => ?_, by decide +kernel, by decide +kernel⟩
    have cases : g = 0 ∨ g = 1 := by revert g k; decide +kernel
    rcases cases with rfl | rfl
    · exact ⟨by decide +kernel, by decide +kernel, by decide +kernel⟩
    · exact ⟨by decide +kernel, by decide +kernel, by decide +kernel⟩

end Sys2Proof.Tests
end

section
/-! SUPPORT. The read point: what a trailing edge does to the Edge FIFO and to the gap measure (R26, R27). -/

namespace Sys2Proof.Machine

/-! ### The youngest held edge at a trailing edge -/

/-- An empty FIFO has no edge to end. -/
@[simp] theorem endYoungest_nil (last : Option Word) (position : Pos) : endYoungest last position [] = [] := rfl

/-- The last item captured, still without a trailing position, takes the present one; the older edges stay. -/
theorem endYoungest_concat_of_open {last : Option Word} {e : HeldEdge} (position : Pos) (older : List HeldEdge)
    (captured : last = some e.item) (isOpen : e.trail = none) :
    endYoungest last position (older ++ [e]) = older ++ [{ e with trail := some position }] := by
  simp [endYoungest, captured, isOpen]

/-- A youngest edge that is not the last item captured, or that has its trailing position, keeps the whole FIFO as it is. -/
theorem endYoungest_concat_of_closed {last : Option Word} {e : HeldEdge} (position : Pos) (older : List HeldEdge)
    (closed : last ≠ some e.item ∨ e.trail ≠ none) :
    endYoungest last position (older ++ [e]) = older ++ [e] := by
  have notOpen : ¬ (last = some e.item ∧ e.trail = none) := not_and_or.mpr closed
  simp [endYoungest, notOpen]

/-- A held edge that has its trailing position has as its length the forward distance from its leading position. -/
theorem HeldEdge.length_of_ended (e : HeldEdge) (position : Pos) :
    ({ e with trail := some position } : HeldEdge).length = some (position - e.lead).toNat := rfl

/-! ### The trailing edge -/

/-- A trailing edge changes the Edge Capture Unit alone: the gap measure restarts and the FIFO's youngest edge may end. -/
theorem exec_trailingEdge (s : State) :
    exec .trailingEdge s = .next { s with
      edge := { s.edge with gap := some 0, fifo := endYoungest s.edge.lastItem s.edge.position s.edge.fifo } } := rfl

/-- Where no held edge ends, a trailing edge restarts the gap measure and does nothing else. -/
theorem exec_trailingEdge_of_fifo_kept {s : State}
    (kept : endYoungest s.edge.lastItem s.edge.position s.edge.fifo = s.edge.fifo) :
    exec .trailingEdge s = .next { s with edge := { s.edge with gap := some 0 } } := by
  rw [exec_trailingEdge, kept]

/-- Settles O18, by the cases of R26: the youngest held edge still open, already closed to the trailing edge, or absent. -/
theorem trailingEdgeMeasures : Obligations.TrailingEdgeMeasures := by
  intro s
  refine ⟨fun older e fifo captured isOpen => ⟨?ends, ?length⟩, fun older e fifo closed => ?closed, fun fifo => ?absent⟩
  case ends => rw [exec_trailingEdge, fifo, endYoungest_concat_of_open _ older captured isOpen]
  case length => exact e.length_of_ended s.edge.position
  case closed =>
    apply exec_trailingEdge_of_fifo_kept
    rw [fifo, endYoungest_concat_of_closed _ older closed]
  case absent =>
    apply exec_trailingEdge_of_fifo_kept
    rw [fifo, endYoungest_nil]

end Sys2Proof.Machine
end

section
/-! SUPPORT. The winner of a note: the Route Matcher's reading of ACTIVE gives the first candidate of lowest priority class (R46). -/

namespace Sys2Proof.Machine

/-- What stands no farther from the head than b among the elements a filter keeps, b being kept, stands no farther than b in the list. -/
theorem idxOf_le_of_idxOf_filter_le {α : Type} [BEq α] [LawfulBEq α] {keep : α → Bool} {a b : α}
    (keepsB : keep b = true) (list : List α) (nearer : (list.filter keep).idxOf a ≤ (list.filter keep).idxOf b) :
    list.idxOf a ≤ list.idxOf b := by
  induction list with
  | nil => simp
  | cons x rest ih =>
    by_cases isA : x = a
    · simp [isA]
    by_cases isB : x = b
    · subst isB
      simp [List.idxOf_cons_ne _ isA, keepsB] at nearer
    · rw [List.idxOf_cons_ne _ isA, List.idxOf_cons_ne _ isB, Nat.succ_le_succ_iff]
      refine ih ?_
      by_cases kept : keep x = true
      · simpa [kept, List.idxOf_cons_ne _ isA, List.idxOf_cons_ne _ isB] using nearer
      · simpa [kept] using nearer

/-- What a note's matching looks for in ACTIVE: an object that is not spent and whose key fields all let the note through (R45, R46). -/
def isCandidate (r : NoteRecord) (s : State) (k : ObjectNo) : Bool :=
  !(objectAt k s).spent && (objectAt k s).admits r ((openDeposit s).map (·.kind))

theorem isCandidate_iff (r : NoteRecord) (s : State) (k : ObjectNo) :
    isCandidate r s k = true ↔
      (objectAt k s).spent = false ∧ (objectAt k s).admits r ((openDeposit s).map (·.kind)) = true := by
  simp [isCandidate]

/-- Keeping the lower priority class, and the earlier of equals, is the library's first least element. -/
theorem foldl_pickLower (prio : ObjectNo → Nat) (list : List ObjectNo) :
    list.foldl (pickLower prio) none = list.argmin prio := by
  have step : pickLower prio = List.argAux (fun j b => prio j < prio b) := by
    funext best k
    cases best <;> rfl
  rw [step, List.argmin]

/-- The winner is the first candidate of ACTIVE of lowest priority class. -/
theorem winner_eq_argmin (r : NoteRecord) (s : State) :
    winner r s = (s.route.active.filter (isCandidate r s)).argmin fun k => (objectAt k s).priority :=
  foldl_pickLower _ _

/-- No object wins exactly where ACTIVE holds no candidate. -/
theorem winner_eq_none_iff (r : NoteRecord) (s : State) :
    winner r s = none ↔ ∀ k ∈ s.route.active, ¬ isCandidate r s k = true := by
  rw [winner_eq_argmin, List.argmin_eq_none, List.filter_eq_nil_iff]

/-- A winner is a candidate of ACTIVE, and every other candidate has a higher priority class, or the same one farther from the head. -/
theorem of_winner_eq_some {r : NoteRecord} {s : State} {k : ObjectNo} (won : winner r s = some k) :
    (k ∈ s.route.active ∧ isCandidate r s k = true) ∧ ∀ j ∈ s.route.active, isCandidate r s j = true →
      (objectAt k s).priority < (objectAt j s).priority ∨
      ((objectAt k s).priority = (objectAt j s).priority ∧ s.route.active.idxOf k ≤ s.route.active.idxOf j) := by
  rw [winner_eq_argmin, ← Option.mem_def, List.mem_argmin_iff] at won
  obtain ⟨isKept, lowest, first⟩ := won
  obtain ⟨inActive, isCand⟩ := List.mem_filter.mp isKept
  refine ⟨⟨inActive, isCand⟩, fun j jInActive jCand => ?_⟩
  have jKept : j ∈ s.route.active.filter (isCandidate r s) := List.mem_filter.mpr ⟨jInActive, jCand⟩
  obtain lower | equal := (lowest j jKept).lt_or_eq
  · exact .inl lower
  · exact .inr ⟨equal, idxOf_le_of_idxOf_filter_le jCand _ (first j jKept equal.ge)⟩

/-- Settles O26: the fold over the candidates is the library's first least element, whose place among the candidates orders as its
place in ACTIVE does. -/
theorem winnerIsMostUrgent : Obligations.WinnerIsMostUrgent := by
  intro r s
  simp only [← isCandidate_iff]
  refine ⟨?noWinner, fun k won => ?theWinner⟩
  case noWinner => simp only [winner_eq_none_iff, not_and]
  case theWinner =>
    obtain ⟨isCand, foremost⟩ := of_winner_eq_some won
    exact ⟨isCand, fun j ⟨jInActive, jCand⟩ => foremost j jInActive jCand⟩

end Sys2Proof.Machine
end

section
/-! SUPPORT. The requests on a route object: the object an index byte names, the order of their checks, and the moves of ROUTE_LINK and
ROUTE_UNLINK between the lists (R17, R43, R44). -/

namespace Sys2Proof.Machine

/-! ### Requests and their checks -/

@[simp] theorem firstRefusal_nil : firstRefusal [] = none := rfl

@[simp] theorem firstRefusal_cons (holds : Bool) (reason : RefusalReason) (rest : List (Bool × RefusalReason)) :
    firstRefusal ((holds, reason) :: rest) = if holds then some reason else firstRefusal rest := rfl

/-- A request of which a check holds is refused with the first such check's reason. -/
theorem request_of_refusal {checks : List (Bool × RefusalReason)} {reason : RefusalReason}
    (refused : firstRefusal checks = some reason) (tag code : Byte) (detail : Detail) (effect : State → State) (s : State) :
    request tag code checks detail effect s = refuse tag code reason s := by
  simp only [request, refused]

/-- A request of which no check holds is answered, and then carried out. -/
theorem request_of_pass {checks : List (Bool × RefusalReason)} (passed : firstRefusal checks = none) (tag code : Byte)
    (detail : Detail) (effect : State → State) (s : State) :
    request tag code checks detail effect s = effect (answer tag code detail s) := by
  simp only [request, passed]

/-! ### The object an index names -/

theorem objectOfByte_of_named {index : Byte} {k : ObjectNo} (named : index.toNat = k) : objectOfByte index = some k := by
  simp [objectOfByte, named]

theorem objectOfByte_of_above {index : Byte} (above : 47 < index.toNat) : objectOfByte index = none := by
  have notBelow : ¬ index.toNat < 48 := by omega
  simp [objectOfByte, notBelow]

/-- An index that names an object puts that object's checks after the check of the arguments' ranges. -/
theorem objectChecks_of_named {index : Byte} {k : ObjectNo} (named : index.toNat = k) (range : Bool)
    (checks : ObjectNo → List (Bool × RefusalReason)) :
    objectChecks index range checks = (range, .range) :: checks k := by
  simp only [objectChecks, objectOfByte_of_named named]

theorem onObject_of_named {index : Byte} {k : ObjectNo} (named : index.toNat = k) (f : ObjectNo → State → State) :
    onObject index f = f k := by
  funext s
  simp only [onObject, objectOfByte_of_named named]

/-- An index above 47, or an argument outside its range, is refused RANGE before any check on the object. -/
theorem firstRefusal_objectChecks_of_range {index : Byte} {range : Bool} (outOfRange : 47 < index.toNat ∨ range = true)
    (checks : ObjectNo → List (Bool × RefusalReason)) :
    firstRefusal (objectChecks index range checks) = some .range := by
  by_cases above : 47 < index.toNat
  · simp [objectChecks, objectOfByte_of_above above]
  · have named : index.toNat = (⟨index.toNat, by omega⟩ : ObjectNo) := rfl
    simp [objectChecks_of_named named, outOfRange.resolve_left above]

/-- A request on an object that its index names, with its arguments in range, is a request with that object's checks and effect. -/
theorem request_on_named {index : Byte} {k : ObjectNo} (named : index.toNat = k) {range : Bool} (inRange : range = false)
    (tag code : Byte) (checks : ObjectNo → List (Bool × RefusalReason)) (detail : Detail) (f : ObjectNo → State → State)
    (s : State) :
    request tag code (objectChecks index range checks) detail (onObject index f) s =
      request tag code (checks k) detail (f k) s := by
  simp only [request, objectChecks_of_named named, onObject_of_named named, inRange, firstRefusal_cons,
    Bool.false_eq_true, if_false]

/-! ### The lists -/

/-- FREE is every object in neither list (R41). -/
theorem isFree_iff (k : ObjectNo) (s : State) : isFree k s = true ↔ k ∉ s.route.active ∧ k ∉ s.route.standby := by
  simp [isFree]

theorem isFree_eq_false_iff (k : ObjectNo) (s : State) : isFree k s = false ↔ k ∈ s.route.active ∨ k ∈ s.route.standby := by
  rw [← Bool.not_eq_true, isFree_iff, not_and_or, not_not, not_not]

/-- An answer leaves every route object as it is. -/
@[simp] theorem objectAt_answer (k : ObjectNo) (tag code : Byte) (detail : Detail) (s : State) :
    objectAt k (answer tag code detail s) = objectAt k s := by
  simp only [objectAt, answer_route]

/-! ### ROUTE_LINK (R43) -/

/-- The checks of a ROUTE_LINK on the object it names, its list code in range (R43). -/
def linkChecks (list : Byte) (k : ObjectNo) (s : State) : List (Bool × RefusalReason) :=
  [(!isFree k s, .state), (list == 1 && s.line.state != .idle, .state), (list == 0 && s.route.swapPending, .pending)]

theorem exec_routeLink (tag index list position : Byte) (s : State) :
    exec (.routeLink tag index list position) s = .next (request tag 0x11
      (objectChecks index (1 < list.toNat) fun k => linkChecks list k s) .none (onObject index (linkObject list position)) s) := rfl

theorem exec_routeLink_of_named {index list : Byte} {k : ObjectNo} (named : index.toNat = k) (inRange : list.toNat ≤ 1)
    (tag position : Byte) (s : State) :
    exec (.routeLink tag index list position) s =
      .next (request tag 0x11 (linkChecks list k s) .none (linkObject list position k) s) := by
  rw [exec_routeLink, request_on_named named (decide_eq_false inRange.not_gt)]

/-- A link to ACTIVE arms the object and puts it behind the given number of others. -/
theorem linkObject_active (position : Byte) (k : ObjectNo) (s : State) :
    linkObject 1 position k s = { s with route := { s.route with
      objects := s.route.objects.set k { objectAt k s with remaining := (objectAt k s).preset.getD 0, spent := false }
      active := s.route.active.take position.toNat ++ k :: s.route.active.drop position.toNat } } := rfl

/-- A link to STANDBY puts the object behind the given number of others and leaves its fields. -/
theorem linkObject_standby (position : Byte) (k : ObjectNo) (s : State) :
    linkObject 0 position k s = { s with route := { s.route with
      standby := s.route.standby.take position.toNat ++ k :: s.route.standby.drop position.toNat } } := rfl

/-- A FREE object linked to ACTIVE in IDLE. -/
theorem exec_routeLink_active {index : Byte} {k : ObjectNo} {s : State} (named : index.toNat = k) (free : isFree k s = true)
    (idle : s.line.state = .idle) (tag position : Byte) :
    exec (.routeLink tag index 1 position) s = .next { answer tag 0x11 .none s with route := { s.route with
      objects := s.route.objects.set k { objectAt k s with remaining := (objectAt k s).preset.getD 0, spent := false }
      active := s.route.active.take position.toNat ++ k :: s.route.active.drop position.toNat } } := by
  have passed : firstRefusal (linkChecks 1 k s) = none := by simp [linkChecks, free, idle]
  rw [exec_routeLink_of_named named (by decide), request_of_pass passed, linkObject_active, answer_route, objectAt_answer]

/-- A FREE object linked to STANDBY with no swap pending. -/
theorem exec_routeLink_standby {index : Byte} {k : ObjectNo} {s : State} (named : index.toNat = k) (free : isFree k s = true)
    (settled : s.route.swapPending = false) (tag position : Byte) :
    exec (.routeLink tag index 0 position) s = .next { answer tag 0x11 .none s with route := { s.route with
      standby := s.route.standby.take position.toNat ++ k :: s.route.standby.drop position.toNat } } := by
  have passed : firstRefusal (linkChecks 0 k s) = none := by simp [linkChecks, free, settled]
  rw [exec_routeLink_of_named named (by decide), request_of_pass passed, linkObject_standby, answer_route]

/-- An index above 47 or a list code above 1 is refused RANGE. -/
theorem exec_routeLink_range {index list : Byte} (outOfRange : 47 < index.toNat ∨ 1 < list.toNat) (tag position : Byte)
    (s : State) :
    exec (.routeLink tag index list position) s = .next (refuse tag 0x11 .range s) := by
  rw [exec_routeLink, request_of_refusal]
  exact firstRefusal_objectChecks_of_range (outOfRange.imp_right decide_eq_true) _

/-- An object in a list, or ACTIVE outside IDLE, is refused STATE. -/
theorem exec_routeLink_state {index list : Byte} {k : ObjectNo} {s : State} (named : index.toNat = k) (inRange : list.toNat ≤ 1)
    (wrong : isFree k s = false ∨ (list = 1 ∧ s.line.state ≠ .idle)) (tag position : Byte) :
    exec (.routeLink tag index list position) s = .next (refuse tag 0x11 .state s) := by
  have refused : firstRefusal (linkChecks list k s) = some .state := by
    obtain linked | ⟨toActive, notIdle⟩ := wrong
    · simp [linkChecks, linked]
    · simp [linkChecks, toActive, notIdle]
  rw [exec_routeLink_of_named named inRange, request_of_refusal refused]

/-- A link of a FREE object to STANDBY while a swap is pending is refused PENDING. -/
theorem exec_routeLink_pending {index : Byte} {k : ObjectNo} {s : State} (named : index.toNat = k) (free : isFree k s = true)
    (pending : s.route.swapPending = true) (tag position : Byte) :
    exec (.routeLink tag index 0 position) s = .next (refuse tag 0x11 .pending s) := by
  have refused : firstRefusal (linkChecks 0 k s) = some .pending := by simp [linkChecks, free, pending]
  rw [exec_routeLink_of_named named (by decide), request_of_refusal refused]

/-! ### ROUTE_UNLINK (R44) -/

/-- The checks of a ROUTE_UNLINK on the object it names (R44). -/
def unlinkChecks (k : ObjectNo) (s : State) : List (Bool × RefusalReason) :=
  [(isFree k s, .state), (s.route.active.contains k && s.line.state != .idle, .state),
   (s.route.standby.contains k && s.route.swapPending, .pending)]

theorem exec_routeUnlink (tag index : Byte) (s : State) :
    exec (.routeUnlink tag index) s = .next (request tag 0x12
      (objectChecks index false fun k => unlinkChecks k s) .none (onObject index unlinkObject) s) := rfl

theorem exec_routeUnlink_of_named {index : Byte} {k : ObjectNo} (named : index.toNat = k) (tag : Byte) (s : State) :
    exec (.routeUnlink tag index) s = .next (request tag 0x12 (unlinkChecks k s) .none (unlinkObject k) s) := by
  rw [exec_routeUnlink, request_on_named named rfl]

/-- An object leaving ACTIVE has its spent flag cleared, and those behind it close up. -/
theorem unlinkObject_active {k : ObjectNo} {s : State} (inActive : k ∈ s.route.active) :
    unlinkObject k s = { s with route := { s.route with
      objects := s.route.objects.set k { objectAt k s with spent := false }, active := s.route.active.erase k } } :=
  if_pos (List.contains_iff_mem.mpr inActive)

/-- An object leaving STANDBY keeps its fields, and those behind it close up. -/
theorem unlinkObject_standby {k : ObjectNo} {s : State} (notActive : k ∉ s.route.active) :
    unlinkObject k s = { s with route := { s.route with standby := s.route.standby.erase k } } :=
  if_neg (List.contains_iff_mem.not.mpr notActive)

/-- An object of ACTIVE alone, unlinked in IDLE. -/
theorem exec_routeUnlink_active {index : Byte} {k : ObjectNo} {s : State} (named : index.toNat = k)
    (inActive : k ∈ s.route.active) (notStandby : k ∉ s.route.standby) (idle : s.line.state = .idle) (tag : Byte) :
    exec (.routeUnlink tag index) s = .next { answer tag 0x12 .none s with route := { s.route with
      objects := s.route.objects.set k { objectAt k s with spent := false }, active := s.route.active.erase k } } := by
  have passed : firstRefusal (unlinkChecks k s) = none := by
    simp [unlinkChecks, (isFree_eq_false_iff k s).mpr (.inl inActive), notStandby, idle]
  have stillActive : k ∈ (answer tag 0x12 .none s).route.active := by rwa [answer_route]
  rw [exec_routeUnlink_of_named named, request_of_pass passed, unlinkObject_active stillActive, answer_route, objectAt_answer]

/-- An object of STANDBY alone, unlinked with no swap pending. -/
theorem exec_routeUnlink_standby {index : Byte} {k : ObjectNo} {s : State} (named : index.toNat = k)
    (inStandby : k ∈ s.route.standby) (notActive : k ∉ s.route.active) (settled : s.route.swapPending = false) (tag : Byte) :
    exec (.routeUnlink tag index) s = .next { answer tag 0x12 .none s with route := { s.route with
      standby := s.route.standby.erase k } } := by
  have passed : firstRefusal (unlinkChecks k s) = none := by
    simp [unlinkChecks, (isFree_eq_false_iff k s).mpr (.inr inStandby), notActive, settled]
  have stillNotActive : k ∉ (answer tag 0x12 .none s).route.active := by rwa [answer_route]
  rw [exec_routeUnlink_of_named named, request_of_pass passed, unlinkObject_standby stillNotActive, answer_route]

/-- An index above 47 is refused RANGE. -/
theorem exec_routeUnlink_range {index : Byte} (above : 47 < index.toNat) (tag : Byte) (s : State) :
    exec (.routeUnlink tag index) s = .next (refuse tag 0x12 .range s) := by
  rw [exec_routeUnlink, request_of_refusal]
  exact firstRefusal_objectChecks_of_range (.inl above) _

/-- A FREE object, or one of ACTIVE outside IDLE, is refused STATE. -/
theorem exec_routeUnlink_state {index : Byte} {k : ObjectNo} {s : State} (named : index.toNat = k)
    (wrong : isFree k s = true ∨ (k ∈ s.route.active ∧ s.line.state ≠ .idle)) (tag : Byte) :
    exec (.routeUnlink tag index) s = .next (refuse tag 0x12 .state s) := by
  have refused : firstRefusal (unlinkChecks k s) = some .state := by
    obtain free | ⟨inActive, notIdle⟩ := wrong
    · simp [unlinkChecks, free]
    · simp [unlinkChecks, inActive, notIdle]
  rw [exec_routeUnlink_of_named named, request_of_refusal refused]

/-- An object of STANDBY while a swap is pending is refused PENDING. -/
theorem exec_routeUnlink_pending {index : Byte} {k : ObjectNo} {s : State} (named : index.toNat = k)
    (inStandby : k ∈ s.route.standby) (notActive : k ∉ s.route.active) (pending : s.route.swapPending = true) (tag : Byte) :
    exec (.routeUnlink tag index) s = .next (refuse tag 0x12 .pending s) := by
  have refused : firstRefusal (unlinkChecks k s) = some .pending := by
    simp [unlinkChecks, (isFree_eq_false_iff k s).mpr (.inr inStandby), inStandby, notActive, pending]
  rw [exec_routeUnlink_of_named named, request_of_refusal refused]

/-- Settles O30: each move of R43 and R44, and each refusal, by the checks that decide it. -/
theorem routeLinksMove : Obligations.RouteLinksMove := by
  refine ⟨?links, ?unlinks, ?linkRefusals, ?unlinkRefusals⟩
  case links =>
    intro tag index position k s named notActive notStandby
    have free : isFree k s = true := (isFree_iff k s).mpr ⟨notActive, notStandby⟩
    exact ⟨fun idle => exec_routeLink_active named free idle tag position,
      fun settled => exec_routeLink_standby named free settled tag position⟩
  case unlinks =>
    intro tag index k s named
    exact ⟨fun inActive notStandby idle => exec_routeUnlink_active named inActive notStandby idle tag,
      fun inStandby notActive settled => exec_routeUnlink_standby named inStandby notActive settled tag⟩
  case linkRefusals =>
    intro tag index list position s
    refine ⟨fun outOfRange => exec_routeLink_range outOfRange tag position s, fun k named inRange wrong => ?state,
      fun k named notActive notStandby toStandby pending => ?pending⟩
    case state =>
      rw [← or_assoc, ← isFree_eq_false_iff] at wrong
      exact exec_routeLink_state named inRange wrong tag position
    case pending =>
      subst toStandby
      exact exec_routeLink_pending named ((isFree_iff k s).mpr ⟨notActive, notStandby⟩) pending tag position
  case unlinkRefusals =>
    intro tag index s
    refine ⟨fun above => exec_routeUnlink_range above tag s, fun k named wrong => ?state,
      fun k named inStandby notActive pending => exec_routeUnlink_pending named inStandby notActive pending tag⟩
    case state =>
      rw [← isFree_iff] at wrong
      exact exec_routeUnlink_state named wrong tag

end Sys2Proof.Machine
end

section
/-! SUPPORT. The watch lookup: the counting index, then the oldest match of the list (R72, R73). -/

namespace Sys2Proof.Machine

/-- A match has the serial looked up, and no denomination or the item's own. -/
theorem WatchEntry.hits_iff (e : WatchEntry) (serial : Serial) (denom : Option Denom) :
    e.hits serial denom = true ↔ e.serial = serial ∧ (e.denom = none ∨ e.denom = denom) := by
  simp [WatchEntry.hits]

/-- A cell of 0 ends the lookup at once. -/
theorem lookup_of_cell_zero {serial : Serial} {s : State} (zero : s.watch.index.read (cellOf serial) = 0)
    (denom : Option Denom) : lookup serial denom s = (s, none) := if_pos zero

/-- A list without a match gives a miss that counts WATCH_FALSE. -/
theorem lookup_of_no_hit {serial : Serial} {denom : Option Denom} {s : State}
    (counted : s.watch.index.read (cellOf serial) ≠ 0) (noHit : ∀ e ∈ s.watch.list, ¬ e.hits serial denom = true) :
    lookup serial denom s = (bump .watchFalse s, none) := by
  have found : s.watch.list.find? (·.hits serial denom) = none := List.find?_eq_none.mpr noHit
  rw [lookup, if_neg counted, found]

/-- A match with none older than it is the hit, and counts WATCH_HITS. -/
theorem lookup_of_oldest_hit {serial : Serial} {denom : Option Denom} {s : State} {older newer : List WatchEntry}
    {e : WatchEntry} (counted : s.watch.index.read (cellOf serial) ≠ 0) (list : s.watch.list = older ++ e :: newer)
    (hit : e.hits serial denom = true) (noOlder : ∀ x ∈ older, ¬ x.hits serial denom = true) :
    lookup serial denom s = (bump .watchHits s, some e) := by
  have found : s.watch.list.find? (·.hits serial denom) = some e :=
    List.find?_eq_some_iff_append.mpr ⟨hit, older, newer, list, fun x inOlder => by simpa using noOlder x inOlder⟩
  rw [lookup, if_neg counted, found]

/-- Settles O31, by R72's table: the cell is 0, or the list holds no match, or it holds an oldest one. -/
theorem lookupByIndexThenList : Obligations.LookupByIndexThenList := by
  intro serial denom s
  simp only [← WatchEntry.hits_iff]
  exact ⟨fun zero => lookup_of_cell_zero zero denom, lookup_of_no_hit,
    fun older e newer counted list hit noOlder => lookup_of_oldest_hit counted list hit noOlder⟩

end Sys2Proof.Machine
end

section
/-! SUPPORT. The tallies a report leaves: handing one on, with the BACKLOG it may set, changes REPORTS_LOST and TRACE_DROPPED alone
(R194 to R196). -/

namespace Sys2Proof.Machine

section
variable {i : Fin 25}

@[simp] theorem enqueue_events (r : Report) (s : State) : (enqueue r s).report.events = s.report.events := rfl

/-- An increase of one tally leaves every other. -/
theorem ReportUnit.increase_event_of_ne {t : EventTally} (other : i ≠ t.index) (u : ReportUnit) :
    (u.increase (.event t)).events[i] = u.events[i] :=
  Vector.getElem_set_ne t.index.isLt i.isLt (Fin.val_ne_of_ne other.symm)

theorem loseOnce_event_of_ne (notLost : i ≠ EventTally.reportsLost.index) (s : State) :
    (loseOnce s).report.events[i] = s.report.events[i] := s.report.increase_event_of_ne notLost

theorem loseReport_event_of_ne (notLost : i ≠ EventTally.reportsLost.index) (s : State) :
    (loseReport s).report.events[i] = s.report.events[i] := by
  simp only [loseReport]
  split
  · rw [loseOnce_event_of_ne notLost, loseOnce_event_of_ne notLost]
  · exact loseOnce_event_of_ne notLost s

/-- A report that is no TRACE counts REPORTS_LOST at most. -/
theorem handPlain_event_of_ne (notLost : i ≠ EventTally.reportsLost.index) (r : Report) (s : State) :
    (handPlain r s).report.events[i] = s.report.events[i] := by
  by_cases room : s.report.queue.length < Config.queueCapacity
  · simp only [handPlain_room r s room, enqueue_events]
  · rw [handPlain_full r s room, loseReport_event_of_ne notLost]

/-- A tally's increase counts that tally, and REPORTS_LOST where its notice is lost. -/
theorem bumpQuiet_event_of_ne (notLost : i ≠ EventTally.reportsLost.index) {t : EventTally} (other : i ≠ t.index) (s : State) :
    (bumpQuiet (.event t) s).report.events[i] = s.report.events[i] := by
  simp only [bumpQuiet]
  split
  · rw [handPlain_event_of_ne notLost]
    exact s.report.increase_event_of_ne other
  · exact s.report.increase_event_of_ne other

theorem hand_event_of_ne (notLost : i ≠ EventTally.reportsLost.index) (notDropped : i ≠ EventTally.traceDropped.index)
    (r : Report) (s : State) : (hand r s).report.events[i] = s.report.events[i] := by
  unfold hand
  split
  · split
    · rfl
    · exact bumpQuiet_event_of_ne notLost notDropped s
  · exact handPlain_event_of_ne notLost r s

@[simp] theorem enterLine_report (to_ : LineState) (resume : Option Resume) (s : State) :
    (enterLine to_ resume s).report = s.report := by
  simp only [enterLine]
  split <;> rfl

theorem changeLine_event_of_ne (notLost : i ≠ EventTally.reportsLost.index) (notDropped : i ≠ EventTally.traceDropped.index)
    (to_ : LineState) (resume : Option Resume) (trigger : Trigger) (cause : Option LineCause) (s : State) :
    (changeLine to_ resume trigger cause s).report.events[i] = s.report.events[i] := by
  simp only [changeLine]
  rw [hand_event_of_ne notLost notDropped, enterLine_report]

theorem raiseQuiet_event_of_ne (notLost : i ≠ EventTally.reportsLost.index) (notDropped : i ≠ EventTally.traceDropped.index)
    (c : Cause) (s : State) : (raiseQuiet c s).report.events[i] = s.report.events[i] := by
  unfold raiseQuiet
  split
  case isTrue => rfl
  case isFalse =>
    simp only
    split
    case h_1 | h_2 => exact changeLine_event_of_ne notLost notDropped _ _ _ _ (putCause true c s)
    all_goals rfl

theorem takeBacklog_event_of_ne (notLost : i ≠ EventTally.reportsLost.index) (notDropped : i ≠ EventTally.traceDropped.index)
    (s : State) : (takeBacklog s).report.events[i] = s.report.events[i] := by
  unfold takeBacklog
  split
  · exact raiseQuiet_event_of_ne notLost notDropped _ s
  · rfl

theorem emit_event_of_ne (notLost : i ≠ EventTally.reportsLost.index) (notDropped : i ≠ EventTally.traceDropped.index)
    (r : Report) (s : State) : (emit r s).report.events[i] = s.report.events[i] := by
  rw [emit, takeBacklog_event_of_ne notLost notDropped, hand_event_of_ne notLost notDropped]

theorem answer_event_of_ne (notLost : i ≠ EventTally.reportsLost.index) (notDropped : i ≠ EventTally.traceDropped.index)
    (tag code : Byte) (detail : Detail) (s : State) :
    (answer tag code detail s).report.events[i] = s.report.events[i] := emit_event_of_ne notLost notDropped _ s

end

end Sys2Proof.Machine
end

section
/-! SUPPORT. The watch edits: the checks they share, WATCH_REMOVE and WATCH_CLEAR (R69, R70). -/

namespace Sys2Proof.Machine

/-! ### The arguments of a watch edit -/

/-- Digits and capital letters alone pass the format check (R202). -/
theorem serialFormatFaulty_eq_false_iff (serial : List Byte) :
    serialFormatFaulty serial = false ↔
      ∀ c ∈ serial, (0x30 ≤ c.toNat ∧ c.toNat ≤ 0x39) ∨ (0x41 ≤ c.toNat ∧ c.toNat ≤ 0x5A) := by
  simp [serialFormatFaulty, serialChar]

/-- The range check of WATCH_ADD and WATCH_REMOVE (R68, R69). -/
theorem watchRange_iff (serial : List Byte) (denom : Byte) :
    (serialLengthFaulty serial || denomFaulty denom) = true ↔
      serial.length < 4 ∨ 12 < serial.length ∨ (31 < denom.toNat ∧ denom ≠ 0xFF) := by
  simp [serialLengthFaulty, denomFaulty, or_assoc]

/-- The denomination a byte below 32 names is that number. -/
theorem denomOfByte_eq (denom : Byte) :
    denomOfByte denom = if denom.toNat < 32 then some (BitVec.ofNat 5 denom.toNat) else none := rfl

/-! ### The entry a request names -/

theorem WatchEntry.named_iff (e : WatchEntry) (serial : Serial) (denom : Option Denom) :
    e.named serial denom = true ↔ e.serial = serial ∧ e.denom = denom := by
  simp [WatchEntry.named]

theorem watched_iff (serial : Serial) (denom : Option Denom) (s : State) :
    watched serial denom s = true ↔ ∃ e ∈ s.watch.list, e.named serial denom = true := List.any_eq_true

theorem watched_eq_false_iff (serial : Serial) (denom : Option Denom) (s : State) :
    watched serial denom s = false ↔ ∀ e ∈ s.watch.list, ¬ e.named serial denom = true := List.any_eq_false

/-- The oldest entry named leaves the list, those behind it close up, and its cell goes down. -/
theorem removeWatch_of_oldest_named {serial : Serial} {denom : Option Denom} {s : State} {older newer : List WatchEntry}
    {e : WatchEntry} (list : s.watch.list = older ++ e :: newer) (named : e.named serial denom = true)
    (noOlder : ∀ x ∈ older, ¬ x.named serial denom = true) :
    removeWatch serial denom s = { s with watch := {
      list := older ++ newer
      index := s.watch.index.write (cellOf serial) (s.watch.index.read (cellOf serial) - 1) } } := by
  have rest : s.watch.list.eraseP (·.named serial denom) = older ++ newer := by
    simp only [list, List.eraseP_append_right _ noOlder, List.eraseP_cons_of_pos, named]
  simp only [removeWatch, rest, State.setWatch]

/-! ### WATCH_REMOVE (R69) -/

/-- The checks of a WATCH_REMOVE (R69), behind the check of its characters. -/
def removeChecks (denom : Byte) (serial : List Byte) (s : State) : List (Bool × RefusalReason) :=
  [(serialFormatFaulty serial, .format), (serialLengthFaulty serial || denomFaulty denom, .range),
   (!watched serial (denomOfByte denom) s, .notFound)]

theorem exec_watchRemove (tag denom : Byte) (serial : List Byte) (s : State) :
    exec (.watchRemove tag denom serial) s = .next (request tag 0x21 (removeChecks denom serial s)
      (.entries (s.watch.list.length - 1)) (removeWatch serial (denomOfByte denom)) s) := rfl

section
variable {denom : Byte} {serial : List Byte} {s : State} (wellFormed : serialFormatFaulty serial = false)
include wellFormed

/-- A length or a denomination out of range is refused RANGE. -/
theorem exec_watchRemove_range (outOfRange : (serialLengthFaulty serial || denomFaulty denom) = true) (tag : Byte) :
    exec (.watchRemove tag denom serial) s = .next (refuse tag 0x21 .range s) := by
  have refused : firstRefusal (removeChecks denom serial s) = some .range := by
    simp [removeChecks, wellFormed, outOfRange]
  rw [exec_watchRemove, request_of_refusal refused]

/-- An entry that is not held is refused NOT_FOUND. -/
theorem exec_watchRemove_notFound (inRange : ¬ (serialLengthFaulty serial || denomFaulty denom) = true)
    (notHeld : watched serial (denomOfByte denom) s = false) (tag : Byte) :
    exec (.watchRemove tag denom serial) s = .next (refuse tag 0x21 .notFound s) := by
  have refused : firstRefusal (removeChecks denom serial s) = some .notFound := by
    simp [removeChecks, wellFormed, inRange, notHeld]
  rw [exec_watchRemove, request_of_refusal refused]

/-- An entry that is held is answered and taken out. -/
theorem exec_watchRemove_held (inRange : ¬ (serialLengthFaulty serial || denomFaulty denom) = true)
    (held : watched serial (denomOfByte denom) s = true) (tag : Byte) :
    exec (.watchRemove tag denom serial) s = .next (removeWatch serial (denomOfByte denom)
      (answer tag 0x21 (.entries (s.watch.list.length - 1)) s)) := by
  have passed : firstRefusal (removeChecks denom serial s) = none := by
    simp [removeChecks, wellFormed, inRange, held]
  rw [exec_watchRemove, request_of_pass passed]

end

/-! ### WATCH_CLEAR (R70) -/

/-- WATCH_CLEAR has no check: it is answered and empties the list and the index. -/
theorem exec_watchClear (tag : Byte) (s : State) :
    exec (.watchClear tag) s =
      .next { answer tag 0x22 (.entries s.watch.list.length) s with watch := { list := [], index := [] } } := rfl

/-- Settles O33: WATCH_REMOVE by the checks that decide it; WATCH_CLEAR by its one outcome, whose answer can count REPORTS_LOST and
TRACE_DROPPED and no other tally. -/
theorem watchRemoveAndClear : Obligations.WatchRemoveAndClear := by
  refine ⟨?remove, fun tag s => ⟨_, exec_watchClear tag s, rfl, fun cell => rfl, ?watchHits, ?watchFalse⟩⟩
  case remove =>
    intro tag denom serial s characters
    have wellFormed : serialFormatFaulty serial = false := (serialFormatFaulty_eq_false_iff serial).mpr characters
    simp only [← denomOfByte_eq, ← watchRange_iff, ← WatchEntry.named_iff]
    refine ⟨fun outOfRange => exec_watchRemove_range wellFormed outOfRange tag,
      fun inRange notHeld => exec_watchRemove_notFound wellFormed inRange ((watched_eq_false_iff _ _ s).mpr notHeld) tag, ?held⟩
    case held =>
      intro older e newer inRange list named noOlder
      have held : watched serial (denomOfByte denom) s = true :=
        (watched_iff _ _ s).mpr ⟨e, by simp [list], named⟩
      have answered : (answer tag 0x21 (.entries (s.watch.list.length - 1)) s).watch.list = older ++ e :: newer := by
        rw [answer_watch, list]
      rw [exec_watchRemove_held wellFormed inRange held, removeWatch_of_oldest_named answered named noOlder,
        answer_watch]
  case watchHits => exact answer_event_of_ne (by decide) (by decide) tag 0x22 _ s
  case watchFalse => exact answer_event_of_ne (by decide) (by decide) tag 0x22 _ s

end Sys2Proof.Machine
end

section
/-! SUPPORT. SET_GEOMETRY: the relations of R124 as the check of the request reads them, on the distances in the order in which they
rise, and the three outcomes of the request. -/

namespace Sys2Proof.Machine

/-! ### The order in which the distances rise -/

/-- A list rises exactly where each of its elements is below every later one. -/
theorem rises_iff : ∀ l : List Nat, rises l = true ↔ l.Pairwise (· < ·)
  | [] => by simp [rises]
  | [_] => by simp [rises]
  | a :: b :: rest => by
    rw [← List.isChain_iff_pairwise, List.isChain_cons_cons, List.isChain_iff_pairwise, ← rises_iff (b :: rest)]
    simp [rises]

/-- D(p), the distance to the pocket that a geometry numbers p. -/
def pocketDistance (geo : Geometry) (p : Fin 16) : Nat := (geo.d[p]).toNat

theorem pocketDistance_zero (geo : Geometry) : pocketDistance geo 0 = distance geo .runOut := rfl

theorem pocketDistance_succ (geo : Geometry) (g : Gate) : pocketDistance geo g.succ = distance geo (.gated g) := rfl

/-- The order of R124 is the gated pockets in the order of their numbers, then the run-out pocket. -/
theorem trackOrder_eq (geo : Geometry) :
    trackOrder geo = List.ofFn (fun g : Gate => distance geo (.gated g)) ++ [distance geo .runOut] := by
  have distances : geo.d.toList = List.ofFn fun p : Fin 16 => geo.d[p] :=
    List.ext_getElem (by simp only [Vector.length_toList, List.length_ofFn])
      fun i _ _ => by simp only [Vector.getElem_toList, List.getElem_ofFn, Fin.getElem_fin]
  rw [trackOrder, distances, List.ofFn_succ]
  simp only [List.drop_succ_cons, List.drop_zero, List.take_succ_cons, List.take_zero, List.map_append, List.map_ofFn,
    List.map_cons, List.map_nil]
  rfl

theorem mem_trackOrder_iff {geo : Geometry} {n : Nat} : n ∈ trackOrder geo ↔ ∃ p, pocketDistance geo p = n := by
  have zeroOrSucc := Fin.exists_fin_succ (P := fun p => pocketDistance geo p = n)
  rw [zeroOrSucc, trackOrder_eq, List.mem_append, List.mem_ofFn, List.mem_singleton, or_comm, eq_comm]
  rfl

/-- The order of R124 holds no zero exactly where every distance is at least 1. -/
theorem trackOrder_any_zero_eq_false_iff (geo : Geometry) :
    (trackOrder geo).any (· == 0) = false ↔ ∀ p, 1 ≤ pocketDistance geo p := by
  simp only [List.any_eq_false, mem_trackOrder_iff, beq_iff_eq, forall_exists_index, forall_apply_eq_imp_iff,
    Nat.one_le_iff_ne_zero, ne_eq]

/-- The order of R124 rises exactly where the gated pockets rise and each of them is below the run-out pocket. -/
theorem rises_trackOrder_iff_gates (geo : Geometry) :
    rises (trackOrder geo) = true ↔
      (∀ g h : Gate, g < h → distance geo (.gated g) < distance geo (.gated h)) ∧
        ∀ g : Gate, distance geo (.gated g) < distance geo .runOut := by
  simp only [rises_iff, trackOrder_eq, List.pairwise_append, List.pairwise_ofFn, List.pairwise_singleton, true_and,
    List.mem_singleton, forall_eq, List.forall_mem_ofFn_iff]

/-- The order of R124 rises exactly where D(1) to D(15) rise and D(15) is below D(0). -/
theorem rises_trackOrder_iff (geo : Geometry) :
    rises (trackOrder geo) = true ↔
      (∀ p q : Fin 16, 1 ≤ p → p < q → pocketDistance geo p < pocketDistance geo q) ∧
        pocketDistance geo 15 < pocketDistance geo 0 := by
  simp only [rises_trackOrder_iff_gates, ← pocketDistance_succ, ← pocketDistance_zero]
  constructor
  · rintro ⟨rising, belowRunOut⟩
    refine ⟨fun p q first below => ?_, belowRunOut 14⟩
    obtain ⟨g, rfl⟩ := Fin.exists_succ_eq.mpr (show p ≠ 0 by omega)
    obtain ⟨h, rfl⟩ := Fin.exists_succ_eq.mpr (show q ≠ 0 by omega)
    exact rising g h (Fin.succ_lt_succ_iff.mp below)
  · rintro ⟨rising, lastBelow⟩
    have first (g : Gate) : 1 ≤ g.succ := Fin.one_le_of_ne_zero g.succ_ne_zero
    refine ⟨fun g h below => rising g.succ h.succ (first g) (Fin.succ_lt_succ_iff.mpr below), fun g => ?_⟩
    obtain isLast | below : g.succ = 15 ∨ g.succ < 15 := eq_or_lt_of_le (Fin.le_last g.succ)
    · rwa [isLast]
    · exact (rising g.succ 15 (first g) below).trans lastBelow

/-- A geometry passes the check exactly where every relation of R124 holds. -/
theorem geometryFaulty_eq_false_iff (geo : Geometry) (gapMin : Nat) :
    geometryFaulty geo gapMin = false ↔
      (∀ p, 1 ≤ pocketDistance geo p) ∧ 1 ≤ geo.admitLimit.toNat ∧
        (∀ p q : Fin 16, 1 ≤ p → p < q → pocketDistance geo p < pocketDistance geo q) ∧
        pocketDistance geo 15 < pocketDistance geo 0 ∧
        geo.lead.toNat + geo.lag.toNat ≤ gapMin ∧ geo.admitLimit.toNat + geo.tol.toNat < pocketDistance geo 0 := by
  have admitLimit : (geo.admitLimit == 0) = false ↔ 1 ≤ geo.admitLimit.toNat := by
    rw [beq_eq_false_iff_ne, Nat.one_le_iff_ne_zero, ← BitVec.toNat_ne_iff_ne]
    rfl
  have toZero : (geo.d[0]).toNat = pocketDistance geo 0 := rfl
  simp only [geometryFaulty, Bool.or_eq_false_iff, trackOrder_any_zero_eq_false_iff, admitLimit, Bool.not_eq_false',
    rises_trackOrder_iff, decide_eq_false_iff_not, Nat.not_lt, Nat.not_le, and_assoc, toZero]

/-! ### The request (R124) -/

/-- The checks of SET_GEOMETRY in their order: the relations, then the line state (R124). -/
def geometryChecks (geo : Geometry) (s : State) : List (Bool × RefusalReason) :=
  [(geometryFaulty geo s.track.gapMin, .range), (s.line.state != .idle, .state)]

theorem exec_setGeometry (tag : Byte) (geo : Geometry) (s : State) :
    exec (.setGeometry tag geo) s = .next (request tag 0x02 (geometryChecks geo s) .none
      (fun s => s.setTrack { s.track with geometry := geo, loaded := true }) s) := rfl

section
variable {geo : Geometry} {s : State}

/-- A geometry that breaks a relation is refused RANGE, whatever the line state. -/
theorem exec_setGeometry_of_faulty (faulty : ¬ geometryFaulty geo s.track.gapMin = false) (tag : Byte) :
    exec (.setGeometry tag geo) s = .next (refuse tag 0x02 .range s) := by
  have refused : firstRefusal (geometryChecks geo s) = some .range := by simp [geometryChecks, faulty]
  rw [exec_setGeometry, request_of_refusal refused]

/-- A geometry that holds every relation is refused STATE outside IDLE. -/
theorem exec_setGeometry_of_not_idle (sound : geometryFaulty geo s.track.gapMin = false) (notIdle : s.line.state ≠ .idle)
    (tag : Byte) : exec (.setGeometry tag geo) s = .next (refuse tag 0x02 .state s) := by
  have refused : firstRefusal (geometryChecks geo s) = some .state := by simp [geometryChecks, sound, notIdle]
  rw [exec_setGeometry, request_of_refusal refused]

/-- A geometry that holds every relation is answered in IDLE, and then replaces the present one. -/
theorem exec_setGeometry_of_idle (sound : geometryFaulty geo s.track.gapMin = false) (idle : s.line.state = .idle) (tag : Byte) :
    exec (.setGeometry tag geo) s = .next ((answer tag 0x02 .none s).setTrack
      { (answer tag 0x02 .none s).track with geometry := geo, loaded := true }) := by
  have passed : firstRefusal (geometryChecks geo s) = none := by simp [geometryChecks, sound, idle]
  rw [exec_setGeometry, request_of_pass passed]

end

/-- Settles O38, by the checks of the request in their order: the relations of R124, then the line state. -/
theorem geometryReplaced : Obligations.GeometryReplaced := by
  intro tag geo s
  have sound := geometryFaulty_eq_false_iff geo s.track.gapMin
  refine ⟨fun broken => ?range, fun good notIdle => ?state, fun good idle => ?replaced⟩
  case range => exact exec_setGeometry_of_faulty (mt sound.mp broken) tag
  case state => exact exec_setGeometry_of_not_idle (sound.mpr good) notIdle tag
  case replaced => exact exec_setGeometry_of_idle (sound.mpr good) idle tag

end Sys2Proof.Machine
end

section
/-! SUPPORT. What a work of the part keeps, said once for each operation: the blocks it does not touch, the law of the line and the law
of the Report Unit. Every law that a step keeps rests on this layer. -/

-- One declaration after another: all the works at once would ask for more threads than one text is given.
set_option Elab.async false

namespace Sys2Proof.Machine

/-! ### Blocks and works -/

/-- What a work may leave as it was: a block of the state, or whether the line is JAMMED. -/
inductive Block where
  | feed | edge | route | watch | pocket | group | track | deposit | pending | jam
deriving DecidableEq

/-- A block is the same in two states; the stall timer belongs to the line's work, not to the track's block. -/
def Same (s t : State) : Block → Prop
  | .feed => t.feed = s.feed
  | .edge => t.edge = s.edge
  | .route => t.route = s.route
  | .watch => t.watch = s.watch
  | .pocket => t.pocket = s.pocket
  | .group => t.group = s.group
  | .track => t.track = { s.track with stall := t.track.stall }
  | .deposit => t.deposit = s.deposit
  | .pending => t.pending = s.pending
  | .jam => t.line.state = .jammed ↔ s.line.state = .jammed

theorem Same.refl (s : State) (b : Block) : Same s s b := by
  cases b <;> simp [Same]

theorem Same.trans {s t u : State} {b : Block} (first : Same s t b) (second : Same t u b) : Same s u b := by
  cases b
  case track =>
    simp only [Same] at *
    rw [second, first]
  case jam => exact Iff.trans second first
  all_goals exact Eq.trans second first

/-! ### The law of the line, but for BACKLOG -/

/-- What LineLaw says of the line and its stall timer, apart from the backlog flag. -/
structure LineShape (l : LineUnit) (stall : Option Nat) : Prop where
  /-- RUN (R167) -/
  runOut : l.runOut = (l.state == .run || l.state == .drain)
  /-- FEED_EN (R167) -/
  feedEn : l.feedEn = (l.state == .run)
  /-- resume target (R169) -/
  resume : l.resume.isSome = (l.state == .halt)
  /-- jam in force (R182, R185) -/
  jam : l.jam.isSome = (l.state == .jammed)
  /-- cause set (R170) -/
  causes : l.state = .run ∨ l.state = .drain → l.causes = CauseSet.empty
  /-- stall timer (R139) -/
  stall : stall.isSome = (l.state == .run || l.state == .drain)

theorem lineLaw_iff (s : State) :
    LineLaw s ↔ LineShape s.line s.track.stall ∧ s.line.causes.backlog = s.report.backlog :=
  ⟨fun ⟨runOut, feedEn, resume, jam, causes, stall, backlog⟩ => ⟨⟨runOut, feedEn, resume, jam, causes, stall⟩, backlog⟩,
    fun ⟨⟨runOut, feedEn, resume, jam, causes, stall⟩, backlog⟩ => ⟨runOut, feedEn, resume, jam, causes, stall, backlog⟩⟩

/-- The law of the line while a backlog flag just set has not been taken yet. -/
def LineQuiet (s : State) : Prop :=
  LineShape s.line s.track.stall ∧ (s.line.causes.backlog = true → s.report.backlog = true)

theorem LineLaw.quiet {s : State} (law : LineLaw s) : LineQuiet s := by
  obtain ⟨shape, backlog⟩ := (lineLaw_iff s).mp law
  exact ⟨shape, fun held => backlog ▸ held⟩

/-- The law of the line reads the line, the stall timer and the backlog flag. -/
theorem LineLaw.congr {s t : State} (law : LineLaw s) (line : t.line = s.line) (stall : t.track.stall = s.track.stall)
    (backlog : t.report.backlog = s.report.backlog) : LineLaw t := by
  rw [lineLaw_iff] at law ⊢
  rwa [line, stall, backlog]

/-- The law of the Report Unit reads the queue, the loss mark and the transmitter. -/
theorem ReportLaw.congr {s t : State} (law : ReportLaw s) (queue : t.report.queue = s.report.queue)
    (lossMark : t.report.lossMark = s.report.lossMark) (tx : t.report.tx = s.report.tx)
    (reportTx : t.report.reportTx = s.report.reportTx) (segment : t.report.segment = s.report.segment) : ReportLaw t := by
  obtain ⟨hqueue, hlossMark, hidle, hsending, hline, hreleased⟩ := law
  refine ⟨?_, ?_, ?_, ?_, ?_, ?_⟩ <;> simpa only [queue, lossMark, tx, reportTx, segment]

/-! ### Works -/

/-- A work that touches the blocks named alone and keeps the law of the Report Unit, and that of the line but for a BACKLOG not taken
yet. -/
structure QuietWork (touched : List Block) (s t : State) : Prop where
  /-- every other block stands -/
  same : ∀ b, b ∉ touched → Same s t b
  /-- the law of the line, but for BACKLOG -/
  quiet : LineQuiet s → LineQuiet t
  /-- the law of the Report Unit -/
  reportLaw : ReportLaw s → ReportLaw t

/-- A work that also takes the BACKLOG it sets, and so keeps the law of the line. -/
structure Work (touched : List Block) (s t : State) : Prop extends QuietWork touched s t where
  /-- the law of the line -/
  lineLaw : LineLaw s → LineLaw t

/-- Whether the blocks of one list all stand in another. -/
def within (few many : List Block) : Bool := few.all many.contains

theorem mem_of_within {few many : List Block} (isWithin : within few many = true) : ∀ b ∈ few, b ∈ many := by
  simpa [within] using isWithin

theorem within_self (blocks : List Block) : within blocks blocks = true := by
  simp [within]

/-- Whether the blocks of two lists have none in common. -/
def apart (blocks touched : List Block) : Bool := blocks.all fun b => !touched.contains b

theorem not_mem_of_apart {blocks touched : List Block} (isApart : apart blocks touched = true) : ∀ b ∈ blocks, b ∉ touched := by
  simpa [apart] using isApart

/-- A block that a work does not touch stands. -/
theorem QuietWork.stands {touched : List Block} {s t : State} (work : QuietWork touched s t) (b : Block)
    (untouched : apart [b] touched = true := by rfl) : Same s t b :=
  work.same b (not_mem_of_apart untouched b (List.mem_singleton_self b))

theorem QuietWork.refl {touched : List Block} (s : State) : QuietWork touched s s :=
  ⟨fun b _ => Same.refl s b, id, id⟩

/-- Works in a row touch what either touches. -/
theorem QuietWork.trans {first second touched : List Block} {s t u : State} (one : QuietWork first s t) (two : QuietWork second t u)
    (inFirst : within first touched = true := by rfl) (inSecond : within second touched = true := by rfl) : QuietWork touched s u :=
  ⟨fun b untouched => (one.same b (mt (mem_of_within inFirst b) untouched)).trans (two.same b (mt (mem_of_within inSecond b) untouched)),
    two.quiet ∘ one.quiet, two.reportLaw ∘ one.reportLaw⟩

/-- Works on either branch are a work of the choice. -/
theorem QuietWork.ite {touched : List Block} {s t u : State} {p : Prop} [Decidable p] (holds : QuietWork touched s t)
    (fails : QuietWork touched s u) : QuietWork touched s (if p then t else u) := by
  split
  · exact holds
  · exact fails

theorem Work.refl {touched : List Block} (s : State) : Work touched s s := ⟨.refl s, id⟩

theorem Work.trans {first second touched : List Block} {s t u : State} (one : Work first s t) (two : Work second t u)
    (inFirst : within first touched = true := by rfl) (inSecond : within second touched = true := by rfl) : Work touched s u :=
  ⟨one.toQuietWork.trans two.toQuietWork inFirst inSecond, two.lineLaw ∘ one.lineLaw⟩

theorem Work.mono {few touched : List Block} {s t : State} (work : Work few s t)
    (inMany : within few touched = true := by rfl) : Work touched s t :=
  work.trans (.refl t) inMany inMany

/-- Works of the same blocks folded over a list. -/
theorem Work.foldl {α : Type} {touched : List Block} {f : State → α → State} (work : ∀ s a, Work touched s (f s a)) (list : List α)
    (s : State) : Work touched s (list.foldl f s) := by
  induction list generalizing s with
  | nil => exact .refl s
  | cons a rest ih => exact (work s a).trans (ih _) (within_self _) (within_self _)

/-! ### Edits: a block replaced, the line and the Report Unit as they were -/

/-- A change of blocks that leaves the line, its stall timer and the Report Unit. -/
theorem Work.edit {touched : List Block} {s t : State} (same : ∀ b, b ∉ touched → Same s t b) (line : t.line = s.line)
    (stall : t.track.stall = s.track.stall) (report : t.report = s.report) : Work touched s t :=
  ⟨⟨same, fun quiet => by rwa [LineQuiet, line, stall, report], fun law => law.congr (by rw [report]) (by rw [report]) (by rw [report])
    (by rw [report]) (by rw [report])⟩, fun law => law.congr line stall (by rw [report])⟩

theorem setFeed_work (s : State) (u : Receiver) : Work [.feed] s (s.setFeed u) :=
  .edit (fun b untouched => by cases b <;> simp [Same] at untouched ⊢) rfl rfl rfl

theorem setEdge_work (s : State) (u : EdgeUnit) : Work [.edge] s (s.setEdge u) :=
  .edit (fun b untouched => by cases b <;> simp [Same] at untouched ⊢) rfl rfl rfl

theorem setRoute_work (s : State) (u : RouteUnit) : Work [.route] s (s.setRoute u) :=
  .edit (fun b untouched => by cases b <;> simp [Same] at untouched ⊢) rfl rfl rfl

theorem setWatch_work (s : State) (u : WatchUnit) : Work [.watch] s (s.setWatch u) :=
  .edit (fun b untouched => by cases b <;> simp [Same] at untouched ⊢) rfl rfl rfl

theorem setPocket_work (s : State) (u : PocketUnit) : Work [.pocket] s (s.setPocket u) :=
  .edit (fun b untouched => by cases b <;> simp [Same] at untouched ⊢) rfl rfl rfl

theorem setGroup_work (s : State) (u : GroupUnit) : Work [.group] s (s.setGroup u) :=
  .edit (fun b untouched => by cases b <;> simp [Same] at untouched ⊢) rfl rfl rfl

theorem setDeposit_work (s : State) (u : DepositUnit) : Work [.deposit] s (s.setDeposit u) :=
  .edit (fun b untouched => by cases b <;> simp [Same] at untouched ⊢) rfl rfl rfl

theorem setFreeCount_work (s : State) (n : Nat) : Work [] s (s.setFreeCount n) :=
  .edit (fun b untouched => by cases b <;> simp [Same]) rfl rfl rfl

theorem setTrack_work (s : State) (u : TrackUnit) (stall : u.stall = s.track.stall) : Work [.track] s (s.setTrack u) :=
  .edit (fun b untouched => by cases b <;> simp [Same] at untouched ⊢) rfl stall rfl

/-! ### The Report Unit's own operations -/

/-- What a report handed on, or a tally increased, keeps of the Report Unit: its law, and a backlog flag that is set. -/
structure ReportWork (s t : State) : Prop where
  /-- the Report Unit alone changes -/
  only : t = s.setReport t.report
  /-- a backlog flag stays set -/
  backlog : s.report.backlog = true → t.report.backlog = true
  /-- the law of the Report Unit -/
  law : ReportLaw s → ReportLaw t

theorem ReportWork.trans {s t u : State} (one : ReportWork s t) (two : ReportWork t u) : ReportWork s u := by
  refine ⟨?_, two.backlog ∘ one.backlog, two.law ∘ one.law⟩
  rw [two.only, one.only]
  rfl

theorem ReportLaw.enqueue {s : State} (law : ReportLaw s) (r : Report) (room : s.report.queue.length < Config.queueCapacity) :
    ReportLaw (enqueue r s) := by
  refine ⟨?queue, Nat.zero_le _, law.idle, ?sending, law.line, law.released⟩
  case queue => simpa [Machine.enqueue] using room
  case sending =>
    intro f isSent
    obtain ⟨q, rest, head, frame⟩ := law.sending f isSent
    exact ⟨q, _, by simp [Machine.enqueue, head]; rfl, frame⟩

theorem enqueue_reportWork (r : Report) (s : State) (room : s.report.queue.length < Config.queueCapacity) :
    ReportWork s (enqueue r s) :=
  ⟨enqueue_eq r s, fun set => by simp [enqueue, set], fun law => law.enqueue r room⟩

theorem loseOnce_reportWork (s : State) : ReportWork s (loseOnce s) :=
  ⟨loseOnce_eq s, id, fun law =>
    ⟨law.queue, Nat.min_le_right _ _, law.idle, law.sending, law.line, law.released⟩⟩

theorem loseReport_reportWork (s : State) : ReportWork s (loseReport s) := by
  simp only [loseReport]
  split
  · exact (loseOnce_reportWork s).trans (loseOnce_reportWork _)
  · exact loseOnce_reportWork s

theorem handPlain_reportWork (r : Report) (s : State) : ReportWork s (handPlain r s) := by
  by_cases room : s.report.queue.length < Config.queueCapacity
  · rw [handPlain_room r s room]
    exact enqueue_reportWork r s room
  · rw [handPlain_full r s room]
    exact loseReport_reportWork s

/-- A change of the tallies, the mask or RDY_IN alone. -/
theorem setReport_reportWork {s : State} {u : ReportUnit} (queue : u.queue = s.report.queue) (lossMark : u.lossMark = s.report.lossMark)
    (backlog : u.backlog = s.report.backlog) (tx : u.tx = s.report.tx) (reportTx : u.reportTx = s.report.reportTx)
    (segment : u.segment = s.report.segment) : ReportWork s (s.setReport u) :=
  ⟨rfl, fun set => backlog.trans set, fun law => law.congr queue lossMark tx reportTx segment⟩

theorem increase_reportWork (t : Tally) (s : State) : ReportWork s (s.setReport (s.report.increase t)) := by
  cases t <;> exact setReport_reportWork rfl rfl rfl rfl rfl rfl

theorem bumpQuiet_reportWork (t : Tally) (s : State) : ReportWork s (bumpQuiet t s) := by
  simp only [bumpQuiet]
  split
  · exact (increase_reportWork t s).trans (handPlain_reportWork _ _)
  · exact increase_reportWork t s

theorem hand_reportWork (r : Report) (s : State) : ReportWork s (hand r s) := by
  unfold hand
  split
  · split
    case isTrue below => exact enqueue_reportWork _ s (Nat.lt_trans below (by decide))
    case isFalse => exact bumpQuiet_reportWork _ s
  · exact handPlain_reportWork r s

theorem ReportWork.quiet {s t : State} (work : ReportWork s t) (quiet : LineQuiet s) : LineQuiet t := by
  have line : t.line = s.line := by rw [work.only]; rfl
  have track : t.track = s.track := by rw [work.only]; rfl
  refine ⟨by rw [line, track]; exact quiet.1, fun held => work.backlog (quiet.2 ?_)⟩
  rwa [line] at held

/-! ### Changes of the line -/

section
variable {touched : List Block}

theorem ReportWork.quietWork {s t : State} (work : ReportWork s t) : QuietWork touched s t := by
  refine ⟨fun b _ => ?_, work.quiet, work.law⟩
  rw [work.only]
  cases b <;> simp [Same]

theorem enterLine_same {to_ : LineState} {resume : Option Resume} {s : State} (notStart : ¬ (s.line.state = .idle ∧ to_ = .run))
    (jam : to_ = .jammed ↔ s.line.state = .jammed) (b : Block) : Same s (enterLine to_ resume s) b := by
  simp only [enterLine, if_neg notStart]
  cases b <;> simp [Same, jam]

@[simp] theorem enterLine_line (to_ : LineState) (resume : Option Resume) (s : State) :
    (enterLine to_ resume s).line =
      { s.line with state := to_, resume := resume, runOut := to_ == .run || to_ == .drain, feedEn := to_ == .run } := by
  simp only [enterLine]
  split <;> rfl

@[simp] theorem enterLine_track (to_ : LineState) (resume : Option Resume) (s : State) :
    (enterLine to_ resume s).track =
      { s.track with stall := stallAfter s.line.state to_ s.track.startTime s.track.stall } := by
  simp only [enterLine]
  split <;> rfl

/-- A change to a state other than RUN changes the line and the stall timer alone. -/
theorem enterLine_eq {to_ : LineState} (notRun : to_ ≠ .run) (resume : Option Resume) (s : State) :
    enterLine to_ resume s = (s.setLine
      { s.line with state := to_, resume := resume, runOut := to_ == .run || to_ == .drain, feedEn := to_ == .run }).setTrack
      { s.track with stall := stallAfter s.line.state to_ s.track.startTime s.track.stall } :=
  if_neg fun start => notRun start.2

/-- The stall timer runs after a change to RUN or DRAIN, but for one from JAMMED (R139). -/
theorem stallAfter_isSome {from_ to_ : LineState} {stall : Option Nat} (startTime : Nat)
    (runs : stall.isSome = (from_ == .run || from_ == .drain)) (notJammed : from_ ≠ .jammed) :
    (stallAfter from_ to_ startTime stall).isSome = (to_ == .run || to_ == .drain) := by
  cases from_ <;> cases to_ <;> simp [stallAfter] at runs notJammed ⊢ <;> exact runs

/-- A change of line state keeps the shape of the line where the resume target, the jam in force and the cause set fit the new state. -/
theorem enterLine_shape {to_ : LineState} {resume : Option Resume} {s : State} (fits : resume.isSome = (to_ == .halt))
    (jam : s.line.jam.isSome = (to_ == .jammed)) (causes : to_ = .run ∨ to_ = .drain → s.line.causes = CauseSet.empty)
    (stall : (stallAfter s.line.state to_ s.track.startTime s.track.stall).isSome = (to_ == .run || to_ == .drain)) :
    LineShape (enterLine to_ resume s).line (enterLine to_ resume s).track.stall := by
  rw [enterLine_line, enterLine_track]
  exact ⟨rfl, rfl, fits, jam, causes, stall⟩

/-- A cause put into a set or taken out changes BACKLOG alone where it is BACKLOG. -/
theorem CauseSet.backlog_put {c : Cause} (notBacklog : c ≠ .backlog) (held : Bool) (set : CauseSet) :
    (set.put held c).backlog = set.backlog := by
  cases c with
  | backlog => exact absurd rfl notBacklog
  | _ => rfl

/-- A cause taken out of the empty set leaves it empty. -/
theorem CauseSet.put_empty (c : Cause) : CauseSet.empty.put false c = CauseSet.empty := by
  cases c with
  | groupFull g => revert g; decide
  | _ => rfl

/-- A cause put into the set where no cause is asked to be empty, or taken out, changes the set alone. -/
theorem putCause_work {c : Cause} (notBacklog : c ≠ .backlog) {held : Bool} (s : State)
    (fits : held = true → s.line.state ≠ .run ∧ s.line.state ≠ .drain) : Work touched s (putCause held c s) := by
  have backlogStands : (putCause held c s).line.causes.backlog = s.line.causes.backlog := CauseSet.backlog_put notBacklog held _
  suffices keeps : LineShape s.line s.track.stall → LineShape (putCause held c s).line s.track.stall from
    ⟨⟨fun b _ => by cases b <;> simp [Same, putCause], fun ⟨shape, taken⟩ => ⟨keeps shape, by rwa [backlogStands]⟩,
      fun law => law.congr rfl rfl rfl rfl rfl⟩, fun law => by
        rw [lineLaw_iff] at law ⊢
        exact ⟨keeps law.1, backlogStands.trans law.2⟩⟩
  intro shape
  refine ⟨shape.runOut, shape.feedEn, shape.resume, shape.jam, fun runs => ?_, shape.stall⟩
  obtain rfl : held = false := by
    by_contra isHeld
    obtain ⟨notRun, notDrain⟩ := fits (by simpa using isHeld)
    exact runs.elim notRun notDrain
  simp only [putCause, State.setLine_line, shape.causes runs, CauseSet.put_empty]

theorem endCause_work {c : Cause} (notBacklog : c ≠ .backlog) (s : State) : Work touched s (endCause c s) :=
  putCause_work notBacklog s (by simp)

/-- A change of line state, but for one from IDLE to RUN or a change into or out of JAMMED, with its LINE report. -/
theorem changeLine_quietWork {to_ : LineState} {resume : Option Resume} {s : State} (trigger : Trigger) (cause : Option LineCause)
    (notStart : ¬ (s.line.state = .idle ∧ to_ = .run)) (notTo : to_ ≠ .jammed) (notFrom : s.line.state ≠ .jammed)
    (fits : resume.isSome = (to_ == .halt)) (causes : LineQuiet s → to_ = .run ∨ to_ = .drain → s.line.causes = CauseSet.empty) :
    QuietWork touched s (changeLine to_ resume trigger cause s) := by
  have entered : QuietWork touched s (enterLine to_ resume s) := by
    refine ⟨fun b _ => enterLine_same notStart (by simp [notTo, notFrom]) b, fun quiet@⟨shape, taken⟩ => ⟨?_, ?_⟩, fun law => ?_⟩
    · exact enterLine_shape fits (by rw [shape.jam, beq_false_of_ne notTo, beq_false_of_ne notFrom]) (causes quiet) (stallAfter_isSome _ shape.stall notFrom)
    · rwa [enterLine_line, enterLine_report]
    · apply law.congr <;> rw [enterLine_report]
  exact entered.trans
    (hand_reportWork (lineReport s.line.state trigger cause (enterLine to_ resume s)) _).quietWork (within_self _) (within_self _)

/-- A line in RUN or DRAIN halts with a cause added to its set (R171, R177). -/
theorem halt_quietWork {s : State} (runs : s.line.state = .run ∨ s.line.state = .drain) (c : Cause)
    (taken : c = .backlog → s.report.backlog = true) (target : Resume) (trigger : Trigger) (cause : Option LineCause) :
    QuietWork touched s (changeLine .halt (some target) trigger cause (putCause true c s)) := by
  have notFrom : s.line.state ≠ .jammed := by rintro jammed; simp [jammed] at runs
  have entered : QuietWork touched s (enterLine .halt (some target) (putCause true c s)) := by
    refine ⟨fun b _ => ?_, fun ⟨shape, held⟩ => ⟨?_, ?_⟩, fun law => ?_⟩
    · have same := enterLine_same (s := putCause true c s) (resume := some target) (to_ := .halt) (by simp) (by simp [putCause, notFrom]) b
      refine Same.trans ?_ same
      cases b <;> simp [Same, putCause]
    · exact enterLine_shape rfl (shape.jam.trans (beq_false_of_ne notFrom)) (by simp)
        (stallAfter_isSome _ (by exact shape.stall) (by exact notFrom))
    · rw [enterLine_line, enterLine_report]
      by_cases isBacklog : c = .backlog
      · exact fun _ => taken isBacklog
      · simpa [putCause, CauseSet.backlog_put isBacklog] using held
    · apply law.congr <;> rw [enterLine_report] <;> rfl
  exact entered.trans
    (hand_reportWork (lineReport (putCause true c s).line.state trigger cause _) _).quietWork (within_self _) (within_self _)

/-- A condition cause raised; a BACKLOG that is raised has its flag set. -/
theorem raiseQuiet_quietWork {c : Cause} {s : State} (taken : c = .backlog → s.report.backlog = true) :
    QuietWork touched s (raiseQuiet c s) := by
  have stays (notRun : s.line.state ≠ .run) (notDrain : s.line.state ≠ .drain) : QuietWork touched s (putCause true c s) := by
    refine ⟨fun b _ => by cases b <;> simp [Same, putCause], fun ⟨shape, held⟩ => ⟨?_, ?_⟩, fun law => law.congr rfl rfl rfl rfl rfl⟩
    · exact ⟨shape.runOut, shape.feedEn, shape.resume, shape.jam, fun runs => (runs.elim notRun notDrain).elim, shape.stall⟩
    · by_cases isBacklog : c = .backlog
      · exact fun _ => taken isBacklog
      · simpa [putCause, CauseSet.backlog_put isBacklog] using held
  simp only [raiseQuiet]
  split
  · exact .refl s
  · split
    case h_1 run => exact halt_quietWork (.inl run) c taken _ _ _
    case h_2 drain => exact halt_quietWork (.inr drain) c taken _ _ _
    case h_3 idle => exact stays (by simp [idle]) (by simp [idle])
    case h_4 halt => exact stays (by simp [halt]) (by simp [halt])
    case h_5 jammed => exact stays (by simp [jammed]) (by simp [jammed])

/-- BACKLOG is held once it has been raised. -/
theorem raiseQuiet_holds_backlog {s : State} (notHeld : s.line.causes.backlog = false) :
    (raiseQuiet .backlog s).line.causes.backlog = true := by
  have held (to_ : LineState) (resume : Option Resume) (trigger : Trigger) (cause : Option LineCause) :
      (changeLine to_ resume trigger cause (putCause true .backlog s)).line.causes.backlog = true := by
    simp only [changeLine]
    rw [hand_eq]
    simp [putCause, CauseSet.put]
  simp only [raiseQuiet, CauseSet.holds, notHeld, Bool.false_eq_true, if_false]
  split
  case h_1 | h_2 => exact held _ _ _ _
  all_goals rfl

/-- BACKLOG taken makes the law of the line whole. -/
theorem lineLaw_takeBacklog {s : State} (quiet : LineQuiet s) : LineLaw (takeBacklog s) := by
  simp only [takeBacklog]
  split
  case isTrue due =>
    obtain ⟨flag, notHeld⟩ : s.report.backlog = true ∧ s.line.causes.backlog = false := by simpa using due
    have raised : LineQuiet (raiseQuiet .backlog s) := (raiseQuiet_quietWork (touched := []) fun _ => flag).quiet quiet
    have held := raiseQuiet_holds_backlog notHeld
    exact (lineLaw_iff _).mpr ⟨raised.1, by rw [held, raised.2 held]⟩
  case isFalse notDue =>
    refine (lineLaw_iff s).mpr ⟨quiet.1, ?_⟩
    have taken := quiet.2
    revert notDue taken
    cases s.report.backlog <;> cases s.line.causes.backlog <;> simp

theorem takeBacklog_quietWork (s : State) : QuietWork touched s (takeBacklog s) := by
  simp only [takeBacklog]
  split
  case isTrue due => exact raiseQuiet_quietWork fun _ => by simp_all
  case isFalse => exact .refl s

/-- A work whose BACKLOG is taken at its end. -/
theorem QuietWork.takeBacklog {s t : State} (work : QuietWork touched s t) : Work touched s (takeBacklog t) :=
  ⟨work.trans (takeBacklog_quietWork (touched := touched) t) (within_self _) (within_self _),
    fun law => lineLaw_takeBacklog (work.quiet law.quiet)⟩

theorem emit_work (r : Report) (s : State) : Work touched s (emit r s) := (hand_reportWork r s).quietWork.takeBacklog

theorem bumpTally_work (t : Tally) (s : State) : Work touched s (takeBacklog (bumpQuiet t s)) :=
  (bumpQuiet_reportWork t s).quietWork.takeBacklog

theorem bump_work (t : EventTally) (s : State) : Work touched s (bump t s) := bumpTally_work _ s

theorem raiseCause_work {c : Cause} (notBacklog : c ≠ .backlog) (s : State) : Work touched s (raiseCause c s) :=
  (raiseQuiet_quietWork fun isBacklog => absurd isBacklog notBacklog).takeBacklog

theorem answer_work (tag code : Byte) (detail : Detail) (s : State) : Work touched s (answer tag code detail s) := emit_work _ s

theorem refuse_work (tag code : Byte) (reason : RefusalReason) (s : State) : Work touched s (refuse tag code reason s) := emit_work _ s

theorem drainEndQuiet_quietWork (s : State) : QuietWork touched s (drainEndQuiet s) := by
  unfold drainEndQuiet
  split
  case isTrue ended =>
    obtain ⟨drain, -, -⟩ := ended
    exact changeLine_quietWork _ _ (by simp) (by simp) (by simp [drain]) rfl (by simp)
  case isFalse => exact .refl s

theorem drainEnd_work (s : State) : Work touched s (drainEnd s) := (drainEndQuiet_quietWork s).takeBacklog

/-- A request touches what its effect touches. -/
theorem request_work {effect : State → State} (work : ∀ s, Work touched s (effect s)) (tag code : Byte)
    (checks : List (Bool × RefusalReason)) (detail : Detail) (s : State) :
    Work touched s (request tag code checks detail effect s) := by
  unfold request
  split
  · exact refuse_work _ _ _ s
  · exact (answer_work (touched := touched) tag code detail s).trans (work _) (within_self _) (within_self _)

end

end Sys2Proof.Machine
end

section
/-! SUPPORT. The works of the blocks: which blocks each operation touches, from the Deposit Unit's updates to a note admitted or lost. -/

set_option Elab.async false

namespace Sys2Proof.Machine

/-! ### The Deposit Unit -/

theorem modifyDeposit_work (k : SlotNo) (f : Deposit → Deposit) (s : State) : Work [.deposit] s (modifyDeposit k f s) :=
  setDeposit_work s _

theorem modifySlot_work (slot : Option SlotNo) (f : Deposit → Deposit) (s : State) : Work [.deposit] s (modifySlot slot f s) := by
  cases slot with
  | none => exact .refl s
  | some k => exact modifyDeposit_work k f s

theorem closeDeposit_work (d : Deposit) (afterRecovery : Bool) (s : State) : Work [.deposit] s (closeDeposit d afterRecovery s) :=
  ((emit_work (touched := []) _ s).trans (setDeposit_work _ _) : Work [.deposit] s _).trans (endCause_work (touched := []) (by simp) _)

theorem testClose_work (k : SlotNo) (afterRecovery : Bool) (s : State) : Work [.deposit] s (testClose k afterRecovery s) := by
  unfold testClose
  split
  · split
    · exact closeDeposit_work _ _ s
    · exact .refl s
  · exact .refl s

theorem closeInDeposit_work (e : Entry) (close : ItemClose) (s : State) : Work [.deposit] s (closeInDeposit e close s) := by
  unfold closeInDeposit
  split
  · exact .refl s
  · exact (modifyDeposit_work _ _ s).trans (testClose_work _ _ _)

theorem loseInDeposits_work (lost : List Entry) (s : State) : Work [.deposit] s (loseInDeposits lost s) := setDeposit_work s _

theorem attributeItem_work (slot : Option SlotNo) (item : Word) (hit : Bool) (s : State) :
    Work [.deposit] s (attributeItem slot item hit s) := modifySlot_work slot _ s

/-! ### Groups and bricks -/

theorem putPocket_work (g : Gate) (r : PocketRec) (s : State) : Work [.pocket] s (putPocket g r s) := setPocket_work s _

theorem putGroup_work (k : GroupNo) (r : GroupRec) (s : State) : Work [.group] s (putGroup k r s) := setGroup_work s _

theorem recountGroup_work (k : GroupNo) (item : Option Word) (s : State) : Work [.group] s (recountGroup k item s) := by
  simp only [recountGroup]
  split
  · split
    · exact (putGroup_work k _ s).trans (emit_work (touched := []) _ _)
    · exact .refl s
  · split
    · exact .refl s
    · exact putGroup_work k _ s

theorem setArm_work (k : GroupNo) (s : State) : Work [.group] s (setArm k s) := putGroup_work k _ s

/-- GROUP_FULL ended where a condition holds. -/
theorem endCauseIf_work {touched : List Block} {c : Cause} (notBacklog : c ≠ .backlog) (p : Prop) [Decidable p] (s : State) :
    Work touched s (if p then endCause c s else s) := by
  split
  · exact endCause_work notBacklog s
  · exact .refl s

theorem memberChanged_work (g : Gate) (old : PocketState) (item : Option Word) (s : State) :
    Work [.group] s (memberChanged g old item s) := by
  unfold memberChanged
  split
  · exact .refl s
  · simp only
    split
    · exact .refl s
    · exact (endCauseIf_work (touched := []) (by simp) _ s).trans (recountGroup_work _ item _)

theorem memberCleared_work (g : Gate) (s : State) : Work [.group] s (memberCleared g s) := by
  unfold memberCleared
  split
  · exact .refl s
  · exact (endCauseIf_work (touched := []) (by simp) _ s).trans (recountGroup_work _ none _)

theorem joinAccumulator_work (i : Fin 16) (k : GroupNo) (d : Denom) (number : Word) (count : Nat) (r : PocketRec) (s : State) :
    Work [.group] s (joinAccumulator i k d number count r s) := setGroup_work s _

theorem closeBrick_work (i : Fin 16) (complete : Bool) (s : State) : Work [.group] s (closeBrick i complete s) := by
  unfold closeBrick
  split
  · exact .refl s
  · exact ((((setGroup_work s _).trans (setFreeCount_work _ _) : Work [.group] s _).trans (emit_work (touched := []) _ _)
      : Work [.group] s _).trans (bump_work (touched := []) _ _) : Work [.group] s _).trans (setGroup_work _ _)

theorem completeBrick_work (i : Option (Fin 16)) (k : GroupNo) (s : State) : Work [.group] s (completeBrick i k s) := by
  unfold completeBrick
  split
  · exact .refl s
  · split
    · split
      · exact closeBrick_work _ _ s
      · exact .refl s
    · exact .refl s

theorem closeBundle_work (g : Gate) (r : PocketRec) (close : BundleClose) (s : State) :
    Work [.pocket, .group] s (closeBundle g r close s) := by
  unfold closeBundle
  split
  · exact .refl s
  · have joined (i : Option (Fin 16)) (code : Option Denom) (k : GroupNo) (n : Word) (count : Nat) (s1 : State) :
        Work [.group] s1 (match code, i with
          | some d, some i => joinAccumulator i k d n count r s1
          | _, _ => s1) := by
      split
      · exact joinAccumulator_work _ _ _ _ _ _ _
      · exact .refl _
    exact ((((((setPocket_work s _).trans (setFreeCount_work _ _) : Work [.pocket] s _).trans (joined _ _ _ _ _ _)
      : Work [.pocket, .group] s _).trans (emit_work (touched := []) _ _) : Work [.pocket, .group] s _).trans
      (bump_work (touched := []) _ _)) : Work [.pocket, .group] s _).trans (completeBrick_work _ _ _)

/-! ### Pockets -/

theorem commitMember_work (k : GroupNo) (g : Gate) (denom : Option Denom) (item : Word) (s : State) :
    Work [.pocket, .group] s (commitMember k g denom item s) :=
  ((putGroup_work k _ s).trans (putPocket_work g _ _) : Work [.pocket, .group] s _).trans (memberChanged_work g _ _ _)

theorem commitQuarantine_work (q : Gate) (s : State) : Work [.pocket] s (commitQuarantine q s) := by
  simp only [commitQuarantine]
  split
  · exact (putPocket_work q _ s).trans (raiseCause_work (touched := []) (by simp) _)
  · exact putPocket_work q _ s

/-- What follows the counts of a confirmation at a member: the tally, and the close of a full bundle. -/
theorem confirmMember_after (g : Gate) (e : Entry) (s : State) : Work [.pocket, .group]
    (countAccepted e.slot e.denom (putPocket g ((pocketAt g s).confirm (.ofId (depositId e.slot s))) s)) (confirmMember g e s) := by
  have counted (d : Option Denom) (s1 : State) : Work [.pocket, .group] s1 (match d with
      | some d => takeBacklog (bumpQuiet (.accepted d) s1)
      | none => s1) := by
    split
    · exact bumpTally_work _ _
    · exact .refl _
  simp only [confirmMember]
  split
  · exact ((counted _ _).trans (closeBundle_work g _ _ _) : Work [.pocket, .group] _ _).trans (memberChanged_work g _ _ _)
  · exact counted _ _

theorem confirmMember_work (g : Gate) (e : Entry) (s : State) : Work [.pocket, .group, .deposit] s (confirmMember g e s) :=
  ((putPocket_work g _ s).trans (modifySlot_work e.slot _ _) : Work [.pocket, .deposit] s _).trans (confirmMember_after g e s)

theorem confirmQuarantine_work (q : Gate) (e : Entry) (s : State) : Work [.pocket, .deposit] s (confirmQuarantine q e s) :=
  ((putPocket_work q _ s).trans (setPocket_work _ _) : Work [.pocket] s _).trans (modifySlot_work _ _ _)

theorem confirmAt_work (e : Entry) (s : State) : Work [.pocket, .group, .deposit] s (confirmAt e s) := by
  unfold confirmAt
  split
  · exact (setPocket_work s _).mono
  · split
    · exact (confirmQuarantine_work _ e s).mono
    · exact confirmMember_work _ e s

theorem recountMark_work (p : Dest) (s : State) : Work [.pocket] s (recountMark p s) := by
  unfold recountMark
  split
  · exact .refl s
  · simp only
    split
    · exact putPocket_work _ _ s
    · split
      case h_4 => exact .refl s
      all_goals exact putPocket_work _ _ s

theorem oddClose_work (g : Gate) (s : State) : Work [.pocket, .group] s (oddClose g s) := by
  simp only [oddClose]
  split
  · split
    · exact ((putPocket_work g _ s).trans (closeBundle_work g _ _ _) : Work [.pocket, .group] s _).trans (memberChanged_work g _ _ _)
    · exact (putPocket_work g _ s).trans (memberChanged_work g _ _ _)
  · exact .refl s

theorem withdrawQuarantine_work (q : Gate) (n : Nat) (s : State) : Work [.pocket] s (withdrawQuarantine q n s) := by
  simp only [withdrawQuarantine]
  split
  · exact (putPocket_work q _ s).trans (endCause_work (touched := []) (by simp) _)
  · exact putPocket_work q _ s

theorem withdrawAt_work (g : Gate) (n : Nat) (s : State) : Work [.pocket, .group] s (withdrawAt g n s) := by
  unfold withdrawAt
  split
  · exact .refl s
  · split
    · exact (withdrawQuarantine_work g n s).mono
    · exact (putPocket_work g _ s).trans (memberChanged_work g _ _ _)

theorem withdrawAll_work (lost : List Entry) (s : State) : Work [.pocket, .group] s (withdrawAll lost s) :=
  .foldl (fun s g => withdrawAt_work g _ s) allGates s

theorem clearMember_work (g : Gate) (s : State) : Work [.pocket, .group] s (clearMember g s) := by
  simp only [clearMember]
  split
  case h_1 => exact bump_work _ s
  case h_2 => exact (putPocket_work g _ s).trans (memberCleared_work g _)
  all_goals
    split
    · have closed : Work [.pocket, .group] s
          (if 0 < (pocketAt g s).confirmed then closeBundle g (pocketAt g s) .removedEarly s else s) := by
        split
        · exact closeBundle_work g _ _ s
        · exact .refl s
      exact ((closed.trans (putPocket_work g _ _)) : Work [.pocket, .group] s _).trans (memberCleared_work g _)
    · split
      · exact ((closeBundle_work g _ _ s).trans (putPocket_work g _ _) : Work [.pocket, .group] s _).trans (memberCleared_work g _)
      · exact ((putPocket_work g _ s).trans (bump_work (touched := []) _ _) : Work [.pocket] s _).trans (memberCleared_work g _)

theorem emptyQuarantine_work (q : Gate) (released : Bool) (s : State) : Work [.pocket] s (emptyQuarantine q released s) := by
  simp only [emptyQuarantine]
  exact (((emit_work (touched := []) _ s).trans (putPocket_work q _ _) : Work [.pocket] s _).trans (setPocket_work _ _)
    : Work [.pocket] s _).trans (endCauseIf_work (touched := []) (by simp) _ _)

theorem clearQuarantine_work (q : Gate) (s : State) : Work [.pocket] s (clearQuarantine q s) := by
  simp only [clearQuarantine]
  split
  · exact bump_work _ s
  · split
    · exact emptyQuarantine_work q false s
    · exact (putPocket_work q _ s).trans (bump_work (touched := []) _ _)

theorem clearRunOut_work (s : State) : Work [.pocket] s (clearRunOut s) := by
  unfold clearRunOut
  split
  · exact bump_work _ s
  · exact (emit_work (touched := []) _ s).trans (setPocket_work _ _)

theorem overflowAction_work {touched : List Block} (k : GroupNo) (s : State) : Work touched s (overflowAction k s) := by
  unfold overflowAction
  split
  · exact .refl s
  · exact raiseCause_work (by simp) s

theorem closePure_work (key : DepositKey) (s : State) : Work [.pocket, .group] s (closePure key s) := by
  refine .foldl (fun s k => .foldl (fun s g => ?_) _ s) allGroups s
  split
  · exact oddClose_work g s
  · exact .refl s

theorem resetPockets_work (s : State) : Work [.pocket] s (resetPockets s) :=
  (setPocket_work s _).trans (endCause_work (touched := []) (by simp) _)

theorem resetGroups_work (s : State) : Work [.group] s (resetGroups s) := by
  have armed (s : State) (k : GroupNo) : Work [.group] s (endCause (.groupFull k) (setArm k s)) :=
    (setArm_work k s).trans (endCause_work (touched := []) (by simp) _)
  unfold resetGroups
  exact (setGroup_work s _).trans (.foldl armed allGroups _)

/-! ### Parameters and edits -/

theorem selectQuarantine_work (new : Option Gate) (s : State) : Work [.pocket] s (selectQuarantine new s) := by
  have put (q : Option Gate) (state : PocketState) (s : State) : Work [.pocket] s (match q with
      | some q => putPocket q ((pocketAt q s).emptied state) s
      | none => s) := by
    split
    · exact putPocket_work _ _ s
    · exact .refl s
  unfold selectQuarantine
  split
  · exact .refl s
  · exact ((put s.pocket.quarantine .unassigned s).trans (put new .openState _) : Work [.pocket] s _).trans (setPocket_work _ _)

theorem setQuarantineLimit_work (limit : Nat) (s : State) : Work [.pocket] s (setQuarantineLimit limit s) := by
  have written : Work [.pocket] s (s.setPocket { s.pocket with limit := limit }) := setPocket_work s _
  have put (q : Gate) (r : PocketRec) : Work [.pocket] s (putPocket q r (s.setPocket { s.pocket with limit := limit })) :=
    written.trans (putPocket_work q r _)
  unfold setQuarantineLimit
  split
  · exact written
  · simp only
    split
    · exact (put _ _).trans (raiseCause_work (touched := []) (by simp) _)
    · split
      · exact (put _ _).trans (endCause_work (touched := []) (by simp) _)
      · exact written

theorem modifyGroup_work (g : GroupNo) (f : GroupRec → GroupRec) (s : State) : Work [.group] s (modifyGroup g f s) :=
  putGroup_work g _ s

theorem defineGroup_work (k : GroupNo) (gates : List Gate) (s : State) : Work [.pocket, .group] s (defineGroup k gates s) := by
  have emptied (state : PocketState) (list : List Gate) (s : State) :
      Work [.pocket] s (list.foldl (fun s g => putPocket g ((pocketAt g s).emptied state) s) s) :=
    .foldl (fun s g => putPocket_work g _ s) list s
  have members := (emptied .unassigned (groupAt k s).members s).trans (emptied .openState gates _) (touched := [.pocket])
  exact ((members.trans (putGroup_work k _ _) : Work [.pocket, .group] s _).trans (setArm_work k _) : Work [.pocket, .group] s _).trans
    (endCause_work (touched := []) (by simp) _)

theorem flushGroup_work (k : GroupNo) (s : State) : Work [.pocket, .group] s (flushGroup k s) :=
  (Work.foldl (fun s g => oddClose_work g s) _ s).trans (.foldl (fun s i => closeBrick_work i false s) _ _)

theorem enablePocket_work (g : Gate) (include_ : Bool) (s : State) : Work [.pocket, .group] s (enablePocket g include_ s) := by
  simp only [enablePocket]
  split
  · exact (putPocket_work g _ s).mono
  · exact ((putPocket_work g _ s).trans (endCauseIf_work (touched := []) (by simp) _ _) : Work [.pocket] s _).trans
      (recountGroup_work _ none _)

/-! ### The route table and the watch list -/

theorem putObject_work (k : ObjectNo) (o : RouteObject) (s : State) : Work [.route] s (putObject k o s) := setRoute_work s _

theorem spendQuota_work (k : ObjectNo) (item : Word) (s : State) : Work [.route] s (spendQuota k item s) := by
  simp only [spendQuota]
  split
  · exact .refl s
  · split
    · exact (putObject_work k _ s).trans (emit_work (touched := []) _ _)
    · exact putObject_work k _ s

theorem exchange_work (s : State) : Work [.route] s (exchange s) := setRoute_work s _

theorem swapAtBoundary_work (cardItem : Word) (depositId : Option Word) (s : State) :
    Work [.route] s (swapAtBoundary cardItem depositId s) := by
  unfold swapAtBoundary
  split
  · exact ((exchange_work s).trans (setRoute_work _ _) : Work [.route] s _).trans (emit_work (touched := []) _ _)
  · exact .refl s

theorem swap_work (idle : Bool) (s : State) : Work [.route] s (swap idle s) := by
  unfold swap
  split
  · exact (exchange_work s).trans (emit_work (touched := []) _ _)
  · exact setRoute_work s _

theorem onObject_work {touched : List Block} {f : ObjectNo → State → State} (work : ∀ k s, Work touched s (f k s)) (index : Byte) (s : State) :
    Work touched s (onObject index f s) := by
  unfold onObject
  split
  · exact .refl s
  · exact work _ s

theorem linkObject_work (list position : Byte) (k : ObjectNo) (s : State) : Work [.route] s (linkObject list position k s) := by
  unfold linkObject
  split
  · exact (putObject_work k _ s).trans (setRoute_work _ _)
  · exact setRoute_work s _

theorem unlinkObject_work (k : ObjectNo) (s : State) : Work [.route] s (unlinkObject k s) := by
  unfold unlinkObject
  split
  · exact (putObject_work k _ s).trans (setRoute_work _ _)
  · exact setRoute_work s _

theorem lookup_work {touched : List Block} (serial : Serial) (denom : Option Denom) (s : State) : Work touched s (lookup serial denom s).1 := by
  unfold lookup
  split
  · exact .refl s
  · split <;> exact bump_work _ s

theorem lookup_found_work {serial : Serial} {denom : Option Denom} {s t : State} {hit : Option WatchEntry}
    (found : lookup serial denom s = (t, hit)) : Work [] s t := by
  have work := lookup_work (touched := []) serial denom s
  rwa [found] at work

/-! ### Items that close -/

theorem setQueue_work (queue : List Entry) (s : State) : Work [.track] s (setQueue queue s) := setTrack_work s _ rfl

theorem removeEntry_work (e : Entry) (s : State) : Work [.track] s (removeEntry e s) := setQueue_work _ s

theorem tallyClose_work {touched : List Block} (e : Entry) (close : ItemClose) (s : State) : Work touched s (tallyClose e close s) := by
  unfold tallyClose
  split
  · exact bump_work _ s
  · split
    · exact bump_work _ s
    · exact .refl s
  all_goals exact .refl s

/-- A report handed on where it is due. -/
theorem emitIf_work {touched : List Block} (due : Bool) (r : Report) (s : State) : Work touched s (if due then emit r s else s) := by
  split
  · exact emit_work r s
  · exact .refl s

theorem closeItem_work (e : Entry) (close : ItemClose) (arrival : Option (Fin 16)) (traced : Bool) (s : State) :
    Work [.deposit] s (closeItem e close arrival traced s) :=
  ((tallyClose_work (touched := []) e close s).trans (emitIf_work (touched := []) traced _ _) : Work [] s _).trans
    (closeInDeposit_work e close _)

theorem confirmEntry_work (e : Entry) (p : Fin 16) (s : State) : Work [.track, .pocket, .group, .deposit] s (confirmEntry e p s) :=
  ((removeEntry_work e s).trans (confirmAt_work e _) : Work [.track, .pocket, .group, .deposit] s _).trans (closeItem_work _ _ _ _ _)

theorem confirmShadow_work (e : Entry) (p : Fin 16) (s : State) : Work [.track, .pocket, .deposit] s (confirmShadow e p s) :=
  ((removeEntry_work e s).trans (recountMark_work _ _) : Work [.track, .pocket] s _).trans (closeItem_work _ _ _ _ _)

theorem declareMissing_work (e : Entry) (s : State) : Work [.track, .pocket, .group, .deposit] s (declareMissing e s) := by
  have withdrawn (s1 : State) : Work [.pocket, .group] s1 (match e.dest with
      | .gated g => withdrawAt g 1 s1
      | .runOut => s1) := by
    split
    · exact withdrawAt_work _ 1 s1
    · exact .refl s1
  exact ((removeEntry_work e s).trans (withdrawn _) : Work [.track, .pocket, .group] s _).trans (closeItem_work _ _ _ _ _)

/-! ### The entry into JAMMED -/

/-- The line as it enters JAMMED with a cause (R182). -/
def jamLine (cause : JamCause) (s : State) : State :=
  (enterLine .jammed none s).setLine { (enterLine .jammed none s).line with jam := some cause }

theorem jamLine_eq (cause : JamCause) (s : State) :
    jamLine cause s = (s.setLine
      { s.line with state := .jammed, resume := none, jam := some cause, runOut := false, feedEn := false }).setTrack
      { s.track with stall := none } := by
  have stops : stallAfter s.line.state .jammed s.track.startTime s.track.stall = none := by cases s.line.state <;> rfl
  rw [jamLine, enterLine_eq (by simp), stops]
  rfl

theorem jamLine_work (cause : JamCause) (s : State) : Work [.jam] s (jamLine cause s) := by
  have shape : LineShape (jamLine cause s).line (jamLine cause s).track.stall := by
    simp only [jamLine, enterLine_line, enterLine_track, State.setLine_line, State.setLine_track]
    refine ⟨rfl, rfl, rfl, rfl, by simp, ?_⟩
    cases s.line.state <;> rfl
  have causes : (jamLine cause s).line.causes = s.line.causes := by simp [jamLine]
  have report : (jamLine cause s).report = s.report := by simp [jamLine]
  refine ⟨⟨fun b untouched => ?_, fun quiet => ⟨shape, by rw [causes, report]; exact quiet.2⟩, fun law => by apply law.congr <;> rw [report]⟩,
    fun law => (lineLaw_iff _).mpr ⟨shape, by rw [causes, report]; exact law.backlog⟩⟩
  cases b <;> simp [Same, jamLine, enterLine] at untouched ⊢

theorem loseQueue_work (s : State) : Work [.track] s (loseQueue s) :=
  setTrack_work s { s.track with waiting := none, losses := _, queue := [], gates := _ } rfl

theorem traceLosses_work {touched : List Block} (lost : List Entry) (s : State) : Work touched s (traceLosses lost s) :=
  .foldl (fun s e => emitIf_work e.trace _ s) lost s

theorem loseEdges_work (s : State) : Work [.track, .edge] s (loseEdges s) := (setTrack_work s _ (by rfl)).trans (setEdge_work _ _)

/-- The blocks a jam changes. -/
def jamBlocks : List Block := [.edge, .pocket, .group, .track, .deposit, .jam]

theorem enterJam_work (cause : JamCause) (s : State) : Work jamBlocks s (enterJam cause s) := by
  have lost : Work jamBlocks s (loseInDeposits (inFlightItems s)
      (traceLosses (inFlightItems s) (withdrawAll (inFlightItems s) (loseQueue (jamLine cause s))))) :=
    ((((jamLine_work cause s).trans (loseQueue_work _) : Work jamBlocks s _).trans (withdrawAll_work _ _) : Work jamBlocks s _).trans
      (traceLosses_work (touched := []) _ _) : Work jamBlocks s _).trans (loseInDeposits_work _ _)
  exact (((lost.trans (loseEdges_work _) : Work jamBlocks s _).trans (bump_work (touched := []) _ _) : Work jamBlocks s _).trans
    (emit_work (touched := []) _ _) : Work jamBlocks s _).trans (emit_work (touched := []) _ _)

theorem handJam_work (cause : JamCause) (s : State) : Work jamBlocks s (handJam cause s) := by
  unfold handJam
  split
  · exact .refl s
  · exact enterJam_work cause s

/-! ### Items that enter -/

theorem enterTrack_work (i : Item) (disp : Disposition) (slot : Option SlotNo) (s : State) :
    Work jamBlocks s (enterTrack i disp slot s) := by
  simp only [enterTrack]
  split
  · exact (setTrack_work s { s.track with queue := s.track.queue ++ [makeEntry i disp slot s] } rfl).mono
  · exact (setTrack_work s { s.track with waiting := some (makeEntry i disp slot s) } rfl).trans (handJam_work _ _)

theorem finishAdmission_work (i : Item) (disp : Disposition) (slot : Option SlotNo) (s : State) :
    Work jamBlocks s (finishAdmission i disp slot s) :=
  (attributeItem_work slot _ _ s).trans (enterTrack_work i disp slot _)

theorem popEdge_work (s : State) : Work [.edge] s (popEdge s) := setEdge_work s _

theorem admitUnread_work (s : State) : Work jamBlocks s (admitUnread s) := by
  unfold admitUnread
  split
  · exact .refl s
  · exact (popEdge_work s).trans (finishAdmission_work _ _ _ _)

theorem admitUnreads_work (n : Nat) (s : State) : Work jamBlocks s (admitUnreads n s) := by
  induction n generalizing s with
  | zero => exact .refl s
  | succ n ih => exact (admitUnread_work s).trans (ih _)

/-- The blocks an admission with a record changes. -/
def recordBlocks : List Block := .route :: jamBlocks

/-- The blocks a disposition changes. -/
def decisionBlocks : List Block := [.route, .pocket, .group]

theorem decideWatch_work (e : HeldEdge) (serial : Serial) (denom : Option Denom) (w : WatchEntry) (s : State) :
    Work decisionBlocks s (decideWatch e serial denom w s).1 := by
  simp only [decideWatch]
  split
  · exact emit_work _ s
  · split
    · exact emit_work _ s
    · exact (commitQuarantine_work _ s).trans (emit_work (touched := []) _ _)

theorem decideRoute_work (e : HeldEdge) (r : NoteRecord) (s : State) : Work decisionBlocks s (decideRoute e r s).1 := by
  simp only [decideRoute]
  split
  · exact .refl s
  · split
    · exact (spendQuota_work _ _ s).mono
    · split
      · exact .refl s
      · split
        · exact .refl s
        · exact (commitQuarantine_work _ s).trans (spendQuota_work _ _ _)
    · split
      · exact .refl s
      · split
        · exact overflowAction_work _ s
        · split
          · exact .refl s
          · exact (commitMember_work _ _ _ _ s).trans (spendQuota_work _ _ _)

theorem decision_work (e : HeldEdge) (r : NoteRecord) (s : State) : Work decisionBlocks s (decision e r s).1 := by
  unfold decision
  split
  · exact .refl s
  · split
    · exact .refl s
    · split
      · exact decideRoute_work e r s
      · split
        case h_1 s1 w found => exact (lookup_found_work found).trans (decideWatch_work e _ _ w s1)
        case h_2 s1 missed => exact (lookup_found_work missed).trans (decideRoute_work e r s1)

theorem admitNote_work (e : HeldEdge) (r : NoteRecord) (s : State) : Work recordBlocks s (admitNote e r s) :=
  ((popEdge_work s).trans (decision_work e r _) : Work recordBlocks s _).trans (finishAdmission_work _ _ _ _)

/-! ### Separators -/

theorem loseBoundary_work (noSlot : Bool) (r : SeparatorRecord) (item : Word) (s : State) :
    Work [.deposit] s (loseBoundary noSlot r item s) := by
  have reported := (modifySlot_work ((openDeposit s).map (·.slot)) (fun d => { d with boundaryLost := true }) s).trans
    (emit_work (touched := []) (depositFault noSlot r item (modifySlot ((openDeposit s).map (·.slot)) (fun d => { d with boundaryLost := true }) s)) _)
    (touched := [.deposit])
  simp only [loseBoundary]
  split
  · exact reported.trans (raiseCause_work (touched := []) (by simp) _)
  · exact reported

/-- The blocks a boundary changes. -/
def boundaryBlocks : List Block := [.deposit, .pocket, .group, .route]

theorem endOpen_work (d : Option Deposit) (test : Bool) (s : State) : Work boundaryBlocks s (endOpen d test s) := by
  have closed : Work boundaryBlocks s _ := (modifySlot_work (d.map (·.slot)) (fun d => { d with state := .closing }) s).trans
    (closePure_work (.ofId (d.map (·.id))) _)
  simp only [endOpen]
  split
  · split
    · exact closed.trans (testClose_work _ _ _)
    · exact closed
  · exact closed

theorem takeBoundary_work (r : SeparatorRecord) (item : Word) (late : Bool) (s : State) :
    Work boundaryBlocks s (takeBoundary r item late s).1 := by
  have ended : Work boundaryBlocks s _ := endOpen_work (openDeposit s) (!r.endFlag || late) s
  simp only [takeBoundary]
  split
  · exact ended.trans (swapAtBoundary_work _ _ _)
  · split
    · exact (ended.trans (setDeposit_work _ _) : Work boundaryBlocks s _).trans (swapAtBoundary_work _ _ _)
    · exact ended

theorem takeSeparator_work (r : SeparatorRecord) (item : Word) (late : Bool) (s : State) :
    Work boundaryBlocks s (takeSeparator r item late s).1 := by
  simp only [takeSeparator]
  split
  · exact bump_work _ s
  · split
    · exact (loseBoundary_work false r item s).mono
    · split
      · exact (loseBoundary_work true r item s).mono
      · exact takeBoundary_work r item late s

theorem admitCard_work (e : HeldEdge) (r : SeparatorRecord) (s : State) : Work recordBlocks s (admitCard e r s) :=
  ((popEdge_work s).trans (takeSeparator_work r e.item false _) : Work recordBlocks s _).trans (finishAdmission_work _ _ _ _)

/-! ### Records -/

theorem updateAwaiting_work (seq : Byte) (f : Entry → Entry) (s : State) : Work [.track] s (updateAwaiting seq f s) :=
  setTrack_work s _ rfl

theorem applyLateNote_work (e : Entry) (r : NoteRecord) (s : State) : Work [.track, .deposit] s (applyLateNote e r s) := by
  simp only [applyLateNote]
  split
  · exact (updateAwaiting_work _ _ s).mono
  · split
    case h_1 s1 missed => exact (lookup_found_work missed).trans (updateAwaiting_work _ _ s1)
    case h_2 s1 w found =>
      exact (((lookup_found_work found).trans (updateAwaiting_work _ _ _) : Work [.track] s _).trans (modifySlot_work e.slot _ _)
        : Work [.track, .deposit] s _).trans (emit_work (touched := []) _ _)

theorem applyLateSeparator_work (e : Entry) (r : SeparatorRecord) (s : State) :
    Work (.track :: boundaryBlocks) s (applyLateSeparator e r s) :=
  (updateAwaiting_work _ _ s).trans (takeSeparator_work r e.item true _)

/-- A record taken touches what an admission touches, where its admission and its late use do. -/
theorem takeRecord_work {seq : Byte} {admitEdge : HeldEdge → State → State} {applyLate : Entry → State → State}
    (admits : ∀ e s, Work recordBlocks s (admitEdge e s)) (applies : ∀ e s, Work recordBlocks s (applyLate e s)) (s : State) :
    Work recordBlocks s (takeRecord seq admitEdge applyLate s) := by
  simp only [takeRecord]
  split
  · have slipped (n : Nat) : Work recordBlocks s (admitUnreads n s) := (admitUnreads_work n s).mono
    split
    · exact (slipped _).trans (bump_work (touched := []) _ _)
    · split
      · exact (slipped _).trans (admits _ _)
      · exact ((slipped _).trans (admits _ _) : Work recordBlocks s _).trans (bump_work (touched := []) _ _)
  · split
    · exact applies _ s
    · exact bump_work _ s

theorem takeNote_work (r : NoteRecord) (s : State) : Work recordBlocks s (takeNote r s) :=
  takeRecord_work (fun e s => admitNote_work e r s) (fun e s => (applyLateNote_work e r s).mono) s

theorem takeSeparatorRecord_work (r : SeparatorRecord) (s : State) : Work recordBlocks s (takeSeparatorRecord r s) :=
  takeRecord_work (fun e s => admitCard_work e r s) (fun e s => (applyLateSeparator_work e r s).mono) s

end Sys2Proof.Machine
end

section
/-! SUPPORT. The machine right after hard reset keeps every law. -/

set_option Elab.async false

namespace Sys2Proof.Machine

/-- A pocket right after hard reset is UNASSIGNED with counts 0. -/
theorem pocketAt_reset (g : Gate) : pocketAt g State.reset = PocketRec.fresh .unassigned true := by
  simp [pocketAt, State.reset]

/-- A group right after hard reset is undefined. -/
theorem groupAt_reset (k : GroupNo) : groupAt k State.reset = GroupRec.initial := by
  simp [groupAt, State.reset]

theorem groupOf_reset (g : Gate) : groupOf g State.reset = none := by
  simp [groupOf, groupAt_reset, GroupRec.initial]

theorem lineLaw_reset : LineLaw State.reset := ⟨rfl, rfl, rfl, rfl, fun _ => rfl, rfl, rfl⟩

theorem trackLaw_reset : TrackLaw State.reset :=
  ⟨Nat.zero_le _, Nat.zero_le _, Nat.zero_le _, by decide, rfl, fun _ => ⟨rfl, rfl⟩, fun _ => rfl⟩

theorem reportLaw_reset : ReportLaw State.reset := by
  refine ⟨by decide, Nat.zero_le _, fun n idle => ?_, fun f sent => ?_, rfl, ?_⟩
  · obtain rfl : 0 = n := Transmitter.quiet.inj idle
    exact Nat.zero_le _
  · exact absurd sent (by simp [State.reset])
  · simp [State.reset]

theorem watchLaw_reset : WatchLaw State.reset := ⟨Nat.zero_le _, List.nodup_nil, rfl, fun _ => rfl⟩

theorem routeLaw_reset : RouteLaw State.reset :=
  ⟨List.nodup_nil, fun k spent => by simp [objectAt, State.reset, RouteObject.initial] at spent⟩

theorem depositLaw_reset : DepositLaw State.reset :=
  ⟨List.nodup_nil, List.nodup_nil, Nat.zero_le _, by simp [State.reset], by simp [State.reset], Nat.zero_le _, List.nodup_nil,
    by simp [State.reset]⟩

theorem groupLaw_reset : GroupLaw State.reset :=
  ⟨by decide, by simp [State.reset], fun k => by simp [groupAt_reset, GroupRec.initial], fun k => by simp [groupAt_reset, GroupRec.initial]⟩

theorem pocketLaw_reset : PocketLaw State.reset := by
  refine ⟨fun g => ?_, by decide, by simp [State.reset], fun g k member => ?_, by simp [State.reset], fun g _ _ => ?_⟩
  · rw [pocketAt_reset]; rfl
  · exact absurd (groupOf_reset g ▸ member) (by simp)
  · rw [pocketAt_reset]; exact ⟨rfl, rfl, rfl, rfl⟩

/-- Settles O55, law by law. -/
theorem lawsAtReset : Obligations.LawsAtReset :=
  ⟨lineLaw_reset, trackLaw_reset, reportLaw_reset, watchLaw_reset, routeLaw_reset, depositLaw_reset, groupLaw_reset, pocketLaw_reset⟩

end Sys2Proof.Machine
end

section
/-! SUPPORT. The works of the commands: which blocks each command touches; the law of the line, which every step keeps, and the queue of
commands, which every command leaves. -/

set_option Elab.async false

namespace Sys2Proof.Machine

/-! ### Requests of the Line State Unit -/

/-- A request of the Line State Unit touches what its effect touches; the effect runs on a line as the checks found it. -/
theorem lineRequest_work {touched : List Block} {checks : List (Bool × RefusalReason)} {effect : State → State} (tag code : Byte)
    (detail : Detail) (s : State)
    (work : firstRefusal checks = none → ∀ t, t.line = s.line → QuietWork touched t (effect t)) :
    Work touched s (lineRequest tag code checks detail effect s) := by
  unfold lineRequest
  split
  · exact refuse_work _ _ _ s
  case h_2 passed =>
    have answered : (hand (.answer tag code none detail) s).line = s.line := by rw [hand_eq]; rfl
    exact (((hand_reportWork _ s).quietWork (touched := touched)).trans (work passed _ answered) (within_self _) (within_self _)).takeBacklog

/-- The line starts with an empty cause set (R174). -/
theorem lineStart_quietWork {s : State} (idle : s.line.state = .idle) (noCause : s.line.causes = CauseSet.empty) :
    QuietWork [.edge] s (changeLine .run none .lineStart none s) := by
  have entered : QuietWork [.edge] s (enterLine .run none s) := by
    refine ⟨fun b untouched => ?_, fun ⟨shape, held⟩ => ⟨?_, ?_⟩, fun law => ?_⟩
    · cases b <;> simp [Same, enterLine, idle] at untouched ⊢
    · exact enterLine_shape rfl (by rw [shape.jam, idle]; rfl) (fun _ => noCause) (stallAfter_isSome _ shape.stall (by simp [idle]))
    · rwa [enterLine_line, enterLine_report]
    · apply law.congr <;> rw [enterLine_report]
  exact entered.trans (hand_reportWork (lineReport s.line.state .lineStart none (enterLine .run none s)) _).quietWork
    (inSecond := within_self _)

/-- A request passes where none of its checks holds (R17). -/
theorem firstRefusal_eq_none_iff (checks : List (Bool × RefusalReason)) :
    firstRefusal checks = none ↔ ∀ check ∈ checks, check.1 = false := by
  induction checks with
  | nil => simp
  | cons check rest ih =>
    obtain ⟨holds, reason⟩ := check
    cases holds <;> simp [ih]

theorem CauseSet.isEmpty_iff (c : CauseSet) : c.isEmpty = true ↔ c = CauseSet.empty := by simp [CauseSet.isEmpty]

theorem execLineStart_work (tag : Byte) (s : State) :
    Work [.edge] s (lineRequest tag 0x50
      [(s.line.state != .idle || !s.track.loaded, .state), (!s.line.causes.isEmpty, .causes)] .none
      (changeLine .run none .lineStart none) s) := by
  refine lineRequest_work _ _ _ s fun passed t line => ?_
  obtain ⟨⟨idle, -⟩, noCause⟩ : (s.line.state = .idle ∧ s.track.loaded = true) ∧ s.line.causes = CauseSet.empty := by
    rw [firstRefusal_eq_none_iff] at passed
    simpa [CauseSet.isEmpty_iff] using passed
  exact lineStart_quietWork (by rw [line, idle]) (by rw [line, noCause])

section
variable {touched : List Block}

theorem stopLine_quietWork {s : State} : QuietWork touched s (stopLine s) := by
  unfold stopLine
  split
  case h_1 run =>
    have drained : QuietWork [] s (changeLine .drain none .lineStop none s) :=
      changeLine_quietWork _ _ (by simp) (by simp) (by simp [run]) rfl fun quiet _ => quiet.1.causes (.inl run)
    exact drained.trans (drainEndQuiet_quietWork (touched := []) _) rfl rfl
  case h_2 halt =>
    refine ⟨fun b _ => by cases b <;> simp [Same, resumeToDrain], fun ⟨shape, taken⟩ => ⟨?_, taken⟩, fun law => law.congr rfl rfl rfl rfl rfl⟩
    exact ⟨shape.runOut, shape.feedEn, by simp [resumeToDrain, halt], shape.jam, shape.causes, shape.stall⟩
  all_goals exact .refl s

theorem haltLine_quietWork {c : Cause} (notBacklog : c ≠ .backlog) (trigger : Trigger) (s : State) :
    QuietWork touched s (haltLine c trigger s) := by
  unfold haltLine
  split
  case h_1 run => exact halt_quietWork (.inl run) c (fun isBacklog => absurd isBacklog notBacklog) _ _ _
  case h_2 drain => exact halt_quietWork (.inr drain) c (fun isBacklog => absurd isBacklog notBacklog) _ _ _
  case h_3 halt => exact (putCause_work notBacklog s (by simp [halt])).toQuietWork
  all_goals exact .refl s

theorem dropHeld_quietWork (s : State) : QuietWork touched s (dropHeld s) := by
  refine ⟨fun b _ => by cases b <;> simp [Same, dropHeld], fun ⟨shape, taken⟩ => ⟨?_, taken⟩, fun law => law.congr rfl rfl rfl rfl rfl⟩
  refine ⟨shape.runOut, shape.feedEn, shape.resume, shape.jam, fun runs => ?_, shape.stall⟩
  simp only [dropHeld, State.setLine_line, shape.causes runs]
  rfl

theorem resumeLine_quietWork {s : State} (halt : s.line.state = .halt) (free : s.line.causes.withoutHeld = CauseSet.empty) :
    QuietWork touched s (resumeLine s) := by
  unfold resumeLine
  split
  case h_1 target _ =>
    have state : (dropHeld s).line.state = .halt := halt
    have resumed : QuietWork [] (dropHeld s) (changeLine target.state none .lineResume none (dropHeld s)) :=
      changeLine_quietWork _ _ (by simp [state]) (by cases target <;> simp [Resume.state]) (by simp [state])
        (by cases target <;> rfl) fun _ _ => free
    exact ((dropHeld_quietWork (touched := []) s).trans resumed (touched := [])).trans (drainEndQuiet_quietWork (touched := []) _)
      rfl rfl
  case h_2 => exact .refl s

end

/-! ### RECOVER and LINE_RESET -/

/-- The line as it comes to IDLE with no jam in force and without OPERATOR and COMMAND (R185, R187). -/
theorem enterIdle_quietWork (s : State) : QuietWork [.jam] s (enterLine .idle none (dropJam (dropHeld s))) := by
  have shape : LineShape (enterLine .idle none (dropJam (dropHeld s))).line (enterLine .idle none (dropJam (dropHeld s))).track.stall := by
    refine enterLine_shape rfl rfl (by simp) ?_
    cases (dropJam (dropHeld s)).line.state <;> rfl
  refine ⟨fun b untouched => ?_, fun quiet => ⟨shape, ?_⟩, fun law => ?_⟩
  · cases b <;> simp [Same, enterLine, dropJam, dropHeld] at untouched ⊢
  · rw [enterLine_line, enterLine_report]
    exact quiet.2
  · apply law.congr <;> rw [enterLine_report] <;> rfl

theorem changeToIdle_quietWork (trigger : Trigger) (cause : Option LineCause) (s : State) :
    QuietWork [.jam] s (changeLine .idle none trigger cause (dropJam (dropHeld s))) :=
  (enterIdle_quietWork s).trans (hand_reportWork (lineReport _ trigger cause (enterLine .idle none (dropJam (dropHeld s)))) _).quietWork
    (inSecond := within_self _)

theorem closeAfterRecovery_work (s : State) : Work [.deposit] s (closeAfterRecovery s) := by
  unfold closeAfterRecovery
  exact .foldl (fun s d => testClose_work d.slot true s) s.deposit.deposits s

theorem recoverLine_quietWork (next : Byte) (s : State) : QuietWork [.edge, .track, .deposit, .jam] s (recoverLine next s) := by
  have listed : QuietWork [.track] s (dropLosses (hand (recoveryReport next s) s)) :=
    ((hand_reportWork (recoveryReport next s) s).quietWork (touched := [])).trans
      (setTrack_work (hand (recoveryReport next s) s) { (hand (recoveryReport next s) s).track with losses := [] } rfl).toQuietWork
  exact ((listed.trans (setEdge_work _ _).toQuietWork (touched := [.edge, .track])).trans (changeToIdle_quietWork .recover none _)
    (touched := [.edge, .track, .jam])).trans (closeAfterRecovery_work _).toQuietWork

theorem discardItems_quietWork (n : Nat) (s : State) : QuietWork [] s (discardItems n s) := by
  induction n generalizing s with
  | zero => exact .refl s
  | succ n ih => exact ((bumpQuiet_reportWork (.event .discarded) s).quietWork (touched := [])).trans (ih _)

theorem resetItems_quietWork (s : State) : QuietWork [.edge, .track] s (resetItems s) := by
  let cleared := s.setEdge { s.edge with fifo := [], gap := none }
  have emptied : QuietWork [.track] cleared (setQueue [] (dropLosses (cleared.setTrack { cleared.track with waiting := none }))) :=
    (setTrack_work cleared { cleared.track with waiting := none, losses := [], queue := [], gates := gatesOf [] } rfl).toQuietWork
  exact ((setEdge_work s _).toQuietWork.trans emptied (touched := [.edge, .track])).trans (discardItems_quietWork _ _)

/-- The blocks a LINE_RESET changes. -/
def resetBlocks : List Block := [.edge, .track, .pocket, .group, .deposit, .jam]

theorem resetLine_quietWork (s : State) : QuietWork resetBlocks s (resetLine s) := by
  have deposits (s : State) : Work [.deposit] s (resetDeposits s) :=
    (setDeposit_work s _).trans (endCause_work (touched := []) (by simp) _)
  have units : QuietWork resetBlocks s (resetDeposits (resetGroups (resetPockets (resetItems s)))) :=
    (((resetItems_quietWork s).trans (resetPockets_work _).toQuietWork (touched := resetBlocks)).trans
      (resetGroups_work _).toQuietWork (touched := resetBlocks)).trans (deposits _).toQuietWork
  simp only [resetLine]
  split
  · exact units.trans (enterIdle_quietWork _)
  · exact units.trans (changeToIdle_quietWork _ _ _)

/-! ### Events -/

theorem takeGateExpiries_work (s : State) : Work [.track] s (takeGateExpiries s) := setQueue_work _ s

theorem takeDeadlines_work (s : State) : Work jamBlocks s (takeDeadlines s) := admitUnreads_work _ s

theorem takeArrivalEnds_work (s : State) : Work jamBlocks s (takeArrivalEnds s) := by
  unfold takeArrivalEnds
  split
  case h_2 ended _ _ => exact .foldl (fun s e => (declareMissing_work e s).mono) _ s
  case h_3 | h_4 | h_5 => exact handJam_work _ s
  all_goals exact .refl s

/-- The stall timer restarts where it runs, with the advance of the position (R139). -/
theorem advance_work (s : State) : Work [.edge] s (advance s) := by
  have stall : (advance s).track.stall.isSome = s.track.stall.isSome := Option.isSome_map
  have shape (shape : LineShape s.line s.track.stall) : LineShape (advance s).line (advance s).track.stall :=
    ⟨shape.runOut, shape.feedEn, shape.resume, shape.jam, shape.causes, stall.trans shape.stall⟩
  refine ⟨⟨fun b untouched => ?_, fun quiet => ⟨shape quiet.1, quiet.2⟩, fun law => law.congr rfl rfl rfl rfl rfl⟩, fun law => ?_⟩
  · cases b <;> simp [Same, advance] at untouched ⊢
  · rw [lineLaw_iff] at law ⊢
    exact ⟨shape law.1, law.2⟩

theorem encEdge_work (s : State) : Work jamBlocks s (advance (takeExpiries s)) :=
  (((takeGateExpiries_work s).trans (takeDeadlines_work _) : Work jamBlocks s _).trans (takeArrivalEnds_work _) : Work jamBlocks s _).trans
    (advance_work _)

/-- The stall timer's expiry: the line jams, unless it is JAMMED, where the law of the line has the timer stopped. -/
theorem stallExpiry_work (s : State) : Work jamBlocks s (if s.track.stall.isSome then handJam .stall (stopStall s) else s) := by
  split
  case isFalse => exact .refl s
  case isTrue =>
    by_cases jammed : s.line.state = .jammed
    · have shape (shape : LineShape s.line s.track.stall) : LineShape (stopStall s).line (stopStall s).track.stall :=
        ⟨shape.runOut, shape.feedEn, shape.resume, shape.jam, shape.causes, by simp [stopStall, jammed]⟩
      have stays : handJam .stall (stopStall s) = stopStall s := if_pos jammed
      rw [stays]
      refine ⟨⟨fun b _ => by cases b <;> simp [Same, stopStall], fun quiet => ⟨shape quiet.1, quiet.2⟩,
        fun law => law.congr rfl rfl rfl rfl rfl⟩, fun law => ?_⟩
      rw [lineLaw_iff] at law ⊢
      exact ⟨shape law.1, law.2⟩
    · have enters : handJam .stall (stopStall s) = enterJam .stall s := by
        have entered : enterLine .jammed none (stopStall s) = enterLine .jammed none s := by
          have stops : stallAfter s.line.state .jammed s.track.startTime none =
              stallAfter s.line.state .jammed s.track.startTime s.track.stall := by cases s.line.state <;> rfl
          rw [enterLine_eq (by simp), enterLine_eq (by simp), ← stops]
          rfl
        unfold handJam
        rw [if_neg (by exact jammed)]
        simp only [enterJam, entered]
        rfl
      rw [enters]
      exact enterJam_work .stall s

end Sys2Proof.Machine
end

section
/-! SUPPORT. The works of the commands: which blocks each command touches; the law of the line, which every step keeps, and the queue of
commands, which every command leaves. -/

set_option Elab.async false

namespace Sys2Proof.Machine

/-! ### The transmitter and hard reset -/

/-- A work of the Report Unit alone that leaves the backlog flag. -/
theorem Work.ofReport {touched : List Block} {s : State} {u : ReportUnit} (backlog : u.backlog = s.report.backlog)
    (law : ReportLaw s → ReportLaw (s.setReport u)) : Work touched s (s.setReport u) :=
  ⟨⟨fun b _ => by cases b <;> simp [Same], fun quiet => ⟨quiet.1, fun held => backlog.trans (quiet.2 held)⟩, law⟩,
    fun law => law.congr rfl rfl backlog⟩

/-- The transmitter comes to QUIET with an idle count in range. -/
theorem setQuiet_work {touched : List Block} {idle : Nat} (inRange : idle ≤ Config.idleRun) (s : State) :
    Work touched s (setTransmitter (.quiet idle) s) :=
  .ofReport rfl fun law => ⟨law.queue, law.lossMark, fun n isIdle => Transmitter.quiet.inj isIdle ▸ inRange, by simp, rfl, by simp⟩

theorem idleByteSent_work {touched : List Block} (rdyIn : Bool) (s : State) : ∃ t, exec (.idleByteSent rdyIn) s = .next t ∧
    Work touched s t := by
  refine ⟨_, rfl, ?_⟩
  split
  case h_1 idle _ =>
    have sampled : Work touched s (s.setReport { s.report with rdyIn := rdyIn }) :=
      .ofReport rfl fun law => law.congr rfl rfl rfl rfl rfl
    exact sampled.trans (setQuiet_work (touched := touched) (Nat.min_le_right _ _) _) (within_self _) (within_self _)
  all_goals exact .refl s

theorem frameStart_work {touched : List Block} (s : State) : ∃ t, exec .frameStart s = .next t ∧ Work touched s t := by
  refine ⟨_, rfl, ?_⟩
  split
  case h_1 q rest _ head =>
    split
    · exact .ofReport rfl fun law =>
        ⟨law.queue, law.lossMark, by simp, fun f isSent => ⟨q, rest, head, (Transmitter.sending.inj isSent).symm⟩, rfl, by simp⟩
    · exact .refl s
  case h_2 => exact .refl s

/-- The head report leaves the queue in QUIET; an occupancy of 32 reached ends BACKLOG with its flag. -/
theorem removeHead_work {touched : List Block} {s : State} {n : Nat} (quiet : s.report.tx = .quiet n) :
    Work touched s (removeHead s) := by
  have shorter : s.report.queue.tail.length ≤ s.report.queue.length := by simp
  have removed : Work touched s (s.setReport { s.report with queue := s.report.queue.tail, segment := 0 }) :=
    .ofReport rfl fun law => ⟨shorter.trans law.queue, law.lossMark, law.idle, by simp [quiet], law.line, law.released⟩
  simp only [removeHead]
  split
  case isFalse => exact removed
  case isTrue =>
    have shape (shape : LineShape s.line s.track.stall) : LineShape { s.line with causes := s.line.causes.put false .backlog } s.track.stall :=
      ⟨shape.runOut, shape.feedEn, shape.resume, shape.jam, fun runs => by
        rw [show s.line.causes = _ from shape.causes runs]; rfl, shape.stall⟩
    refine ⟨⟨fun b _ => by cases b <;> simp [Same, endCause, putCause], fun quiet => ⟨shape quiet.1, by simp [endCause, putCause, CauseSet.put]⟩,
      fun law => (removed.reportLaw law).congr rfl rfl rfl rfl rfl⟩, fun law => ?_⟩
    rw [lineLaw_iff] at law ⊢
    exact ⟨shape law.1, rfl⟩

theorem frameSent_work {touched : List Block} (s : State) : ∃ t, exec .frameSent s = .next t ∧ Work touched s t := by
  refine ⟨_, rfl, ?_⟩
  split
  case h_3 =>
    have quiet : Work touched s (setTransmitter (.quiet 0) s) := setQuiet_work (Nat.zero_le _) s
    simp only
    split
    · exact quiet
    · split
      · exact quiet.trans (removeHead_work (touched := touched) (n := 0) rfl) (within_self _) (within_self _)
      · exact quiet.trans (.ofReport (touched := touched) rfl fun law =>
          ⟨law.queue, law.lossMark, law.idle, by simp, law.line, law.released⟩) (within_self _) (within_self _)
  all_goals exact .refl s

/-- The blocks a hard reset changes: every one but the queue of commands. -/
def everyBlock : List Block := [.feed, .edge, .route, .watch, .pocket, .group, .track, .deposit, .jam]

theorem exec_hardReset (s : State) :
    exec .hardReset s = .next { State.reset with freeCount := s.freeCount, pending := s.pending } :=
  congrArg Host.Outcome.next (releaseReset_holdReset s)

theorem hardReset_work (s : State) : ∃ t, exec .hardReset s = .next t ∧ Work everyBlock s t := by
  refine ⟨_, exec_hardReset s, ⟨fun b untouched => ?_, fun _ => ?_, fun _ => reportLaw_reset.congr rfl rfl rfl rfl rfl⟩,
    fun _ => lineLaw_reset.congr rfl rfl rfl⟩
  · cases b <;> simp [Same, everyBlock] at untouched ⊢
  · exact (lineLaw_reset.congr rfl rfl rfl).quiet

/-! ### Every command -/

/-- The blocks a command may change. -/
def touches : Instr → List Block
  | .feedByte _ _ | .hardReset => everyBlock
  | .noteRecord _ | .separatorRecord _ => recordBlocks
  | .controlFormatRefusal _ _ _ | .setParamNoticeMask _ _ | .lineStop _ | .lineHalt _ | .lineResume _ | .statusRead _
  | .tallyRead _ _ _ | .operatorStop | .idleByteSent _ | .frameStart | .frameSent => []
  | .setParamLengthMin _ _ | .setParamLengthMax _ _ | .routeWrite _ _ _ | .routeLink _ _ _ _ | .routeUnlink _ _
  | .routeSwap _ => [.route]
  | .setParamRequireDeposit _ _ | .declare _ _ _ | .declareCancel _ _ => [.deposit]
  | .setParamQuarantinePocket _ _ | .setParamQuarantineLimit _ _ | .quarantineRelease _ => [.pocket]
  | .setParamGapMin _ _ | .setParamStallTime _ _ | .setParamStartTime _ _ | .setParamTraceAll _ _ | .setParamTraceRejects _ _
  | .setGeometry _ _ | .divertWindowOpen | .divertWindowClose => [.track]
  | .setParamStrapPreset _ _ _ | .setParamDenominationPurity _ _ _ | .setParamDepositPurity _ _ _ | .setParamBrickSize _ _ _
  | .setParamLowThreshold _ _ _ | .setParamOverflowAction _ _ _ => [.group]
  | .sync _ _ | .lineStart _ | .trailingEdge => [.edge]
  | .watchAdd _ _ _ _ | .watchRemove _ _ _ | .watchClear _ => [.watch]
  | .groupDefine _ _ _ | .groupFlush _ _ | .pocketEnable _ _ _ | .pocketCleared _ => [.pocket, .group]
  | .recover _ _ => [.edge, .track, .deposit, .jam]
  | .lineReset _ => resetBlocks
  | .encEdge | .admissionDeadline | .arrivalWindowEnd | .stallTimerExpiry | .leadingEdge | .arrivalPulse _ => jamBlocks

theorem stepItemNumber_work (s : State) : Work [.edge] s (stepItemNumber s) := (setEdge_work s _).trans (setFreeCount_work _ _)

theorem makeRoom_work (s : State) : Work jamBlocks s (makeRoom s) := by
  unfold makeRoom
  split
  · exact admitUnread_work s
  · exact .refl s

theorem captured_work (s : State) : Work [.edge] s (if s.line.state = .jammed then discardEdge s else captureEdge s) := by
  split
  · exact (stepItemNumber_work s).trans (bump_work (touched := []) _ _)
  · exact (setEdge_work s _).trans (stepItemNumber_work _)

theorem leadingEdge_work (s : State) : ∃ t, exec .leadingEdge s = .next t ∧ Work jamBlocks s t := by
  have room : Work jamBlocks s (if s.line.state = .jammed then s else makeRoom s) := by
    split
    · exact .refl s
    · exact makeRoom_work s
  refine ⟨_, rfl, ?_⟩
  split
  · exact .refl s
  · exact room.trans (captured_work _)

theorem strayArrival_work (p : Fin 16) (s : State) : Work jamBlocks s (strayArrival p s) := by
  have counted : Work [] s (bump .strayArrivals s) := bump_work _ s
  unfold strayArrival
  simp only
  split
  case h_4 | h_5 => exact counted.mono
  all_goals exact (counted.trans (recountMark_work _ _) : Work [.pocket] s _).trans (handJam_work _ _)

theorem takeArrival_work (p : Fin 16) (s : State) : Work jamBlocks s (takeArrival p s) := by
  unfold takeArrival
  split
  · exact strayArrival_work p s
  · split
    · exact (confirmEntry_work _ p s).trans (drainEnd_work (touched := []) _)
    · exact (confirmShadow_work _ p s).trans (drainEnd_work (touched := []) _)

theorem pocketCleared_work (p : Fin 16) (s : State) : ∃ t, exec (.pocketCleared p) s = .next t ∧ Work [.pocket, .group] s t := by
  refine ⟨_, rfl, ?_⟩
  split
  · exact (clearRunOut_work s).mono
  · split
    · exact (clearQuarantine_work _ s).mono
    · exact clearMember_work _ s

/-- A clear changes the tallies alone. -/
theorem ReportUnit.clearGroup_eq (u : ReportUnit) (g : TallyGroup) :
    u.clearGroup g = { u with accepted := (u.clearGroup g).accepted, events := (u.clearGroup g).events } := by
  cases g <;> simp only [ReportUnit.clearGroup]

theorem clearGroup_reportWork (g : TallyGroup) (s : State) : ReportWork s (s.setReport (s.report.clearGroup g)) := by
  rw [ReportUnit.clearGroup_eq]
  exact setReport_reportWork rfl rfl rfl rfl rfl rfl

theorem readTallies_work {touched : List Block} (g : TallyGroup) (clear : Bool) (tallies : List (Nat × Word)) (s : State) :
    Work touched s (readTallies g clear tallies s) := by
  have handed (r : Report) : QuietWork touched s (hand r s) := (hand_reportWork r s).quietWork
  have cleared (t : State) : QuietWork touched t (t.setReport (t.report.clearGroup g)) := (clearGroup_reportWork g t).quietWork
  unfold readTallies
  refine QuietWork.takeBacklog (.ite ?_ ?_)
  · exact (handed _).trans (cleared _) (within_self _) (within_self _)
  · exact handed _

theorem tallyRead_work {touched : List Block} (tag group clear : Byte) (s : State) :
    ∃ t, exec (.tallyRead tag group clear) s = .next t ∧ Work touched s t := by
  refine ⟨_, rfl, ?_⟩
  split
  · exact request_work (readTallies_work _ _ _) _ _ _ _ s
  · exact request_work Work.refl _ _ _ _ s

/-- A command that is no byte of the Feed link proceeds, and touches the blocks of its row. -/
theorem exec_work_of_not_feedByte {i : Instr} (notByte : ∀ b faulted, i ≠ .feedByte b faulted) (s : State) :
    ∃ t, exec i s = .next t ∧ Work (touches i) s t := by
  have write {touched : List Block} {tag : Byte} {checks : List (Bool × RefusalReason)} {write : State → State}
      (work : ∀ s, Work touched s (write s)) : Work touched s (setParam tag checks write s) := request_work work _ _ _ _ s
  cases i
  case feedByte b faulted => exact absurd rfl (notByte b faulted)
  case noteRecord r => exact ⟨_, rfl, takeNote_work r s⟩
  case separatorRecord r => exact ⟨_, rfl, takeSeparatorRecord_work r s⟩
  case controlFormatRefusal => exact ⟨_, rfl, refuse_work _ _ _ s⟩
  case setParamLengthMin | setParamLengthMax => exact ⟨_, rfl, write fun s => setRoute_work s _⟩
  case setParamRequireDeposit => exact ⟨_, rfl, write fun s => setDeposit_work s _⟩
  case setParamQuarantinePocket => exact ⟨_, rfl, write (selectQuarantine_work _)⟩
  case setParamQuarantineLimit => exact ⟨_, rfl, write (setQuarantineLimit_work _)⟩
  case setParamGapMin | setParamStallTime | setParamStartTime | setParamTraceAll | setParamTraceRejects =>
    exact ⟨_, rfl, write fun s => setTrack_work s _ (by rfl)⟩
  case setParamNoticeMask => exact ⟨_, rfl, write fun s => .ofReport rfl fun law => law.congr rfl rfl rfl rfl rfl⟩
  case setParamStrapPreset | setParamBrickSize => exact ⟨_, rfl, write (modifyGroup_work _ _)⟩
  case setParamDenominationPurity | setParamDepositPurity =>
    exact ⟨_, rfl, write fun s => (modifyGroup_work _ _ s).trans (endCause_work (touched := []) (by simp) _) (touched := [.group])⟩
  case setParamLowThreshold => exact ⟨_, rfl, write fun s => (modifyGroup_work _ _ s).trans (setArm_work _ _) (touched := [.group])⟩
  case setParamOverflowAction =>
    exact ⟨_, rfl, write fun s => (modifyGroup_work _ _ s).trans (endCauseIf_work (touched := []) (by simp) _ _) (touched := [.group])⟩
  case setGeometry => exact ⟨_, rfl, request_work (fun s => setTrack_work s _ (by rfl)) _ _ _ _ s⟩
  case sync => exact ⟨_, rfl, request_work (fun s => setEdge_work s _) _ _ _ _ s⟩
  case routeWrite => exact ⟨_, rfl, request_work (onObject_work (fun k s => putObject_work k _ s) _) _ _ _ _ s⟩
  case routeLink => exact ⟨_, rfl, request_work (onObject_work (linkObject_work _ _) _) _ _ _ _ s⟩
  case routeUnlink => exact ⟨_, rfl, request_work (onObject_work unlinkObject_work _) _ _ _ _ s⟩
  case routeSwap => exact ⟨_, rfl, request_work (swap_work _) _ _ _ _ s⟩
  case watchAdd | watchRemove | watchClear => exact ⟨_, rfl, request_work (fun s => setWatch_work s _) _ _ _ _ s⟩
  case groupDefine tag group pockets =>
    refine ⟨_, rfl, ?_⟩
    split
    · exact request_work (defineGroup_work _ _) _ _ _ _ s
    · exact request_work Work.refl _ _ _ _ s
  case groupFlush tag group =>
    refine ⟨_, rfl, ?_⟩
    split
    · exact request_work (flushGroup_work _) _ _ _ _ s
    · exact request_work Work.refl _ _ _ _ s
  case pocketEnable tag pocket setting =>
    refine ⟨_, rfl, ?_⟩
    split
    · exact request_work (enablePocket_work _ _) _ _ _ _ s
    · exact request_work Work.refl _ _ _ _ s
  case quarantineRelease tag =>
    refine ⟨_, rfl, ?_⟩
    split
    · exact request_work (emptyQuarantine_work _ true) _ _ _ _ s
    · exact request_work Work.refl _ _ _ _ s
  case declare | declareCancel => exact ⟨_, rfl, request_work (fun s => setDeposit_work s _) _ _ _ _ s⟩
  case lineStart tag => exact ⟨_, rfl, execLineStart_work tag s⟩
  case lineStop => exact ⟨_, rfl, lineRequest_work _ _ _ s fun _ t _ => stopLine_quietWork⟩
  case lineHalt => exact ⟨_, rfl, lineRequest_work _ _ _ s fun _ t _ => haltLine_quietWork (by simp) _ t⟩
  case lineResume =>
    refine ⟨_, rfl, lineRequest_work _ _ _ s fun passed t line => ?_⟩
    rw [firstRefusal_eq_none_iff] at passed
    obtain ⟨halt, free⟩ : s.line.state = .halt ∧ s.line.causes.withoutHeld = CauseSet.empty := by
      simpa [CauseSet.isEmpty_iff] using passed
    exact resumeLine_quietWork (by rw [line, halt]) (by rw [line, free])
  case recover tag next => exact ⟨_, rfl, lineRequest_work _ _ _ s fun _ t _ => recoverLine_quietWork next t⟩
  case lineReset => exact ⟨_, rfl, lineRequest_work _ _ _ s fun _ t _ => resetLine_quietWork t⟩
  case statusRead => exact ⟨_, rfl, (answer_work (touched := []) _ _ _ s).trans (emit_work (touched := []) _ _) (touched := [])⟩
  case tallyRead tag group clear => exact tallyRead_work tag group clear s
  case encEdge => exact ⟨_, rfl, encEdge_work s⟩
  case admissionDeadline => exact ⟨_, rfl, takeDeadlines_work s⟩
  case divertWindowOpen | divertWindowClose => exact ⟨_, rfl, takeGateExpiries_work s⟩
  case arrivalWindowEnd => exact ⟨_, rfl, takeArrivalEnds_work s⟩
  case stallTimerExpiry => exact ⟨_, rfl, stallExpiry_work s⟩
  case leadingEdge => exact leadingEdge_work s
  case trailingEdge => exact ⟨_, rfl, setEdge_work s _⟩
  case arrivalPulse p => exact ⟨_, rfl, takeArrival_work p s⟩
  case pocketCleared p => exact pocketCleared_work p s
  case operatorStop => exact ⟨_, rfl, (haltLine_quietWork (by simp) _ s).takeBacklog⟩
  case hardReset => exact hardReset_work s
  case idleByteSent rdyIn => exact idleByteSent_work rdyIn s
  case frameStart => exact frameStart_work s
  case frameSent => exact frameSent_work s

/-! ### Bytes of the Feed link -/

/-- A record delivered has the meaning of the command it spells, and no record spells a byte. -/
theorem deliver_cases (i : Instr) (s : State) :
    deliver i s = .next s ∨ ((∀ b faulted, i ≠ .feedByte b faulted) ∧ deliver i s = exec i s) := by
  cases i
  case feedByte | encEdge | admissionDeadline | divertWindowOpen | divertWindowClose | arrivalWindowEnd | stallTimerExpiry
      | leadingEdge | trailingEdge | arrivalPulse | pocketCleared | operatorStop | hardReset | idleByteSent | frameStart | frameSent =>
    exact .inl rfl
  all_goals exact .inr ⟨by simp, rfl⟩

/-- What a byte of the Feed link can do: move the receiver and count an error, or deliver the record it completes. -/
theorem exec_feedByte_cases (b : Byte) (faulted : Bool) (s : State) :
    (∃ t, exec (.feedByte b faulted) s = .next t ∧ Work [.feed] s t) ∨
    ∃ i, (∀ b faulted, i ≠ .feedByte b faulted) ∧ exec (.feedByte b faulted) s = exec i (s.setFeed .wait) := by
  have error : ∃ t, .next (feedError s) = (.next t : Result) ∧ Work [.feed] s t :=
    ⟨_, rfl, (setFeed_work s _).trans (bump_work (touched := []) _ _)⟩
  have moved (r : Receiver) : ∃ t, .next (s.setFeed r) = (.next t : Result) ∧ Work [.feed] s t := ⟨_, rfl, setFeed_work s r⟩
  simp only [exec, execFeedByte]
  split
  case h_1 =>
    split
    · exact .inl error
    · split
      · exact .inl ⟨s, rfl, .refl s⟩
      · split
        · exact .inl (moved _)
        · exact .inl error
  case h_2 =>
    split
    · exact .inl error
    · split
      case h_1 => exact .inl (moved _)
      case h_3 => exact .inl error
      case h_2 kind payload _ =>
        unfold framePassed
        split
        · obtain stands | ⟨notByte, same⟩ := deliver_cases _ (s.setFeed .wait)
          · rw [stands]
            exact .inl (moved .wait)
          · exact .inr ⟨_, notByte, same⟩
        · exact .inl ⟨_, rfl, (setFeed_work s _).trans (bump_work (touched := []) _ _)⟩
  case h_3 =>
    split
    · exact .inl (moved _)
    · split
      · exact .inl (moved _)
      · exact .inl (moved _)

/-- Every row touches every block at most. -/
theorem touches_within (i : Instr) : within (touches i) everyBlock = true := by
  cases i <;> rfl

/-- Every command proceeds, and touches the blocks of its row. -/
theorem exec_work (i : Instr) (s : State) : ∃ t, exec i s = .next t ∧ Work (touches i) s t := by
  by_cases isByte : ∃ b faulted, i = .feedByte b faulted
  · obtain ⟨b, faulted, rfl⟩ := isByte
    obtain ⟨t, next, work⟩ | ⟨j, notByte, same⟩ := exec_feedByte_cases b faulted s
    · exact ⟨t, next, work.mono (touched := everyBlock)⟩
    · obtain ⟨t, next, work⟩ := exec_work_of_not_feedByte notByte (s.setFeed .wait)
      exact ⟨t, same.trans next, (setFeed_work s .wait).trans work (touched := everyBlock) rfl (touches_within j)⟩
  · exact exec_work_of_not_feedByte (fun b faulted is => isByte ⟨b, faulted, is⟩) s

/-! ### Steps -/

/-- A step is a command carried out on the state with the queue's rest, or nothing where the queue is empty. -/
theorem step_cases {s t : State} (stepped : step s = .next t) :
    t = s ∨ ∃ c rest, exec c (s.setPending rest) = .next t := by
  unfold step at stepped
  split at stepped
  · exact .inl (Host.Outcome.next.inj stepped).symm
  · exact .inr ⟨_, _, stepped⟩

/-- What a work of the receiver, a command that is no byte, and a change of the queue keep, every step keeps. -/
theorem step_keeps {law : State → Prop} (pending : ∀ s rest, law s → law (s.setPending rest))
    (receiver : ∀ s t, Work [.feed] s t → law s → law t)
    (command : ∀ (i : Instr) (s t : State), (∀ b faulted, i ≠ .feedByte b faulted) → exec i s = .next t → law s → law t)
    {s t : State} (stepped : step s = .next t) (kept : law s) : law t := by
  obtain rfl | ⟨c, rest, next⟩ := step_cases stepped
  · exact kept
  have before := pending s rest kept
  by_cases isByte : ∃ b faulted, c = .feedByte b faulted
  · obtain ⟨b, faulted, rfl⟩ := isByte
    obtain ⟨u, isNext, work⟩ | ⟨j, notByte, same⟩ := exec_feedByte_cases b faulted (s.setPending rest)
    · obtain rfl : u = t := Host.Outcome.next.inj (isNext.symm.trans next)
      exact receiver _ _ work before
    · exact command j _ t notByte (same.symm.trans next) (receiver _ _ (setFeed_work _ .wait) before)
  · exact command c _ t (fun b faulted is => isByte ⟨b, faulted, is⟩) next before

/-- The work of a command that has come to a next state. -/
theorem work_of_exec {i : Instr} {s t : State} (next : exec i s = .next t) : Work (touches i) s t := by
  obtain ⟨u, isNext, work⟩ := exec_work i s
  obtain rfl : u = t := Host.Outcome.next.inj (isNext.symm.trans next)
  exact work

/-- Settles O1: the front command is what the step reads. -/
theorem stepTakesFrontCommand : Obligations.StepTakesFrontCommand := fun _ _ _ => rfl

/-- Settles O2: no row touches the queue of commands. -/
theorem everyStepProceeds : Obligations.EveryStepProceeds := by
  refine ⟨fun c s => ?_, fun s empty => by rw [step, empty]⟩
  obtain ⟨t, next, work⟩ := exec_work c s
  exact ⟨t, next, work.same .pending (mt (mem_of_within (touches_within c) .pending) (by simp [everyBlock]))⟩

/-- Settles O56: every command's work keeps the law of the line. -/
theorem lineLawKept : Obligations.LineLawKept := fun _ _ law stepped =>
  step_keeps (fun _ _ law => law.congr rfl rfl rfl) (fun _ _ work => work.lineLaw) (fun _ _ _ _ next => (work_of_exec next).lineLaw)
    stepped law

/-- Every step keeps the law of the Report Unit. -/
theorem reportLaw_step {s t : State} (stepped : step s = .next t) (law : ReportLaw s) : ReportLaw t :=
  step_keeps (fun _ _ law => law.congr rfl rfl rfl rfl rfl) (fun _ _ work => work.reportLaw)
    (fun _ _ _ _ next => (work_of_exec next).reportLaw) stepped law

end Sys2Proof.Machine
end

section
/-! SUPPORT. The law of the track, which every step keeps: the capacities, the gates that follow the queue, and JAMMED with both queues
empty. -/

set_option Elab.async false

namespace Sys2Proof.Machine

/-! ### What leaves a law that reads blocks alone -/

/-- A request keeps what reports keep, where its effect keeps it once its checks have passed. -/
theorem request_keeps {law : State → Prop} (reports : ∀ {s t}, QuietWork [] s t → law s → law t) {s : State} {tag code : Byte}
    {checks : List (Bool × RefusalReason)} {detail : Detail} {effect : State → State}
    (keeps : (∀ check ∈ checks, check.1 = false) → law (answer tag code detail s) → law (effect (answer tag code detail s)))
    (kept : law s) : law (request tag code checks detail effect s) := by
  unfold request
  split
  · exact reports (refuse_work _ _ _ s).toQuietWork kept
  case h_2 passed =>
    exact keeps ((firstRefusal_eq_none_iff checks).mp passed) (reports (answer_work _ _ _ s).toQuietWork kept)

/-- A request of the Line State Unit keeps what reports keep, where its effect keeps it. -/
theorem lineRequest_keeps {law : State → Prop} (reports : ∀ {s t}, QuietWork [] s t → law s → law t) {s : State} {tag code : Byte}
    {checks : List (Bool × RefusalReason)} {detail : Detail} {effect : State → State}
    (keeps : (∀ check ∈ checks, check.1 = false) → law (hand (.answer tag code none detail) s) →
      law (effect (hand (.answer tag code none detail) s))) (kept : law s) :
    law (lineRequest tag code checks detail effect s) := by
  unfold lineRequest
  split
  · exact reports (refuse_work _ _ _ s).toQuietWork kept
  case h_2 passed =>
    exact reports (takeBacklog_quietWork _)
      (keeps ((firstRefusal_eq_none_iff checks).mp passed) (reports (hand_reportWork _ s).quietWork kept))

/-- A record taken keeps what UNREAD admissions and reports keep, where its own admission and its late use keep it. -/
theorem takeRecord_keeps {law : State → Prop} (reports : ∀ {s t}, QuietWork [] s t → law s → law t)
    (unread : ∀ {s}, law s → law (admitUnread s)) {seq : Byte} {admitEdge : HeldEdge → State → State}
    {applyLate : Entry → State → State} (admits : ∀ {s e rest}, law s → s.edge.fifo = e :: rest → law (admitEdge e s))
    {s : State} (applies : ∀ e, s.track.queue.find? (·.awaits seq) = some e → law (applyLate e s)) (kept : law s) :
    law (takeRecord seq admitEdge applyLate s) := by
  have bumped {s : State} (t : EventTally) (kept : law s) : law (bump t s) := reports (bump_work t s).toQuietWork kept
  have slipped (n : Nat) {s : State} (kept : law s) : law (admitUnreads n s) := by
    induction n generalizing s with
    | zero => exact kept
    | succ n ih => exact ih (unread kept)
  simp only [takeRecord]
  split
  case h_1 n _ =>
    split
    case h_1 => exact bumped _ (slipped n kept)
    case h_2 held =>
      split
      · exact admits (slipped n kept) held
      · exact bumped _ (admits (slipped n kept) held)
  case h_2 =>
    split
    case h_1 e found => exact applies e found
    case h_2 => exact bumped _ kept

/-! ### Edits the law of the track allows -/

/-- Queues that do not grow, with gates that follow, keep the law of the track. -/
theorem TrackLaw.edit {s t : State} (law : TrackLaw s) (jam : t.line.state = .jammed ↔ s.line.state = .jammed)
    (fifo : t.edge.fifo.length ≤ s.edge.fifo.length) (queue : t.track.queue.length ≤ s.track.queue.length)
    (gates : t.track.gates = gatesOf t.track.queue) (waiting : t.track.waiting = s.track.waiting)
    (losses : t.track.losses = s.track.losses) : TrackLaw t where
  fifo := fifo.trans law.fifo
  queue := queue.trans law.queue
  losses := losses ▸ law.losses
  gates := gates
  waiting := waiting.trans law.waiting
  jammed jammed := by
    obtain ⟨noEntry, noEdge⟩ := law.jammed (jam.mp jammed)
    exact ⟨by simpa [noEntry] using queue, by simpa [noEdge] using fifo⟩
  lost notJammed := losses.trans (law.lost (mt jam.mpr notJammed))

/-- A work that touches neither the read point nor the track, and does not jam, keeps the law of the track. -/
theorem TrackLaw.of_work {touched : List Block} {s t : State} (law : TrackLaw s) (work : QuietWork touched s t)
    (untouched : apart [.edge, .track, .jam] touched = true := by rfl) :
    TrackLaw t := by
  have stands (b : Block) (read : b ∈ [Block.edge, .track, .jam]) : Same s t b := work.same b (not_mem_of_apart untouched b read)
  have sameEdge : t.edge = s.edge := stands .edge (by simp)
  have sameTrack : t.track = { s.track with stall := t.track.stall } := stands .track (by simp)
  refine law.edit (stands .jam (by simp)) (by rw [sameEdge]) ?_ ?_ ?_ ?_
  all_goals rw [sameTrack]
  exact law.gates

/-- A change of the read point that does not lengthen the FIFO. -/
theorem TrackLaw.setEdge {s : State} (law : TrackLaw s) {u : EdgeUnit} (fifo : u.fifo.length ≤ s.edge.fifo.length) :
    TrackLaw (s.setEdge u) :=
  law.edit Iff.rfl fifo le_rfl law.gates rfl rfl

/-- A change of the track that leaves its queues and gates. -/
theorem TrackLaw.setTrack {s : State} (law : TrackLaw s) {u : TrackUnit} (queue : u.queue = s.track.queue) (gates : u.gates = s.track.gates)
    (waiting : u.waiting = s.track.waiting) (losses : u.losses = s.track.losses) : TrackLaw (s.setTrack u) :=
  law.edit Iff.rfl le_rfl (by simp [queue]) (by simp [queue, gates, law.gates]) waiting losses

/-- A queue that is not longer, with its gates set after it. -/
theorem TrackLaw.setQueue {s : State} (law : TrackLaw s) {queue : List Entry} (shorter : queue.length ≤ s.track.queue.length) :
    TrackLaw (setQueue queue s) :=
  law.edit Iff.rfl le_rfl shorter rfl rfl rfl

theorem TrackLaw.removeEntry {s : State} (law : TrackLaw s) (e : Entry) : TrackLaw (removeEntry e s) :=
  law.setQueue List.length_erase_le

theorem TrackLaw.takeGateExpiries {s : State} (law : TrackLaw s) : TrackLaw (takeGateExpiries s) :=
  law.setQueue (by simp)

/-- An entry changed in place that holds its gates as before leaves the gates the queue asks for. -/
theorem gatesOf_updateFirst {p : Entry → Bool} {f : Entry → Entry} (holds : ∀ g e, (f e).holdsGate g = e.holdsGate g)
    (queue : List Entry) : gatesOf (updateFirst p f queue) = gatesOf queue := by
  have any (g : Gate) : (updateFirst p f queue).any (·.holdsGate g) = queue.any (·.holdsGate g) := by
    induction queue with
    | nil => rfl
    | cons e rest ih =>
      unfold updateFirst
      split
      · simp [holds]
      · simp [ih]
  simp [gatesOf, any]

theorem length_updateFirst {α : Type} (p : α → Bool) (f : α → α) (list : List α) : (updateFirst p f list).length = list.length := by
  induction list with
  | nil => rfl
  | cons x rest ih =>
    unfold updateFirst
    split
    · rfl
    · simp [ih]

theorem TrackLaw.updateAwaiting {s : State} (law : TrackLaw s) (seq : Byte) {f : Entry → Entry}
    (holds : ∀ g e, (f e).holdsGate g = e.holdsGate g) : TrackLaw (updateAwaiting seq f s) := by
  refine law.edit Iff.rfl le_rfl (length_updateFirst _ _ _).le ?_ rfl rfl
  exact law.gates.trans (gatesOf_updateFirst holds _).symm

/-! ### The entry into JAMMED -/

/-- Every item in flight and every held edge becomes a loss record, and nothing stays in either queue. -/
theorem enterJam_trackLaw {s : State} (cause : JamCause) (noLoss : s.track.losses = [])
    (room : (inFlightItems s).length + s.edge.fifo.length ≤ Config.lossCapacity) : TrackLaw (enterJam cause s) := by
  let lost := inFlightItems s
  let s2 := loseQueue (jamLine cause s)
  have taken : Work [.pocket, .group, .deposit] s2 (loseInDeposits lost (traceLosses lost (withdrawAll lost s2))) :=
    ((withdrawAll_work lost s2).trans (traceLosses_work (touched := []) lost _) : Work [.pocket, .group] s2 _).trans
      (loseInDeposits_work lost _)
  have reported : Work [] (loseEdges (loseInDeposits lost (traceLosses lost (withdrawAll lost s2)))) (enterJam cause s) :=
    ((bump_work (touched := []) _ _).trans (emit_work (touched := []) _ _) (touched := [])).trans (emit_work (touched := []) _ _)
  refine TrackLaw.of_work ?_ reported.toQuietWork
  generalize loseInDeposits lost (traceLosses lost (withdrawAll lost s2)) = s3 at taken
  have edge2 : s2.edge = s.edge := by simp only [s2, jamLine_eq]; rfl
  have edge : s3.edge = s.edge := Eq.trans (taken.stands .edge) edge2
  have track : s3.track = { s2.track with stall := s3.track.stall } := taken.stands .track
  have jammed : s3.line.state = .jammed := (taken.stands .jam).mpr (by simp only [s2, jamLine_eq]; rfl)
  have after : (loseEdges s3).track = { s2.track with
      stall := s3.track.stall, losses := s2.track.losses ++ s.edge.fifo.map edgeLoss } := by
    have listed : (loseEdges s3).track = { s3.track with losses := s3.track.losses ++ s3.edge.fifo.map edgeLoss } := rfl
    rw [listed, track, edge]
  have losses2 : s2.track.losses = lost.map (lossRecord (jamLine cause s)) := by
    have before : s2.track.losses = s.track.losses ++ lost.map (lossRecord (jamLine cause s)) := by
      simp only [s2, lost, jamLine_eq]; rfl
    rw [before, noLoss, List.nil_append]
  refine ⟨Nat.zero_le _, ?_, ?_, ?_, ?_, fun _ => ⟨?_, rfl⟩, fun notJammed => absurd jammed notJammed⟩
  all_goals rw [after]
  · exact Nat.zero_le _
  · simpa [losses2] using room
  all_goals rfl

theorem enterJam_jammed (cause : JamCause) (s : State) : (enterJam cause s).line.state = .jammed := by
  have after : Work [.pocket, .group, .deposit, .edge, .track] (jamLine cause s) (enterJam cause s) :=
    (((((loseQueue_work _).trans (withdrawAll_work _ _) (touched := [.pocket, .group, .deposit, .edge, .track])).trans
      (traceLosses_work (touched := []) _ _) (touched := [.pocket, .group, .deposit, .edge, .track])).trans (loseInDeposits_work _ _)
      (touched := [.pocket, .group, .deposit, .edge, .track])).trans (loseEdges_work _) (touched := [.pocket, .group, .deposit, .edge, .track])).trans
      (((bump_work (touched := []) _ _).trans (emit_work (touched := []) _ _) (touched := [])).trans (emit_work (touched := []) _ _) (touched := []))
  exact (after.stands .jam).mpr (by rw [jamLine_eq]; rfl)

theorem TrackLaw.handJam {s : State} (law : TrackLaw s) (cause : JamCause) : TrackLaw (handJam cause s) := by
  unfold Machine.handJam
  split
  · exact law
  case isFalse notJammed =>
    refine enterJam_trackLaw cause (law.lost notJammed) ?_
    have fifo := law.fifo
    have queue := law.queue
    simp only [inFlightItems, law.waiting, Option.toList, List.append_nil]
    simp only [Config.fifoCapacity, Config.trackCapacity, Config.lossCapacity] at *
    omega

/-! ### Items that enter -/

/-- An admission's end: the item's entry joins the queue, with the read point as it was, or the line jams. -/
theorem finishAdmission_trackLaw {s : State} (law : TrackLaw s) (notJammed : s.line.state ≠ .jammed)
    (popped : s.edge.fifo.length < Config.fifoCapacity) (i : Item) (disp : Disposition) (slot : Option SlotNo) :
    TrackLaw (finishAdmission i disp slot s) ∧
      ((finishAdmission i disp slot s).edge = s.edge ∨ (finishAdmission i disp slot s).line.state = .jammed) := by
  have attributed := (attributeItem_work slot i.edge.item disp.hit.isSome s).toQuietWork
  have law1 := law.of_work attributed
  have edge1 : (attributeItem slot i.edge.item disp.hit.isSome s).edge = s.edge := attributed.stands .edge
  have notJammed1 : (attributeItem slot i.edge.item disp.hit.isSome s).line.state ≠ .jammed :=
    mt (attributed.stands .jam).mp notJammed
  unfold finishAdmission
  generalize attributeItem slot i.edge.item disp.hit.isSome s = s1 at law1 edge1 notJammed1
  simp only [enterTrack]
  split
  case isTrue room =>
    refine ⟨⟨law1.fifo, by simpa using room, law1.losses, ?_, law1.waiting, fun jammed => absurd jammed notJammed1, law1.lost⟩, .inl edge1⟩
    have closed (g : Gate) : (makeEntry i disp slot s1).holdsGate g = false := by
      simp only [makeEntry, Entry.holdsGate]
      cases disp.dest <;> simp [divertWindow]
    have gates : gatesOf (s1.track.queue ++ [makeEntry i disp slot s1]) = gatesOf s1.track.queue := by
      simp [gatesOf, closed]
    exact law1.gates.trans gates.symm
  case isFalse =>
    have enters : handJam (.trackFull (makeEntry i disp slot s1).item) (s1.setTrack { s1.track with waiting := some (makeEntry i disp slot s1) }) =
        enterJam (.trackFull (makeEntry i disp slot s1).item) (s1.setTrack { s1.track with waiting := some (makeEntry i disp slot s1) }) :=
      if_neg notJammed1
    rw [enters]
    refine ⟨enterJam_trackLaw _ (law1.lost notJammed1) ?_, .inr (enterJam_jammed _ _)⟩
    have queue := law1.queue
    rw [← edge1] at popped
    simp only [inFlightItems, State.setTrack_track, State.setTrack_edge, Option.toList, List.length_append, List.length_singleton]
    simp only [Config.fifoCapacity, Config.trackCapacity, Config.lossCapacity] at *
    omega

/-- A held edge is held outside JAMMED alone. -/
theorem TrackLaw.notJammed_of_edge {s : State} (law : TrackLaw s) {e : HeldEdge} {rest : List HeldEdge} (held : s.edge.fifo = e :: rest) :
    s.line.state ≠ .jammed := by
  intro jammed
  have empty := (law.jammed jammed).2
  simp [empty] at held

/-- The oldest edge admitted, after a work that leaves the read point and the track. -/
theorem admission_trackLaw {touched : List Block} {s t : State} (law : TrackLaw s) {e : HeldEdge} {rest : List HeldEdge}
    (held : s.edge.fifo = e :: rest) (work : QuietWork touched (popEdge s) t) (i : Item) (disp : Disposition) (slot : Option SlotNo)
    (untouched : apart [.edge, .track, .jam] touched = true := by rfl) :
    TrackLaw (finishAdmission i disp slot t) ∧
      ((finishAdmission i disp slot t).edge.fifo = s.edge.fifo.tail ∨ (finishAdmission i disp slot t).line.state = .jammed) := by
  have notJammed := law.notJammed_of_edge held
  have popped : TrackLaw (popEdge s) := law.setEdge (by simp)
  have stands (b : Block) (read : b ∈ [Block.edge, .track, .jam]) : Same (popEdge s) t b := work.same b (not_mem_of_apart untouched b read)
  have fifo : t.edge.fifo = s.edge.fifo.tail := congrArg EdgeUnit.fifo (stands .edge (by simp))
  have shorter : t.edge.fifo.length < Config.fifoCapacity := by
    have full := law.fifo
    rw [fifo, held]
    rw [held, List.length_cons] at full
    simpa using full
  obtain ⟨kept, same | jammed⟩ := finishAdmission_trackLaw (popped.of_work work untouched)
    (mt (stands .jam (by simp)).mp notJammed) shorter i disp slot
  · exact ⟨kept, .inl (by rw [same, fifo])⟩
  · exact ⟨kept, .inr jammed⟩

theorem admitUnread_trackLaw {s : State} (law : TrackLaw s) :
    TrackLaw (admitUnread s) ∧ ((admitUnread s).edge.fifo = s.edge.fifo.tail ∨ (admitUnread s).line.state = .jammed) := by
  unfold admitUnread
  split
  case h_1 empty => exact ⟨law, .inl (by simp [empty])⟩
  case h_2 e rest held => exact admission_trackLaw law held (.refl (touched := []) _) _ _ _

theorem admitUnreads_trackLaw (n : Nat) {s : State} (law : TrackLaw s) : TrackLaw (admitUnreads n s) := by
  induction n generalizing s with
  | zero => exact law
  | succ n ih => exact ih (admitUnread_trackLaw law).1

theorem admitNote_trackLaw {s : State} (law : TrackLaw s) {e : HeldEdge} {rest : List HeldEdge} (held : s.edge.fifo = e :: rest)
    (r : NoteRecord) : TrackLaw (admitNote e r s) :=
  (admission_trackLaw law held (decision_work e r _).toQuietWork _ _ _).1

theorem admitCard_trackLaw {s : State} (law : TrackLaw s) {e : HeldEdge} {rest : List HeldEdge} (held : s.edge.fifo = e :: rest)
    (r : SeparatorRecord) : TrackLaw (admitCard e r s) :=
  (admission_trackLaw law held (takeSeparator_work r e.item false _).toQuietWork _ _ _).1

/-- A late record leaves its entry's destination and divert window. -/
theorem holdsGate_takeLate (cls : Option NoteClass) (denom : Option Denom) (serial : Option Serial) (caseRef : Option Word) (g : Gate)
    (e : Entry) : (e.takeLate cls denom serial caseRef).holdsGate g = e.holdsGate g := rfl

theorem applyLateNote_trackLaw {s : State} (law : TrackLaw s) (e : Entry) (r : NoteRecord) : TrackLaw (applyLateNote e r s) := by
  have take (caseRef : Option Word) {s : State} (law : TrackLaw s) :
      TrackLaw (updateAwaiting r.seq (·.takeLate (some r.cls) (r.code.map (·.1)) r.serial caseRef) s) :=
    law.updateAwaiting _ (holdsGate_takeLate _ _ _ _)
  simp only [applyLateNote]
  split
  · exact take none law
  · split
    case h_1 s1 missed => exact take none (law.of_work (lookup_found_work missed).toQuietWork)
    case h_2 s1 w found =>
      exact ((take _ (law.of_work (lookup_found_work found).toQuietWork)).of_work (modifySlot_work e.slot _ _).toQuietWork).of_work
        (emit_work (touched := []) _ _).toQuietWork

theorem applyLateSeparator_trackLaw {s : State} (law : TrackLaw s) (e : Entry) (r : SeparatorRecord) :
    TrackLaw (applyLateSeparator e r s) :=
  (law.updateAwaiting _ (holdsGate_takeLate _ _ _ _)).of_work (takeSeparator_work r e.item true _).toQuietWork

/-! ### Items that leave -/

theorem takeArrival_trackLaw (p : Fin 16) {s : State} (law : TrackLaw s) : TrackLaw (takeArrival p s) := by
  have drained {s : State} (law : TrackLaw s) : TrackLaw (drainEnd s) := law.of_work (drainEnd_work (touched := []) s).toQuietWork
  unfold takeArrival
  split
  case h_1 =>
    have counted : TrackLaw (bump .strayArrivals s) := law.of_work (bump_work (touched := []) _ s).toQuietWork
    simp only [strayArrival]
    split
    case h_4 | h_5 => exact counted
    all_goals exact (counted.of_work (recountMark_work _ _).toQuietWork).handJam _
  case h_2 e _ =>
    have removed := law.removeEntry e
    split
    · exact drained ((removed.of_work (confirmAt_work e _).toQuietWork).of_work (closeItem_work _ _ _ _ _).toQuietWork)
    · exact drained ((removed.of_work (recountMark_work _ _).toQuietWork).of_work (closeItem_work _ _ _ _ _).toQuietWork)

theorem declareMissing_trackLaw (e : Entry) {s : State} (law : TrackLaw s) : TrackLaw (declareMissing e s) := by
  have withdrawn {s : State} (law : TrackLaw s) : TrackLaw (match e.dest with
      | .gated g => withdrawAt g 1 s
      | .runOut => s) := by
    split
    · exact law.of_work (withdrawAt_work _ 1 s).toQuietWork
    · exact law
  exact (withdrawn (law.removeEntry e)).of_work (closeItem_work _ _ _ _ _).toQuietWork

theorem takeArrivalEnds_trackLaw {s : State} (law : TrackLaw s) : TrackLaw (takeArrivalEnds s) := by
  have declared (list : List Entry) {s : State} (law : TrackLaw s) : TrackLaw (list.foldl (fun s e => declareMissing e s) s) := by
    induction list generalizing s with
    | nil => exact law
    | cons e rest ih => exact ih (declareMissing_trackLaw e law)
  unfold takeArrivalEnds
  split
  case h_2 => exact declared _ law
  case h_3 | h_4 | h_5 => exact law.handJam _
  all_goals exact law

/-! ### Commands -/

theorem leadingEdge_trackLaw {s t : State} (law : TrackLaw s) (next : exec .leadingEdge s = .next t) : TrackLaw t := by
  have numbered {s : State} (law : TrackLaw s) : TrackLaw (stepItemNumber s) :=
    law.edit Iff.rfl le_rfl le_rfl law.gates rfl rfl
  have room : TrackLaw (if s.line.state = .jammed then s else makeRoom s) ∧
      ((if s.line.state = .jammed then s else makeRoom s).edge.fifo.length < Config.fifoCapacity ∨
        (if s.line.state = .jammed then s else makeRoom s).line.state = .jammed) := by
    split
    case isTrue jammed => exact ⟨law, .inr jammed⟩
    case isFalse =>
      unfold makeRoom
      split
      case isTrue =>
        obtain ⟨kept, shorter | jammed⟩ := admitUnread_trackLaw law
        · refine ⟨kept, .inl ?_⟩
          have full := law.fifo
          rw [shorter, List.length_tail]
          simp only [Config.fifoCapacity] at *
          omega
        · exact ⟨kept, .inr jammed⟩
      case isFalse notFull => exact ⟨law, .inl (by omega)⟩
  obtain rfl := Host.Outcome.next.inj next
  clear next
  split
  · exact law
  simp only
  generalize (if s.line.state = .jammed then s else makeRoom s) = s1 at room
  obtain ⟨law1, shorter⟩ := room
  split
  case isTrue => exact (numbered law1).of_work (bump_work (touched := []) _ _).toQuietWork
  case isFalse notJammed =>
    refine numbered ⟨?_, law1.queue, law1.losses, law1.gates, law1.waiting, fun jammed => absurd jammed notJammed, law1.lost⟩
    simpa using shorter.resolve_right notJammed

theorem stallExpiry_trackLaw {s : State} (law : TrackLaw s) :
    TrackLaw (if s.track.stall.isSome then handJam .stall (stopStall s) else s) := by
  split
  · have stopped : TrackLaw (stopStall s) := law.setTrack rfl rfl rfl rfl
    exact stopped.handJam _
  · exact law

theorem length_endYoungest (last : Option Word) (position : Pos) (fifo : List HeldEdge) :
    (endYoungest last position fifo).length = fifo.length := by
  induction fifo using List.reverseRecOn with
  | nil => rfl
  | append_singleton older e _ =>
    by_cases isOpen : last = some e.item ∧ e.trail = none
    · simp [endYoungest_concat_of_open position older isOpen.1 isOpen.2]
    · rw [endYoungest_concat_of_closed position older (not_and_or.mp isOpen)]

/-- A line that has come to IDLE with both queues and the Loss List empty. -/
theorem trackLaw_of_empty {s : State} (fifo : s.edge.fifo = []) (queue : s.track.queue = []) (gates : s.track.gates = gatesOf [])
    (waiting : s.track.waiting = none) (losses : s.track.losses = []) : TrackLaw s :=
  ⟨by simp [fifo], by simp [queue], by simp [losses], by rw [gates, queue], waiting, fun _ => ⟨queue, fifo⟩, fun _ => losses⟩

theorem recoverLine_trackLaw {s : State} (next : Byte) (law : TrackLaw s) (jammed : s.line.state = .jammed) :
    TrackLaw (recoverLine next s) := by
  obtain ⟨noEntry, noEdge⟩ := law.jammed jammed
  let s1 := setSequence next (dropLosses (hand (recoveryReport next s) s))
  have handed := hand_reportWork (recoveryReport next s) s
  have track : s1.track = { s.track with losses := [] } := by
    simp only [s1, setSequence, dropLosses, State.setEdge_track, State.setTrack_track]
    rw [handed.only]
    rfl
  have fifo : s1.edge.fifo = [] := by
    simp only [s1, setSequence, dropLosses, State.setEdge_edge, State.setTrack_edge]
    rw [handed.only]
    exact noEdge
  have idle : QuietWork [.jam] s1 (changeLine .idle none .recover none (dropJam (dropHeld s1))) := changeToIdle_quietWork _ _ s1
  refine TrackLaw.of_work ?_ (closeAfterRecovery_work _).toQuietWork
  have sameTrack := idle.stands .track
  have sameEdge := idle.stands .edge
  simp only [Same, track] at sameTrack sameEdge
  refine trackLaw_of_empty (by rw [sameEdge, fifo]) ?_ ?_ ?_ ?_
  all_goals rw [sameTrack]
  · exact noEntry
  · exact law.gates.trans (by rw [noEntry])
  · exact law.waiting

/-- A jam in force dropped and a line brought to IDLE leave queues that are empty. -/
theorem resetLine_trackLaw (s : State) : TrackLaw (resetLine s) := by
  let cleared := setQueue [] (dropLosses ((s.setEdge { s.edge with fifo := [], gap := none }).setTrack { s.track with waiting := none }))
  have units : QuietWork [.pocket, .group, .deposit] cleared (resetDeposits (resetGroups (resetPockets (resetItems s)))) := by
    have deposits (s : State) : Work [.deposit] s (resetDeposits s) :=
      (setDeposit_work s _).trans (endCause_work (touched := []) (by simp) _)
    exact (((discardItems_quietWork (discardedItems s) cleared).trans (resetPockets_work _).toQuietWork (touched := [.pocket])).trans
      (resetGroups_work _).toQuietWork (touched := [.pocket, .group])).trans (deposits _).toQuietWork
  have law (t : State) (work : QuietWork [.pocket, .group, .deposit, .jam] cleared t) : TrackLaw t := by
    have edge : t.edge = cleared.edge := work.stands .edge
    have track : t.track = { cleared.track with stall := t.track.stall } := work.stands .track
    refine trackLaw_of_empty (by rw [edge]; rfl) ?_ ?_ ?_ ?_
    all_goals
      rw [track]
      rfl
  simp only [resetLine]
  split
  · exact law _ (units.trans (enterIdle_quietWork _))
  · exact law _ (units.trans (changeToIdle_quietWork _ _ _))

/-- A start of the line leaves the FIFO. -/
theorem TrackLaw.start {s : State} (law : TrackLaw s) (idle : s.line.state = .idle) (noCause : s.line.causes = CauseSet.empty) :
    TrackLaw (changeLine .run none .lineStart none s) := by
  have started := lineStart_quietWork idle noCause
  have sameTrack : (changeLine .run none .lineStart none s).track = _ := started.stands .track
  have fifo : (changeLine .run none .lineStart none s).edge.fifo = s.edge.fifo := by
    simp only [changeLine]
    rw [hand_eq]
    simp [enterLine, idle]
  refine law.edit (started.stands .jam) (by rw [fifo]) ?_ ?_ ?_ ?_
  all_goals rw [sameTrack]
  exact law.gates

theorem trackLaw_of_exec {i : Instr} {s t : State} (notByte : ∀ b faulted, i ≠ .feedByte b faulted) (next : exec i s = .next t)
    (law : TrackLaw s) : TrackLaw t := by
  have reports {s t : State} (work : QuietWork [] s t) (law : TrackLaw s) : TrackLaw t := law.of_work work
  have parameter {checks : List (Bool × RefusalReason)} {tag : Byte} {write : State → State}
      (keeps : ∀ s, TrackLaw s → TrackLaw (write s)) : TrackLaw (setParam tag checks write s) :=
    request_keeps reports (fun _ => keeps _) law
  by_cases untouched : apart [.edge, .track, .jam] (touches i) = true
  · exact law.of_work (work_of_exec next).toQuietWork untouched
  cases i
  case feedByte b faulted => exact absurd rfl (notByte b faulted)
  case leadingEdge => exact leadingEdge_trackLaw law next
  all_goals try obtain rfl := Host.Outcome.next.inj next
  case noteRecord r =>
    exact takeRecord_keeps reports (fun law => (admitUnread_trackLaw law).1) (fun law held => admitNote_trackLaw law held r)
      (fun e _ => applyLateNote_trackLaw law e r) law
  case separatorRecord r =>
    exact takeRecord_keeps reports (fun law => (admitUnread_trackLaw law).1) (fun law held => admitCard_trackLaw law held r)
      (fun e _ => applyLateSeparator_trackLaw law e r) law
  case setParamGapMin | setParamStallTime | setParamStartTime | setParamTraceAll | setParamTraceRejects =>
    exact parameter fun s law => law.setTrack rfl rfl rfl rfl
  case setGeometry => exact request_keeps reports (fun _ law => law.setTrack rfl rfl rfl rfl) law
  case divertWindowOpen | divertWindowClose => exact law.takeGateExpiries
  case sync => exact request_keeps reports (fun _ law => law.setEdge le_rfl) law
  case lineStart tag =>
    refine lineRequest_keeps reports (fun passed law => ?_) law
    obtain ⟨⟨idle, -⟩, noCause⟩ : (s.line.state = .idle ∧ s.track.loaded = true) ∧ s.line.causes = CauseSet.empty := by
      simpa [CauseSet.isEmpty_iff] using passed
    have line : (hand (.answer tag 0x50 none .none) s).line = s.line := by rw [hand_eq]; rfl
    exact law.start (by rw [line, idle]) (by rw [line, noCause])
  case trailingEdge => exact law.setEdge (length_endYoungest _ _ _).le
  case recover tag sequence =>
    refine lineRequest_keeps reports (fun passed law => recoverLine_trackLaw sequence law ?_) law
    have jammed : s.line.state = .jammed := by simpa using passed
    rwa [hand_eq]
  case lineReset => exact lineRequest_keeps reports (fun _ _ => resetLine_trackLaw _) law
  case encEdge =>
    have taken := takeArrivalEnds_trackLaw (s := takeDeadlines (takeGateExpiries s)) (admitUnreads_trackLaw _ law.takeGateExpiries)
    exact taken.edit Iff.rfl le_rfl le_rfl taken.gates rfl rfl
  case admissionDeadline => exact admitUnreads_trackLaw _ law
  case arrivalWindowEnd => exact takeArrivalEnds_trackLaw law
  case stallTimerExpiry => exact stallExpiry_trackLaw law
  case arrivalPulse p => exact takeArrival_trackLaw p law
  case hardReset => exact trackLaw_of_empty rfl rfl rfl rfl rfl
  all_goals exact absurd rfl untouched

/-- Settles O57: the law of the Report Unit by every command's work, the law of the track command by command. -/
theorem trackAndReportLawsKept : Obligations.TrackAndReportLawsKept := fun _ _ track report stepped =>
  ⟨step_keeps (fun _ _ law => law.edit Iff.rfl le_rfl le_rfl law.gates rfl rfl) (fun _ _ work law => law.of_work work.toQuietWork)
    (fun _ _ _ notByte next => trackLaw_of_exec notByte next) stepped track, reportLaw_step stepped report⟩

end Sys2Proof.Machine
end

section
/-! SUPPORT. The law of the route table, which every step keeps: every object in one list at most and once, and no object outside ACTIVE
spent. -/

set_option Elab.async false

namespace Sys2Proof.Machine

/-! ### Edits of the route table -/

theorem RouteLaw.of_work {touched : List Block} {s t : State} (law : RouteLaw s) (work : QuietWork touched s t)
    (untouched : apart [.route] touched = true := by rfl) : RouteLaw t := by
  have route : t.route = s.route := work.stands .route untouched
  obtain ⟨lists, spent⟩ := law
  refine ⟨by rwa [route], fun k isSpent => ?_⟩
  rw [objectAt, route] at isSpent
  rw [route]
  exact spent k isSpent

/-- Lists without repetition whose spent objects stand in ACTIVE. -/
theorem RouteLaw.setRoute {s : State} {u : RouteUnit} (lists : (u.active ++ u.standby).Nodup)
    (spent : ∀ k : ObjectNo, u.objects[k].spent = true → k ∈ u.active) : RouteLaw (s.setRoute u) := ⟨lists, spent⟩

theorem objectAt_putObject (j k : ObjectNo) (o : RouteObject) (s : State) :
    objectAt j (putObject k o s) = if k = j then o else objectAt j s := by
  simp only [objectAt, putObject, State.setRoute_route, Fin.getElem_fin, Vector.getElem_set, Fin.ext_iff]

/-- An object replaced by one that is spent only where the object stands in ACTIVE. -/
theorem RouteLaw.putObject {s : State} (law : RouteLaw s) {k : ObjectNo} {o : RouteObject} (fits : o.spent = true → k ∈ s.route.active) :
    RouteLaw (putObject k o s) := by
  refine ⟨law.lists, fun j isSpent => ?_⟩
  rw [objectAt_putObject] at isSpent
  split at isSpent
  case isTrue same => exact same ▸ fits isSpent
  case isFalse => exact law.spent j isSpent

theorem RouteLaw.writeObject {s : State} (law : RouteLaw s) (a : RouteArgs) (k : ObjectNo) : RouteLaw (writeObject a k s) := by
  refine law.putObject fun isSpent => ?_
  split at isSpent
  case isTrue => simp [RouteObject.armed] at isSpent
  case isFalse => exact law.spent k isSpent

/-- An object of neither list put at a place of a list leaves the lists without repetition. -/
theorem placeInList_perm (list : List ObjectNo) (k : ObjectNo) (position : Nat) : (placeInList list k position).Perm (k :: list) := by
  rw [placeInList]
  exact List.perm_middle.trans (by rw [List.take_append_drop])

theorem RouteLaw.linkObject {s : State} (law : RouteLaw s) {k : ObjectNo} (free : isFree k s = true) (list position : Byte) :
    RouteLaw (linkObject list position k s) := by
  obtain ⟨notActive, notStandby⟩ := (isFree_iff k s).mp free
  have joined : (k :: (s.route.active ++ s.route.standby)).Nodup :=
    List.nodup_cons.mpr ⟨by simp [notActive, notStandby], law.lists⟩
  unfold Machine.linkObject
  split
  case isTrue =>
    have armed : RouteLaw (Machine.putObject k (objectAt k s).armed s) := law.putObject (by simp [RouteObject.armed])
    refine .setRoute ?_ fun j isSpent => ?_
    · exact (((placeInList_perm s.route.active k _).append_right s.route.standby).nodup_iff).mpr joined
    · exact (placeInList_perm s.route.active k _).mem_iff.mpr (List.mem_cons_of_mem _ (armed.spent j isSpent))
  case isFalse =>
    refine .setRoute ?_ law.spent
    exact (((placeInList_perm s.route.standby k _).append_left s.route.active).trans List.perm_middle).nodup_iff.mpr joined

theorem RouteLaw.unlinkObject {s : State} (law : RouteLaw s) (k : ObjectNo) : RouteLaw (unlinkObject k s) := by
  have nodup := law.lists
  unfold Machine.unlinkObject
  split
  case isTrue =>
    refine .setRoute (nodup.sublist ((List.erase_sublist).append_right _)) fun j isSpent => ?_
    change (objectAt j (Machine.putObject k (objectAt k s).retired s)).spent = true at isSpent
    rw [objectAt_putObject] at isSpent
    split at isSpent
    case isTrue => simp [RouteObject.retired] at isSpent
    case isFalse other => exact (List.mem_erase_of_ne (Ne.symm other)).mpr (law.spent j isSpent)
  case isFalse => exact .setRoute (nodup.sublist ((List.erase_sublist).append_left _)) law.spent

theorem RouteLaw.exchange {s : State} (law : RouteLaw s) : RouteLaw (exchange s) := by
  refine .setRoute (List.perm_append_comm.nodup_iff.mp law.lists) fun k isSpent => ?_
  simp only [Fin.getElem_fin, Vector.getElem_ofFn, Fin.eta] at isSpent
  split at isSpent
  · simp [RouteObject.armed] at isSpent
  · split at isSpent
    · simp [RouteObject.retired] at isSpent
    case isFalse notActive =>
      exact absurd (law.spent k isSpent) (by simpa using notActive)

theorem RouteLaw.setPending {s : State} (law : RouteLaw s) (isPending : Bool) :
    RouteLaw (s.setRoute { s.route with swapPending := isPending }) := ⟨law.lists, law.spent⟩

theorem RouteLaw.emit {s : State} (law : RouteLaw s) (r : Report) : RouteLaw (emit r s) :=
  law.of_work (emit_work (touched := []) r s).toQuietWork

theorem RouteLaw.swap {s : State} (law : RouteLaw s) (idle : Bool) : RouteLaw (swap idle s) := by
  unfold Machine.swap
  split
  · exact law.exchange.emit _
  · exact law.setPending true

/-! ### Admissions and boundaries -/

/-- A quota is spent of an object in ACTIVE alone. -/
theorem RouteLaw.spendQuota {s : State} (law : RouteLaw s) {k : ObjectNo} (active : k ∈ s.route.active) (item : Word) :
    RouteLaw (spendQuota k item s) := by
  simp only [Machine.spendQuota]
  split
  · exact law
  · split
    · exact (law.putObject fun _ => active).emit _
    · exact law.putObject fun _ => active

/-- The winner's quota after a commitment that leaves the route table. -/
theorem RouteLaw.spendWinner {s t : State} (law : RouteLaw s) {r : NoteRecord} {k : ObjectNo} (won : winner r s = some k)
    {touched : List Block} (work : QuietWork touched s t) (item : Word) (untouched : apart [.route] touched = true := by rfl) :
    RouteLaw (Machine.spendQuota k item t) := by
  have route : t.route = s.route := work.stands .route untouched
  exact (law.of_work work untouched).spendQuota (by rw [route]; exact (of_winner_eq_some won).1.1) item

theorem RouteLaw.decideRoute {s : State} (law : RouteLaw s) (e : HeldEdge) (r : NoteRecord) : RouteLaw (decideRoute e r s).1 := by
  unfold Machine.decideRoute
  split
  case h_1 => exact law
  case h_2 k won =>
    simp only
    split
    · exact law.spendWinner won (.refl (touched := []) s) _
    · split
      · exact law
      · split
        · exact law
        · exact law.spendWinner won (commitQuarantine_work _ s).toQuietWork _
    · split
      · exact law
      · split
        · exact law.of_work (overflowAction_work (touched := []) _ s).toQuietWork
        · split
          · exact law
          · exact law.spendWinner won (commitMember_work _ _ _ _ s).toQuietWork _

/-- A hit leaves the route table. -/
theorem decideWatch_route (e : HeldEdge) (serial : Serial) (denom : Option Denom) (w : WatchEntry) (s : State) :
    QuietWork [.pocket] s (decideWatch e serial denom w s).1 := by
  simp only [decideWatch]
  split
  · exact (emit_work _ s).toQuietWork
  · split
    · exact (emit_work _ s).toQuietWork
    · exact ((commitQuarantine_work _ s).trans (emit_work (touched := []) _ _) (touched := [.pocket])).toQuietWork

theorem RouteLaw.decision {s : State} (law : RouteLaw s) (e : HeldEdge) (r : NoteRecord) : RouteLaw (decision e r s).1 := by
  unfold Machine.decision
  split
  · exact law
  · split
    · exact law
    · split
      · exact law.decideRoute e r
      · split
        case h_1 s1 w found =>
          exact (law.of_work (lookup_found_work found).toQuietWork).of_work (decideWatch_route e _ _ w s1)
        case h_2 s1 missed => exact (law.of_work (lookup_found_work missed).toQuietWork).decideRoute e r

theorem RouteLaw.swapAtBoundary {s : State} (law : RouteLaw s) (cardItem : Word) (depositId : Option Word) :
    RouteLaw (swapAtBoundary cardItem depositId s) := by
  unfold Machine.swapAtBoundary
  split
  · exact (law.exchange.setPending false).emit _
  · exact law

/-- The deposit that was OPEN ends without a change of the route table. -/
theorem endOpen_route (d : Option Deposit) (test : Bool) (s : State) : QuietWork [.deposit, .pocket, .group] s (endOpen d test s) := by
  have closed : Work [.deposit, .pocket, .group] s _ := (modifySlot_work (d.map (·.slot)) (fun d => { d with state := .closing }) s).trans
    (closePure_work (.ofId (d.map (·.id))) _)
  simp only [endOpen]
  split
  · split
    · exact (closed.trans (testClose_work _ _ _) (touched := [.deposit, .pocket, .group])).toQuietWork
    · exact closed.toQuietWork
  · exact closed.toQuietWork

theorem RouteLaw.takeSeparator {s : State} (law : RouteLaw s) (r : SeparatorRecord) (item : Word) (late : Bool) :
    RouteLaw (takeSeparator r item late s).1 := by
  have ended := law.of_work (endOpen_route (openDeposit s) (!r.endFlag || late) s)
  simp only [Machine.takeSeparator]
  split
  · exact law.of_work (bump_work (touched := []) _ s).toQuietWork
  · split
    · exact law.of_work (loseBoundary_work false r item s).toQuietWork
    · split
      · exact law.of_work (loseBoundary_work true r item s).toQuietWork
      · simp only [takeBoundary]
        split
        · exact ended.swapAtBoundary _ _
        · split
          · exact (ended.of_work (setDeposit_work _ _).toQuietWork).swapAtBoundary _ _
          · exact ended

theorem RouteLaw.popEdge {s : State} (law : RouteLaw s) : RouteLaw (popEdge s) := law.of_work (popEdge_work s).toQuietWork

theorem routeLaw_of_exec {i : Instr} {s t : State} (notByte : ∀ b faulted, i ≠ .feedByte b faulted) (next : exec i s = .next t)
    (law : RouteLaw s) : RouteLaw t := by
  have reports {s t : State} (work : QuietWork [] s t) (law : RouteLaw s) : RouteLaw t := law.of_work work
  have unread {s : State} (law : RouteLaw s) : RouteLaw (admitUnread s) := law.of_work (admitUnread_work s).toQuietWork
  have entered (i : Item) (disp : Disposition) (slot : Option SlotNo) {s : State} (law : RouteLaw s) :
      RouteLaw (finishAdmission i disp slot s) := law.of_work (finishAdmission_work i disp slot s).toQuietWork
  by_cases untouched : apart [.route] (touches i) = true
  · exact law.of_work (work_of_exec next).toQuietWork untouched
  cases i
  case feedByte b faulted => exact absurd rfl (notByte b faulted)
  all_goals try obtain rfl := Host.Outcome.next.inj next
  case noteRecord r =>
    exact takeRecord_keeps reports unread (fun {s e rest} law held => entered _ _ _ (law.popEdge.decision e r))
      (fun e _ => law.of_work (applyLateNote_work e r s).toQuietWork) law
  case separatorRecord r =>
    exact takeRecord_keeps reports unread (fun {s e rest} law held => entered _ _ _ (law.popEdge.takeSeparator r e.item false))
      (fun e _ => (law.of_work (updateAwaiting_work r.seq _ s).toQuietWork).takeSeparator r e.item true) law
  case setParamLengthMin | setParamLengthMax => exact request_keeps reports (fun _ law => ⟨law.lists, law.spent⟩) law
  case routeWrite tag index a =>
    refine request_keeps reports (fun _ law => ?_) law
    unfold onObject
    split
    · exact law
    · exact law.writeObject a _
  case routeLink tag index list position =>
    refine request_keeps reports (fun passed law => ?_) law
    unfold onObject
    split
    · exact law
    case h_2 k named =>
      refine law.linkObject ?_ list position
      have free : isFree k s = true := by
        have check := passed (!isFree k s, .state) (by simp [objectChecks, named])
        simpa using check
      simpa only [isFree, answer_route] using free
  case routeUnlink tag index =>
    refine request_keeps reports (fun _ law => ?_) law
    unfold onObject
    split
    · exact law
    · exact law.unlinkObject _
  case routeSwap tag => exact request_keeps reports (fun _ law => law.swap _) law
  case hardReset => exact ⟨routeLaw_reset.lists, routeLaw_reset.spent⟩
  all_goals exact absurd rfl untouched

end Sys2Proof.Machine
end

section
/-! SUPPORT. The law of the watch list, which every step keeps: the index in canonical form, and every cell the count of the entries that
index to it. -/

set_option Elab.async false

namespace Sys2Proof.Machine

theorem WatchLaw.of_work {touched : List Block} {s t : State} (law : WatchLaw s) (work : QuietWork touched s t)
    (untouched : apart [.watch] touched = true := by rfl) : WatchLaw t := by
  have watch : t.watch = s.watch := work.stands .watch untouched
  obtain ⟨capacity, pairs, canonical, exact_⟩ := law
  exact ⟨by rwa [watch], by rwa [watch], by rwa [watch], by rwa [watch]⟩

/-- The entries that a serial and an optional denomination name are those of that pair. -/
theorem WatchEntry.named_iff_pair (e : WatchEntry) (serial : Serial) (denom : Option Denom) :
    e.named serial denom = true ↔ (e.serial, e.denom) = (serial, denom) := by
  rw [WatchEntry.named_iff, Prod.mk.injEq]

/-- A new pair joins a list with room, and its cell, below its largest value, goes up. -/
theorem WatchLaw.addWatch {s : State} (law : WatchLaw s) {e : WatchEntry} (room : s.watch.list.length < Config.watchCapacity)
    (new : watched e.serial e.denom s = false) (below : s.watch.index.read (cellOf e.serial) ≠ 255) : WatchLaw (addWatch e s) := by
  rw [watched_eq_false_iff] at new
  refine ⟨by simpa [Machine.addWatch] using room, ?pairs, Memory.wf_write _ _ _ law.canonical, fun cell => ?exact_⟩
  case pairs =>
    simp only [Machine.addWatch, State.setWatch_watch, List.map_append, List.map_cons, List.map_nil]
    rw [← List.concat_eq_append, List.nodup_concat]
    refine ⟨fun held => ?_, law.pairs⟩
    obtain ⟨x, inList, same⟩ := List.mem_map.mp held
    exact new x inList ((x.named_iff_pair _ _).mpr same)
  case exact_ =>
    simp only [Machine.addWatch, State.setWatch_watch, Memory.read_write _ _ _ _ law.canonical, List.countP_append, List.countP_singleton]
    split
    case isTrue same =>
      subst same
      have up : (s.watch.index.read (cellOf e.serial) + 1).toNat = (s.watch.index.read (cellOf e.serial)).toNat + 1 := by
        bv_omega
      rw [up, law.exact]
      simp
    case isFalse other => simp [law.exact, other]

/-- The entry named leaves the list, and its cell, above 0, goes down. -/
theorem WatchLaw.removeWatch {s : State} (law : WatchLaw s) {serial : Serial} {denom : Option Denom}
    (held : watched serial denom s = true) : WatchLaw (removeWatch serial denom s) := by
  obtain ⟨x, inList, isNamed⟩ := (watched_iff _ _ s).mp held
  have shorter : (s.watch.list.eraseP (·.named serial denom)).Sublist s.watch.list := List.eraseP_sublist
  refine ⟨shorter.length_le.trans law.capacity, law.pairs.sublist (shorter.map _), Memory.wf_write _ _ _ law.canonical, fun cell => ?_⟩
  obtain ⟨e, older, newer, noOlder, named, list, rest⟩ := List.exists_of_eraseP (p := (·.named serial denom)) inList isNamed
  obtain ⟨rfl, rfl⟩ := (e.named_iff _ _).mp named
  have count := law.exact cell
  simp only [Machine.removeWatch, State.setWatch_watch, Memory.read_write _ _ _ _ law.canonical, rest]
  rw [list] at count
  simp only [List.countP_append, List.countP_cons] at count ⊢
  split
  case isTrue same =>
    subst same
    simp only [beq_self_eq_true, if_true] at count
    have down : (s.watch.index.read (cellOf e.serial) - 1).toNat = (s.watch.index.read (cellOf e.serial)).toNat - 1 := by
      bv_omega
    omega
  case isFalse other => simpa [other] using count

theorem watchLaw_of_exec {i : Instr} {s t : State} (notByte : ∀ b faulted, i ≠ .feedByte b faulted) (next : exec i s = .next t)
    (law : WatchLaw s) : WatchLaw t := by
  have reports {s t : State} (work : QuietWork [] s t) (law : WatchLaw s) : WatchLaw t := law.of_work work
  by_cases untouched : apart [.watch] (touches i) = true
  · exact law.of_work (work_of_exec next).toQuietWork untouched
  cases i
  case feedByte b faulted => exact absurd rfl (notByte b faulted)
  all_goals try obtain rfl := Host.Outcome.next.inj next
  case watchAdd tag denom caseRef serial =>
    refine request_keeps reports (fun passed law => ?_) law
    obtain ⟨-, -, new, room, below⟩ : serialFormatFaulty serial = false ∧ (serialLengthFaulty serial || denomFaulty denom) = false ∧
        watched serial (denomOfByte denom) s = false ∧ s.watch.list.length < Config.watchCapacity ∧
        s.watch.index.read (cellOf serial) ≠ 255 := by
      simpa using passed
    refine law.addWatch ?_ ?_ ?_
    · rwa [answer_watch]
    · simpa only [watched, answer_watch] using new
    · rwa [answer_watch]
  case watchRemove tag denom serial =>
    refine request_keeps reports (fun passed law => law.removeWatch ?_) law
    have held : watched serial (denomOfByte denom) s = true := by
      simpa using passed (!watched serial (denomOfByte denom) s, .notFound) (by simp)
    simpa only [watched, answer_watch] using held
  case watchClear tag => exact request_keeps reports (fun _ _ => ⟨Nat.zero_le _, List.nodup_nil, rfl, fun _ => rfl⟩) law
  case hardReset => exact ⟨watchLaw_reset.capacity, watchLaw_reset.pairs, watchLaw_reset.canonical, watchLaw_reset.exact⟩
  all_goals exact absurd rfl untouched

/-- Settles O58, table by table and command by command. -/
theorem tableLawsKept : Obligations.TableLawsKept := fun _ _ route watch stepped =>
  ⟨step_keeps (fun _ _ law => ⟨law.lists, law.spent⟩) (fun _ _ work law => law.of_work work.toQuietWork)
    (fun _ _ _ notByte next => routeLaw_of_exec notByte next) stepped route,
   step_keeps (fun _ _ law => ⟨law.capacity, law.pairs, law.canonical, law.exact⟩) (fun _ _ work law => law.of_work work.toQuietWork)
    (fun _ _ _ notByte next => watchLaw_of_exec notByte next) stepped watch⟩

end Sys2Proof.Machine
end

section
/-! SUPPORT. The law of deposits, which every step keeps: every in-flight count the number of items attributed to its deposit, wherever
those items stand, and every declaration bound exactly when its deposit is held. -/

set_option Elab.async false

namespace Sys2Proof.Machine

/-! ### The law of a Deposit Unit and the items in flight -/

/-- What DepositLaw says of a Deposit Unit and the Track Queue, of any items in flight: an item between two works stands in no queue. -/
structure DepositHolds (u : DepositUnit) (items : List Entry) : Prop where
  /-- slots (R148) -/
  slots : (u.deposits.map (·.slot)).Nodup
  /-- ids (R148) -/
  ids : (u.deposits.map (·.id)).Nodup
  /-- at most one OPEN (R148) -/
  open_ : (u.deposits.countP fun d => d.state == .openState) ≤ 1
  /-- in-flight counts (R148) -/
  inFlight : ∀ d ∈ u.deposits, d.inFlight = items.countP fun e => e.slot == some d.slot
  /-- slots of items (R158) -/
  entries : ∀ e ∈ items, ∀ k, e.slot = some k → ∃ d ∈ u.deposits, d.slot = k
  /-- Declaration Table (R150) -/
  declarations : u.declarations.length ≤ Config.declarationCapacity
  /-- declared ids (R150) -/
  declared : (u.declarations.map (·.id)).Nodup
  /-- bound entries (R150) -/
  bound : ∀ e ∈ u.declarations, e.bound = u.deposits.any fun d => d.id == e.id

theorem depositAt_isSome_iff (k : SlotNo) (s : State) : (depositAt k s).isSome = true ↔ ∃ d ∈ s.deposit.deposits, d.slot = k := by
  simp [depositAt]

theorem depositLaw_iff (s : State) : DepositLaw s ↔ DepositHolds s.deposit s.track.queue := by
  constructor
  · intro ⟨slots, ids, open_, inFlight, entries, declarations, declared, bound⟩
    exact ⟨slots, ids, open_, inFlight, fun e inQueue k slot => (depositAt_isSome_iff k s).mp (entries e inQueue k slot), declarations,
      declared, bound⟩
  · intro ⟨slots, ids, open_, inFlight, entries, declarations, declared, bound⟩
    exact ⟨slots, ids, open_, inFlight, fun e inQueue k slot => (depositAt_isSome_iff k s).mpr (entries e inQueue k slot), declarations,
      declared, bound⟩

/-- The law reads the slots of the items alone, in any order. -/
theorem DepositHolds.items {u : DepositUnit} {items others : List Entry} (holds : DepositHolds u items)
    (same : (others.map (·.slot)).Perm (items.map (·.slot))) : DepositHolds u others := by
  have count (k : SlotNo) : (others.countP fun e => e.slot == some k) = items.countP fun e => e.slot == some k := by
    have counted := same.countP_eq (· == some k)
    simpa only [List.countP_map, Function.comp_def] using counted
  refine { holds with inFlight := fun d held => (holds.inFlight d held).trans (count d.slot).symm, entries := fun e flies k slot => ?_ }
  have slotIn : some k ∈ items.map (·.slot) := same.mem_iff.mp (slot ▸ List.mem_map_of_mem flies)
  obtain ⟨e', flies', slot'⟩ := List.mem_map.mp slotIn
  exact holds.entries e' flies' k slot'

/-! ### Contexts changed in place -/

/-- A change of contexts that keeps slots and ids, opens none, and leaves the in-flight counts fitting the items. -/
theorem DepositHolds.map {u : DepositUnit} {items others : List Entry} (holds : DepositHolds u items) {f : Deposit → Deposit}
    (slot : ∀ d, (f d).slot = d.slot) (id : ∀ d, (f d).id = d.id) (opens : ∀ d, (f d).state = .openState → d.state = .openState)
    (inFlight : ∀ d ∈ u.deposits, (f d).inFlight = others.countP fun e => e.slot == some d.slot)
    (entries : ∀ e ∈ others, ∀ k, e.slot = some k → ∃ d ∈ u.deposits, d.slot = k) :
    DepositHolds { u with deposits := u.deposits.map f } others where
  slots := by simpa [Function.comp_def, slot] using holds.slots
  ids := by simpa [Function.comp_def, id] using holds.ids
  open_ := by
    rw [List.countP_map]
    refine le_trans (List.countP_mono_left fun d _ isOpen => ?_) holds.open_
    simpa using opens d (by simpa using isOpen)
  inFlight := by
    intro d' inNew
    obtain ⟨d, inOld, rfl⟩ := List.mem_map.mp inNew
    rw [slot]
    exact inFlight d inOld
  entries := by
    intro e flies k isSlot
    obtain ⟨d, held, same⟩ := entries e flies k isSlot
    exact ⟨f d, List.mem_map_of_mem held, (slot d).trans same⟩
  declarations := holds.declarations
  declared := holds.declared
  bound e inTable := by
    rw [holds.bound e inTable, List.any_map]
    simp [Function.comp_def, id]

/-- A context change that also keeps the in-flight count. -/
structure KeepsFlight (f : Deposit → Deposit) : Prop where
  /-- slot -/
  slot : ∀ d, (f d).slot = d.slot
  /-- id -/
  id : ∀ d, (f d).id = d.id
  /-- no deposit is opened -/
  opens : ∀ d, (f d).state = .openState → d.state = .openState
  /-- in-flight count -/
  inFlight : ∀ d, (f d).inFlight = d.inFlight

/-- The Deposit Unit with the context of one slot changed. -/
def DepositUnit.modify (u : DepositUnit) (k : SlotNo) (f : Deposit → Deposit) : DepositUnit :=
  { u with deposits := u.deposits.map fun d => if d.slot = k then f d else d }

theorem modifyDeposit_deposit (k : SlotNo) (f : Deposit → Deposit) (s : State) :
    (modifyDeposit k f s).deposit = s.deposit.modify k f := rfl

theorem DepositHolds.modify {u : DepositUnit} {items : List Entry} (holds : DepositHolds u items) {f : Deposit → Deposit}
    (keeps : KeepsFlight f) (k : SlotNo) : DepositHolds (u.modify k f) items := by
  refine holds.map (fun d => ?_) (fun d => ?_) (fun d => ?_) (fun d held => ?_) holds.entries
  · split
    · exact keeps.slot d
    · rfl
  · split
    · exact keeps.id d
    · rfl
  · split
    · exact keeps.opens d
    · exact id
  · rw [← holds.inFlight d held]
    split
    · exact keeps.inFlight d
    · rfl

theorem DepositHolds.modifySlot {s : State} {items : List Entry} (holds : DepositHolds s.deposit items) {f : Deposit → Deposit}
    (keeps : KeepsFlight f) {slot : Option SlotNo} : DepositHolds (modifySlot slot f s).deposit items := by
  cases slot with
  | none => exact holds
  | some k => exact holds.modify keeps k

/-! ### Items that enter and leave -/

/-- An item attributed to its deposit flies; an item without a slot changes no deposit. -/
theorem DepositHolds.attribute {s : State} {items : List Entry} (holds : DepositHolds s.deposit items) (slot : Option SlotNo)
    (held : ∀ k, slot = some k → (depositAt k s).isSome) (item : Word) (hit : Bool) {e : Entry} (isSlot : e.slot = slot) :
    DepositHolds (attributeItem slot item hit s).deposit (e :: items) := by
  cases slot with
  | none =>
    refine { holds with inFlight := fun d isHeld => ?_, entries := fun x flies k isK => ?_ }
    · simpa [isSlot] using holds.inFlight d isHeld
    · obtain rfl | flies := List.mem_cons.mp flies
      · simp [isSlot] at isK
      · exact holds.entries x flies k isK
  | some k =>
    have holder := (depositAt_isSome_iff k s).mp (held k rfl)
    refine holds.map (fun d => by split <;> rfl) (fun d => by split <;> rfl) (fun d => by split <;> exact id) (fun d isHeld => ?_)
      fun x flies j isJ => ?_
    · rw [List.countP_cons, ← holds.inFlight d isHeld]
      by_cases same : d.slot = k
      · simp [same, isSlot]
      · simp [same, isSlot, Ne.symm same]
    · obtain rfl | flies := List.mem_cons.mp flies
      · obtain rfl : k = j := Option.some.inj (isSlot.symm.trans isJ)
        exact holder
      · exact holds.entries x flies j isJ

/-- Every item in flight lost: every in-flight count comes to 0. -/
theorem DepositHolds.lose {s : State} {items : List Entry} (holds : DepositHolds s.deposit items) :
    DepositHolds (loseInDeposits items s).deposit [] :=
  holds.map (fun _ => rfl) (fun _ => rfl) (fun _ => id) (fun d held => by simp [holds.inFlight d held]) (by simp)

/-- A deposit with nothing in flight leaves, and its bound declaration with it. -/
theorem DepositHolds.close {u : DepositUnit} {items : List Entry} (holds : DepositHolds u items) {d : Deposit} (held : d ∈ u.deposits)
    (empty : d.inFlight = 0) :
    DepositHolds { u with
      declarations := u.declarations.filter fun e => !(e.id == d.id && e.bound)
      deposits := u.deposits.filter fun e => e.slot != d.slot } items where
  slots := holds.slots.sublist (List.filter_sublist.map _)
  ids := holds.ids.sublist (List.filter_sublist.map _)
  open_ := (List.filter_sublist.countP_le).trans holds.open_
  inFlight x inRest := holds.inFlight x (List.mem_filter.mp inRest).1
  entries e flies k isSlot := by
    obtain ⟨x, isHeld, same⟩ := holds.entries e flies k isSlot
    refine ⟨x, List.mem_filter.mpr ⟨isHeld, ?_⟩, same⟩
    have noneFlies := (holds.inFlight d held).symm.trans empty
    rw [List.countP_eq_zero] at noneFlies
    have other := noneFlies e flies
    simp only [isSlot, ← same, beq_iff_eq, Option.some.injEq] at other
    simpa using other
  declarations := (List.filter_sublist.length_le).trans holds.declarations
  declared := holds.declared.sublist (List.filter_sublist.map _)
  bound e inRest := by
    obtain ⟨inTable, stays⟩ := List.mem_filter.mp inRest
    have bound := holds.bound e inTable
    have otherId : d.id ≠ e.id := by
      intro same
      have isBound : e.bound = true := by rw [bound, List.any_eq_true]; exact ⟨d, held, by simp [same]⟩
      simp [same, isBound] at stays
    rw [bound, Bool.eq_iff_iff, List.any_eq_true, List.any_eq_true]
    refine ⟨fun ⟨x, isHeld, same⟩ => ⟨x, List.mem_filter.mpr ⟨isHeld, ?_⟩, same⟩, fun ⟨x, inRest, same⟩ => ⟨x, (List.mem_filter.mp inRest).1, same⟩⟩
    have otherDeposit : x ≠ d := by
      rintro rfl
      exact otherId (by simpa using same)
    simpa using fun sameSlot => otherDeposit (List.inj_on_of_nodup_map holds.slots isHeld held sameSlot)

theorem mem_of_depositAt {k : SlotNo} {s : State} {d : Deposit} (found : depositAt k s = some d) :
    d ∈ s.deposit.deposits ∧ d.slot = k :=
  ⟨List.mem_of_find?_eq_some found, by simpa using List.find?_some found⟩

/-- A report handed on leaves the deposits. -/
theorem emit_deposit_eq (r : Report) (s : State) : (emit r s).deposit = s.deposit := emit_deposit r s

theorem DepositHolds.testClose {s : State} {items : List Entry} (holds : DepositHolds s.deposit items) (k : SlotNo) (afterRecovery : Bool) :
    DepositHolds (testClose k afterRecovery s).deposit items := by
  unfold Machine.testClose
  split
  case h_2 => exact holds
  case h_1 d found =>
    split
    case isFalse => exact holds
    case isTrue closes =>
      have closed := holds.close (mem_of_depositAt found).1 closes.2.1
      simpa only [closeDeposit, endCause_deposit, State.setDeposit_deposit, emit_deposit] using closed

/-- An item that closes no longer flies. -/
theorem DepositHolds.closeInDeposit {s : State} {items : List Entry} {e : Entry} (holds : DepositHolds s.deposit (e :: items))
    (close : ItemClose) : DepositHolds (closeInDeposit e close s).deposit items := by
  unfold Machine.closeInDeposit
  split
  case h_1 noSlot =>
    refine { holds with inFlight := fun d held => ?_, entries := fun x flies => holds.entries x (List.mem_cons_of_mem _ flies) }
    simpa [noSlot] using holds.inFlight d held
  case h_2 k isSlot =>
    refine DepositHolds.testClose ?_ k false
    have counts (d : Deposit) : (countClose e.kind e.reason e.dest close d).slot = d.slot ∧ (countClose e.kind e.reason e.dest close d).id = d.id ∧
        (countClose e.kind e.reason e.dest close d).state = d.state ∧
        (countClose e.kind e.reason e.dest close d).inFlight = d.inFlight := by
      cases close
      case lost => exact ⟨rfl, rfl, rfl, rfl⟩
      case shadowed =>
        simp only [countClose]
        split <;> exact ⟨rfl, rfl, rfl, rfl⟩
      case confirmed =>
        simp only [countClose]
        split
        · exact ⟨rfl, rfl, rfl, rfl⟩
        · split
          · exact ⟨rfl, rfl, rfl, rfl⟩
          · split <;> exact ⟨rfl, rfl, rfl, rfl⟩
    refine holds.map (fun d => ?_) (fun d => ?_) (fun d => ?_) (fun d held => ?_)
      fun x flies => holds.entries x (List.mem_cons_of_mem _ flies)
    · split
      · exact (counts d).1
      · rfl
    · split
      · exact (counts d).2.1
      · rfl
    · split
      · simp only [(counts d).2.2.1]
        exact id
      · exact id
    · have flight := holds.inFlight d held
      rw [List.countP_cons, isSlot] at flight
      split
      case isTrue same =>
        simp only [(counts d).2.2.2, flight]
        simp [same]
      case isFalse other =>
        rw [flight]
        simp [Ne.symm other]

theorem DepositHolds.closeItem {s : State} {items : List Entry} {e : Entry} (holds : DepositHolds s.deposit (e :: items))
    (close : ItemClose) (arrival : Option (Fin 16)) (traced : Bool) : DepositHolds (closeItem e close arrival traced s).deposit items := by
  have reported : Work [] s _ := (tallyClose_work (touched := []) e close s).trans
    (emitIf_work (touched := []) traced (traceReport e close arrival (tallyClose e close s)) _)
  refine DepositHolds.closeInDeposit ?_ close
  rwa [show _ = s.deposit from reported.stands .deposit]

/-- A confirmation counts in a deposit's accepted or quarantine count alone. -/
theorem DepositHolds.confirmAt {s : State} {items : List Entry} (holds : DepositHolds s.deposit items) (e : Entry) :
    DepositHolds (confirmAt e s).deposit items := by
  have accepted (denom : Option Denom) : KeepsFlight fun d => { d with accepted := adjust d.accepted (acceptedIndex denom) bumpCount } :=
    ⟨fun _ => rfl, fun _ => rfl, fun _ => id, fun _ => rfl⟩
  have quarantine : KeepsFlight fun d => { d with quarantine := bumpCount d.quarantine } :=
    ⟨fun _ => rfl, fun _ => rfl, fun _ => id, fun _ => rfl⟩
  unfold Machine.confirmAt
  split
  · exact holds
  · split
    · exact DepositHolds.modifySlot (by exact holds) quarantine
    case h_2.isFalse g _ _ =>
      rw [show (confirmMember g e s).deposit = _ from (confirmMember_after g e s).stands .deposit]
      exact DepositHolds.modifySlot (by exact holds) (accepted e.denom)

/-! ### The law of the track and of deposits together -/

/-- The laws a step keeps together: the track's, and that of the deposits. -/
def FlightLaw (s : State) : Prop := TrackLaw s ∧ DepositHolds s.deposit s.track.queue

/-- The blocks FlightLaw reads. -/
def flightBlocks : List Block := [.edge, .track, .jam, .deposit]

theorem queue_of_work {touched : List Block} {s t : State} (work : QuietWork touched s t)
    (untouched : apart [.track] touched = true := by rfl) : t.track.queue = s.track.queue := by
  have track : t.track = { s.track with stall := t.track.stall } := work.stands .track untouched
  rw [track]

theorem DepositHolds.of_work {touched : List Block} {s t : State} {items : List Entry} (holds : DepositHolds s.deposit items)
    (work : QuietWork touched s t) (untouched : apart [.deposit] touched = true := by rfl) : DepositHolds t.deposit items := by
  rwa [show t.deposit = s.deposit from work.stands .deposit untouched]

theorem apart_mono {few many touched : List Block} (isApart : apart many touched = true) (isWithin : within few many = true := by rfl) :
    apart few touched = true := by
  simp only [apart, List.all_eq_true] at isApart ⊢
  exact fun b inFew => isApart b (mem_of_within isWithin b inFew)

theorem FlightLaw.of_work {touched : List Block} {s t : State} (law : FlightLaw s) (work : QuietWork touched s t)
    (untouched : apart flightBlocks touched = true := by rfl) : FlightLaw t :=
  ⟨law.1.of_work work (apart_mono untouched), by
    rw [queue_of_work work (apart_mono untouched)]
    exact law.2.of_work work (apart_mono untouched)⟩

/-! ### Jams and admissions -/

/-- A jam takes every item in flight off the books, the item in waiting included. -/
theorem enterJam_flightLaw {s : State} (cause : JamCause) (noLoss : s.track.losses = [])
    (room : (inFlightItems s).length + s.edge.fifo.length ≤ Config.lossCapacity) (holds : DepositHolds s.deposit (inFlightItems s)) :
    FlightLaw (enterJam cause s) := by
  have track := enterJam_trackLaw cause noLoss room
  refine ⟨track, ?_⟩
  rw [(track.jammed (enterJam_jammed cause s)).1]
  have before : Work [.jam, .track, .pocket, .group] s
      (traceLosses (inFlightItems s) (withdrawAll (inFlightItems s) (loseQueue (jamLine cause s)))) :=
    (((jamLine_work cause s).trans (loseQueue_work _) (touched := [.jam, .track])).trans (withdrawAll_work _ _)
      (touched := [.jam, .track, .pocket, .group])).trans (traceLosses_work (touched := []) _ _)
  have lost := (holds.of_work before.toQuietWork).lose
  have after : Work [.track, .edge] (loseInDeposits (inFlightItems s)
      (traceLosses (inFlightItems s) (withdrawAll (inFlightItems s) (loseQueue (jamLine cause s))))) (enterJam cause s) :=
    (((loseEdges_work _).trans (bump_work (touched := []) _ _) (touched := [.track, .edge])).trans (emit_work (touched := []) _ _)
      (touched := [.track, .edge])).trans (emit_work (touched := []) _ _)
  exact lost.of_work after.toQuietWork

theorem FlightLaw.handJam {s : State} (law : FlightLaw s) (cause : JamCause) : FlightLaw (handJam cause s) := by
  have kept := law.1.handJam cause
  unfold Machine.handJam at *
  split
  · exact law
  case isFalse notJammed =>
    have items : inFlightItems s = s.track.queue := by simp [inFlightItems, law.1.waiting]
    refine enterJam_flightLaw cause (law.1.lost notJammed) ?_ (items ▸ law.2)
    have fifo := law.1.fifo
    have queue := law.1.queue
    rw [items]
    simp only [Config.fifoCapacity, Config.trackCapacity, Config.lossCapacity] at *
    omega

/-- An admission's end keeps the laws where its slot holds a deposit. -/
theorem FlightLaw.finishAdmission {s : State} (law : FlightLaw s) (notJammed : s.line.state ≠ .jammed)
    (popped : s.edge.fifo.length < Config.fifoCapacity) (i : Item) (disp : Disposition) {slot : Option SlotNo}
    (held : ∀ k, slot = some k → (depositAt k s).isSome) : FlightLaw (finishAdmission i disp slot s) := by
  refine ⟨(finishAdmission_trackLaw law.1 notJammed popped i disp slot).1, ?_⟩
  have attributed := (attributeItem_work slot i.edge.item disp.hit.isSome s).toQuietWork
  have law1 := law.1.of_work attributed
  have queue1 := queue_of_work attributed
  have edge1 : (attributeItem slot i.edge.item disp.hit.isSome s).edge = s.edge := attributed.stands .edge
  have notJammed1 : (attributeItem slot i.edge.item disp.hit.isSome s).line.state ≠ .jammed := mt (attributed.stands .jam).mp notJammed
  have flies (e : Entry) (isSlot : e.slot = slot) := law.2.attribute slot held i.edge.item disp.hit.isSome isSlot
  rw [← queue1] at flies
  unfold Machine.finishAdmission
  generalize attributeItem slot i.edge.item disp.hit.isSome s = s1 at law1 edge1 notJammed1 flies
  have flies1 : DepositHolds s1.deposit (s1.track.queue ++ [makeEntry i disp slot s1]) :=
    (flies (makeEntry i disp slot s1) rfl).items (List.perm_append_comm.map _)
  simp only [enterTrack]
  split
  case isTrue => exact flies1
  case isFalse =>
    have enters : Machine.handJam (.trackFull (makeEntry i disp slot s1).item) (s1.setTrack { s1.track with waiting := some (makeEntry i disp slot s1) }) =
        enterJam (.trackFull (makeEntry i disp slot s1).item) (s1.setTrack { s1.track with waiting := some (makeEntry i disp slot s1) }) :=
      if_neg notJammed1
    rw [enters]
    refine (enterJam_flightLaw (s := s1.setTrack { s1.track with waiting := some (makeEntry i disp slot s1) }) _ (law1.lost notJammed1) ?_
      flies1).2
    have queue := law1.queue
    rw [← edge1] at popped
    simp only [inFlightItems, State.setTrack_track, State.setTrack_edge, Option.toList, List.length_append, List.length_singleton]
    simp only [Config.fifoCapacity, Config.trackCapacity, Config.lossCapacity] at *
    omega

/-- The oldest edge popped, outside JAMMED and with a place free. -/
theorem FlightLaw.popEdge {s : State} (law : FlightLaw s) : FlightLaw (popEdge s) := ⟨law.1.setEdge (by simp), law.2⟩

/-- The oldest edge admitted, after a work that keeps the laws and leaves the read point and the line's jam. -/
theorem FlightLaw.admission {touched : List Block} {s t : State} (law : FlightLaw s) {e : HeldEdge} {rest : List HeldEdge}
    (held : s.edge.fifo = e :: rest) (work : QuietWork touched (Machine.popEdge s) t) (kept : FlightLaw t) (i : Item) (disp : Disposition)
    {slot : Option SlotNo} (isSlot : ∀ k, slot = some k → (depositAt k t).isSome)
    (untouched : apart [.edge, .jam] touched = true := by rfl) : FlightLaw (Machine.finishAdmission i disp slot t) := by
  have fifo : t.edge.fifo = s.edge.fifo.tail := congrArg EdgeUnit.fifo (work.stands .edge (apart_mono untouched))
  refine kept.finishAdmission (mt (work.stands .jam (apart_mono untouched)).mp (law.1.notJammed_of_edge held)) ?_ i disp isSlot
  have full := law.1.fifo
  rw [fifo, held]
  rw [held, List.length_cons] at full
  simpa using full

theorem openSlot_isSome {s : State} {k : SlotNo} (isSlot : openSlot s = some k) : (depositAt k s).isSome := by
  obtain ⟨d, isOpen, rfl⟩ := Option.map_eq_some_iff.mp isSlot
  exact (depositAt_isSome_iff _ s).mpr ⟨d, List.mem_of_find?_eq_some isOpen, rfl⟩

theorem FlightLaw.admitUnread {s : State} (law : FlightLaw s) : FlightLaw (admitUnread s) := by
  unfold Machine.admitUnread
  split
  case h_1 => exact law
  case h_2 e rest held =>
    exact law.admission held (.refl (touched := []) _) law.popEdge _ _ fun k isSlot => openSlot_isSome (s := Machine.popEdge s) isSlot

theorem FlightLaw.admitUnreads (n : Nat) {s : State} (law : FlightLaw s) : FlightLaw (admitUnreads n s) := by
  induction n generalizing s with
  | zero => exact law
  | succ n ih => exact ih law.admitUnread

theorem FlightLaw.admitNote {s : State} (law : FlightLaw s) {e : HeldEdge} {rest : List HeldEdge} (held : s.edge.fifo = e :: rest)
    (r : NoteRecord) : FlightLaw (admitNote e r s) :=
  law.admission held (decision_work e r _).toQuietWork (law.popEdge.of_work (decision_work e r _).toQuietWork) _ _
    fun _ isSlot => openSlot_isSome isSlot

/-! ### Separators -/

theorem eq_of_mem_of_length_le_one {α : Type} {list : List α} {a b : α} (few : list.length ≤ 1) (aIn : a ∈ list) (bIn : b ∈ list) :
    a = b := by
  match list with
  | [] => simp at aIn
  | [x] => simp_all
  | x :: y :: rest => simp at few

/-- Two OPEN deposits are one. -/
theorem DepositHolds.open_unique {u : DepositUnit} {items : List Entry} (holds : DepositHolds u items) {d x : Deposit}
    (held : d ∈ u.deposits) (isOpen : d.state = .openState) (held' : x ∈ u.deposits) (isOpen' : x.state = .openState) : x = d := by
  have few := holds.open_
  rw [List.countP_eq_length_filter] at few
  have inFilter {y : Deposit} (inList : y ∈ u.deposits) (opens : y.state = .openState) :
      y ∈ u.deposits.filter fun d => d.state == .openState := List.mem_filter.mpr ⟨inList, by simp [opens]⟩
  exact eq_of_mem_of_length_le_one few (inFilter held' isOpen') (inFilter held isOpen)

theorem openDeposit_eq_some {s : State} {d : Deposit} (found : openDeposit s = some d) :
    d ∈ s.deposit.deposits ∧ d.state = .openState :=
  ⟨List.mem_of_find?_eq_some found, by simpa using List.find?_some found⟩

/-- The Deposit Unit once the deposit that was OPEN is CLOSING. -/
def endedUnit (s : State) : DepositUnit :=
  (modifySlot ((openDeposit s).map (·.slot)) (fun d => { d with state := .closing }) s).deposit

theorem keepsFlight_closing : KeepsFlight fun d => { d with state := .closing } :=
  ⟨fun _ => rfl, fun _ => rfl, by simp, fun _ => rfl⟩

theorem DepositHolds.ended {s : State} {items : List Entry} (holds : DepositHolds s.deposit items) : DepositHolds (endedUnit s) items :=
  holds.modifySlot keepsFlight_closing

/-- Once the OPEN deposit is CLOSING, none is OPEN. -/
theorem DepositHolds.ended_closing {s : State} {items : List Entry} (holds : DepositHolds s.deposit items) :
    ∀ d ∈ (endedUnit s).deposits, d.state ≠ .openState := by
  intro d held
  cases found : openDeposit s with
  | none =>
    simp only [endedUnit, found, Option.map_none, Machine.modifySlot] at held
    simpa using List.find?_eq_none.mp found d held
  | some opened =>
    obtain ⟨openHeld, isOpen⟩ := openDeposit_eq_some found
    simp only [endedUnit, found, Option.map_some, Machine.modifySlot, modifyDeposit_deposit, DepositUnit.modify, List.mem_map] at held
    obtain ⟨x, inList, rfl⟩ := held
    split
    case isTrue => simp
    case isFalse other =>
      intro isOpen'
      exact other (congrArg Deposit.slot (holds.open_unique openHeld isOpen inList isOpen'))

/-- The deposits of a unit once one is CLOSING have the slots and the ids they had. -/
theorem endedUnit_slots_ids (s : State) :
    (endedUnit s).deposits.map (fun d => (d.slot, d.id)) = s.deposit.deposits.map fun d => (d.slot, d.id) := by
  unfold endedUnit
  cases openDeposit s with
  | none => rfl
  | some d =>
    simp only [Option.map_some, modifySlot, modifyDeposit_deposit, DepositUnit.modify, List.map_map]
    refine List.map_congr_left fun x _ => ?_
    simp only [Function.comp_apply]
    split <;> rfl

theorem testClose_deposits_sublist (k : SlotNo) (afterRecovery : Bool) (s : State) :
    (testClose k afterRecovery s).deposit.deposits.Sublist s.deposit.deposits := by
  unfold testClose
  split
  case h_2 => exact List.Sublist.refl _
  case h_1 =>
    split
    case isFalse => exact List.Sublist.refl _
    case isTrue =>
      simp only [closeDeposit, endCause_deposit, State.setDeposit_deposit, emit_deposit]
      exact List.filter_sublist

/-- The deposit that was OPEN ends: it is CLOSING, or closed where the close is tested. -/
theorem DepositHolds.endOpen {s : State} {items : List Entry} (holds : DepositHolds s.deposit items) (test : Bool) :
    DepositHolds (endOpen (openDeposit s) test s).deposit items ∧
      (endOpen (openDeposit s) test s).deposit.deposits.Sublist (endedUnit s).deposits ∧
      (test = false → (Machine.endOpen (openDeposit s) test s).deposit = endedUnit s) := by
  have closed := closePure_work (.ofId ((openDeposit s).map (·.id)))
    (Machine.modifySlot ((openDeposit s).map (·.slot)) (fun d => { d with state := .closing }) s)
  have same : (closePure _ _).deposit = endedUnit s := closed.stands .deposit
  have stays := same ▸ holds.ended
  simp only [Machine.endOpen]
  split
  · split
    case isTrue isTest =>
      exact ⟨stays.testClose _ _, same ▸ testClose_deposits_sublist _ _ _, fun noTest => by simp [isTest] at noTest⟩
    case isFalse => exact ⟨stays, same ▸ List.Sublist.refl _, fun _ => same⟩
  · exact ⟨stays, same ▸ List.Sublist.refl _, fun _ => same⟩

/-- A deposit opens, empty, in a free slot with an id not in use, and the waiting declaration of its id is bound. -/
theorem DepositHolds.open {u : DepositUnit} {items : List Entry} (holds : DepositHolds u items)
    (closing : ∀ d ∈ u.deposits, d.state ≠ .openState) {k : SlotNo} (free : ∀ d ∈ u.deposits, d.slot ≠ k) {r : SeparatorRecord}
    (newId : ∀ d ∈ u.deposits, d.id ≠ r.depositId) (item : Word) :
    DepositHolds { u with
      deposits := u.deposits ++ [newDeposit k r item]
      declarations := u.declarations.map fun e => if e.id = r.depositId then { e with bound := true } else e } items where
  slots := by
    rw [List.map_append, List.map_singleton, ← List.concat_eq_append, List.nodup_concat]
    refine ⟨fun held => ?_, holds.slots⟩
    obtain ⟨d, inList, same⟩ := List.mem_map.mp held
    exact free d inList same
  ids := by
    rw [List.map_append, List.map_singleton, ← List.concat_eq_append, List.nodup_concat]
    refine ⟨fun held => ?_, holds.ids⟩
    obtain ⟨d, inList, same⟩ := List.mem_map.mp held
    exact newId d inList same
  open_ := by
    have noneOpen : (u.deposits.countP fun d => d.state == .openState) = 0 :=
      List.countP_eq_zero.mpr fun d inList => by simpa using closing d inList
    simp [List.countP_append, noneOpen, newDeposit]
  inFlight d held := by
    obtain inList | isNew := List.mem_append.mp held
    · exact holds.inFlight d inList
    · obtain rfl := List.mem_singleton.mp isNew
      refine (List.countP_eq_zero.mpr fun e flies => ?_).symm
      intro attributed
      obtain ⟨x, inList, same⟩ := holds.entries e flies k (by simpa [newDeposit] using attributed)
      exact free x inList same
  entries e flies j isSlot := by
    obtain ⟨d, inList, same⟩ := holds.entries e flies j isSlot
    exact ⟨d, List.mem_append_left _ inList, same⟩
  declarations := by simpa using holds.declarations
  declared := by
    have ids : (u.declarations.map fun e => if e.id = r.depositId then { e with bound := true } else e).map (·.id) =
        u.declarations.map (·.id) := by
      rw [List.map_map]
      refine List.map_congr_left fun e _ => ?_
      simp only [Function.comp_apply]
      split <;> rfl
    rw [ids]
    exact holds.declared
  bound e inTable := by
    obtain ⟨x, inOld, rfl⟩ := List.mem_map.mp inTable
    have bound := holds.bound x inOld
    rw [List.any_append]
    split
    case isTrue same => simp [newDeposit, same]
    case isFalse other => simp [bound, newDeposit, Ne.symm other]

theorem freeSlot_eq_some {s : State} {k : SlotNo} (isFree : freeSlot s = some k) : ∀ d ∈ s.deposit.deposits, d.slot ≠ k := by
  have noneAt : (depositAt k s).isNone = true := List.find?_some (p := fun k => (depositAt k s).isNone) isFree
  rw [Option.isNone_iff_eq_none, depositAt, List.find?_eq_none] at noneAt
  simpa using noneAt

/-- A separator keeps the law, and the slot its card is attributed to holds a deposit, but for a late one's. -/
theorem DepositHolds.takeSeparator {s : State} {items : List Entry} (holds : DepositHolds s.deposit items) (r : SeparatorRecord)
    (item : Word) (late : Bool) :
    DepositHolds (takeSeparator r item late s).1.deposit items ∧
      (late = false → ∀ k, (takeSeparator r item late s).2 = some k →
        ∃ d ∈ (takeSeparator r item late s).1.deposit.deposits, d.slot = k) := by
  have before {k : SlotNo} (isSlot : (openDeposit s).map (·.slot) = some k) : ∃ d ∈ s.deposit.deposits, d.slot = k :=
    (depositAt_isSome_iff k s).mp (openSlot_isSome isSlot)
  have lost (noSlot : Bool) : (loseBoundary noSlot r item s).deposit =
      (Machine.modifySlot ((openDeposit s).map (·.slot)) (fun d => { d with boundaryLost := true }) s).deposit := by
    simp only [loseBoundary]
    split <;> simp
  have keeps : KeepsFlight fun d => { d with boundaryLost := true } := ⟨fun _ => rfl, fun _ => rfl, fun _ => id, fun _ => rfl⟩
  have stillHeld (noSlot : Bool) {k : SlotNo} (isSlot : (openDeposit s).map (·.slot) = some k) :
      ∃ d ∈ (loseBoundary noSlot r item s).deposit.deposits, d.slot = k := by
    obtain ⟨d, held, same⟩ := before isSlot
    rw [lost, isSlot, Machine.modifySlot, modifyDeposit_deposit]
    exact ⟨_, List.mem_map_of_mem held, by simp [same]⟩
  simp only [Machine.takeSeparator]
  split
  · rw [show (bump .depositRepeat s).deposit = s.deposit from (bump_deposit _ s)]
    exact ⟨holds, fun _ k isSlot => before isSlot⟩
  case isFalse notOpenId =>
  split
  · refine ⟨?_, fun _ k isSlot => stillHeld false isSlot⟩
    rw [lost]
    exact holds.modifySlot keeps
  case isFalse notInUse =>
  split
  · refine ⟨?_, fun _ k isSlot => stillHeld true isSlot⟩
    rw [lost]
    exact holds.modifySlot keeps
  obtain ⟨ended, sublist, untested⟩ := holds.endOpen (!r.endFlag || late)
  simp only [takeBoundary]
  split
  case isTrue isEnd =>
    have swapped : (swapAtBoundary item none (Machine.endOpen (openDeposit s) (!r.endFlag || late) s)).deposit = _ :=
      (swapAtBoundary_work item none _).stands .deposit
    rw [swapped]
    refine ⟨ended, fun notLate k isSlot => ?_⟩
    rw [untested (by simp [isEnd, notLate])]
    obtain ⟨d, held, same⟩ := before isSlot
    have slots : (endedUnit s).deposits.map (·.slot) = s.deposit.deposits.map (·.slot) := by
      simpa [Function.comp_def] using congrArg (List.map Prod.fst) (endedUnit_slots_ids s)
    have inSlots : k ∈ (endedUnit s).deposits.map (·.slot) := by rw [slots]; exact same ▸ List.mem_map_of_mem held
    simpa using List.mem_map.mp inSlots
  case isFalse notEnd =>
    split
    case h_2 => exact ⟨ended, by simp⟩
    case h_1 k isFree =>
      have swapped : (swapAtBoundary item (some r.depositId) (openNew k r item (Machine.endOpen (openDeposit s) (!r.endFlag || late) s))).deposit = _ :=
        (swapAtBoundary_work item _ _).stands .deposit
      rw [swapped]
      have ids : (endedUnit s).deposits.map (·.id) = s.deposit.deposits.map (·.id) := by
        simpa [Function.comp_def] using congrArg (List.map Prod.snd) (endedUnit_slots_ids s)
      have newId : ∀ d ∈ s.deposit.deposits, d.id ≠ r.depositId := by
        intro d held same
        cases state : d.state with
        | openState =>
          cases found : openDeposit s with
          | none => simpa [state] using List.find?_eq_none.mp found d held
          | some opened =>
            obtain ⟨openHeld, isOpen⟩ := openDeposit_eq_some found
            obtain rfl := holds.open_unique openHeld isOpen held state
            simp [found, same] at notOpenId
        | closing =>
          refine notInUse ?_
          simp only [notEnd, idInUse, Bool.not_false, Bool.true_and, List.any_eq_true]
          exact ⟨d, held, by simp [state, same]⟩
      refine ⟨ended.open (fun d held => holds.ended_closing d (sublist.subset held)) (freeSlot_eq_some isFree) (fun d held same => ?_) item,
        fun _ j isJ => ?_⟩
      · have inIds : r.depositId ∈ s.deposit.deposits.map (·.id) := by
          rw [← ids, ← same]
          exact List.mem_map_of_mem (sublist.subset held)
        obtain ⟨x, inList, isId⟩ := List.mem_map.mp inIds
        exact newId x inList isId
      · obtain rfl := Option.some.inj isJ
        exact ⟨newDeposit k r item, by simp [openNew], rfl⟩

theorem FlightLaw.takeSeparator {s : State} (law : FlightLaw s) (r : SeparatorRecord) (item : Word) (late : Bool) :
    FlightLaw (takeSeparator r item late s).1 := by
  have work := (takeSeparator_work r item late s).toQuietWork
  refine ⟨law.1.of_work work, ?_⟩
  rw [queue_of_work work]
  exact (law.2.takeSeparator r item late).1

theorem FlightLaw.admitCard {s : State} (law : FlightLaw s) {e : HeldEdge} {rest : List HeldEdge} (held : s.edge.fifo = e :: rest)
    (r : SeparatorRecord) : FlightLaw (admitCard e r s) :=
  law.admission held (takeSeparator_work r e.item false _).toQuietWork (law.popEdge.takeSeparator r e.item false) _ _ fun k isSlot =>
    (depositAt_isSome_iff k _).mpr ((law.popEdge.2.takeSeparator r e.item false).2 rfl k isSlot)

/-! ### Late records, arrivals and missing items -/

/-- A context change of one slot leaves the track. -/
theorem FlightLaw.modifySlot {s : State} (law : FlightLaw s) {f : Deposit → Deposit} (keeps : KeepsFlight f) {slot : Option SlotNo} :
    FlightLaw (modifySlot slot f s) := by
  have work := (modifySlot_work slot f s).toQuietWork
  refine ⟨law.1.of_work work, ?_⟩
  rw [queue_of_work work]
  exact law.2.modifySlot keeps

/-- Entries changed in place that keep their slots. -/
theorem FlightLaw.updateAwaiting {s : State} (law : FlightLaw s) (seq : Byte) {f : Entry → Entry}
    (gates : ∀ g e, (f e).holdsGate g = e.holdsGate g) (slot : ∀ e, (f e).slot = e.slot) : FlightLaw (updateAwaiting seq f s) := by
  refine ⟨law.1.updateAwaiting seq gates, law.2.items ?_⟩
  have slots (queue : List Entry) : (updateFirst (·.awaits seq) f queue).map (·.slot) = queue.map (·.slot) := by
    induction queue with
    | nil => rfl
    | cons e rest ih =>
      unfold updateFirst
      split
      · simp [slot]
      · simp [ih]
  exact .of_eq (slots _)

theorem FlightLaw.applyLateNote {s : State} (law : FlightLaw s) (e : Entry) (r : NoteRecord) : FlightLaw (applyLateNote e r s) := by
  have take (caseRef : Option Word) {s : State} (law : FlightLaw s) :
      FlightLaw (Machine.updateAwaiting r.seq (·.takeLate (some r.cls) (r.code.map (·.1)) r.serial caseRef) s) :=
    law.updateAwaiting _ (holdsGate_takeLate _ _ _ _) fun _ => rfl
  have hit : KeepsFlight fun d => { d with watchHits := bumpCount d.watchHits } := ⟨fun _ => rfl, fun _ => rfl, fun _ => id, fun _ => rfl⟩
  simp only [Machine.applyLateNote]
  split
  · exact take none law
  · split
    case h_1 s1 missed => exact take none (law.of_work (lookup_found_work missed).toQuietWork)
    case h_2 s1 w found =>
      exact ((take _ (law.of_work (lookup_found_work found).toQuietWork)).modifySlot hit).of_work (emit_work (touched := []) _ _).toQuietWork

theorem FlightLaw.applyLateSeparator {s : State} (law : FlightLaw s) (e : Entry) (r : SeparatorRecord) :
    FlightLaw (applyLateSeparator e r s) :=
  (law.updateAwaiting _ (holdsGate_takeLate _ _ _ _) fun _ => rfl).takeSeparator r e.item true

/-- An entry out of the queue still flies until it closes. -/
theorem DepositHolds.removeEntry {s : State} (holds : DepositHolds s.deposit s.track.queue) {e : Entry} (inQueue : e ∈ s.track.queue) :
    DepositHolds (removeEntry e s).deposit (e :: (removeEntry e s).track.queue) :=
  holds.items ((List.perm_cons_erase inQueue).symm.map _)

/-- A close of an item just removed, after works that leave the track. -/
theorem closeItem_flightLaw {touched : List Block} {s t : State} {e e' : Entry} (law : TrackLaw (removeEntry e s))
    (work : QuietWork touched (removeEntry e s) t) (holds : DepositHolds t.deposit (e :: (removeEntry e s).track.queue)) (slot : e'.slot = e.slot)
    (close : ItemClose) (arrival : Option (Fin 16)) (traced : Bool) (untouched : apart [.edge, .track, .jam] touched = true := by rfl) :
    FlightLaw (closeItem e' close arrival traced t) := by
  have closed := (closeItem_work e' close arrival traced t).toQuietWork
  refine ⟨(law.of_work work untouched).of_work closed, ?_⟩
  rw [queue_of_work closed, queue_of_work work (apart_mono untouched)]
  exact (holds.items (others := e' :: _) (by simp [slot])).closeItem close arrival traced

theorem FlightLaw.confirmEntry {s : State} (law : FlightLaw s) {e : Entry} (inQueue : e ∈ s.track.queue) (p : Fin 16) :
    FlightLaw (confirmEntry e p s) := by
  have work := (confirmAt_work e (Machine.removeEntry e s)).toQuietWork
  have holds := (law.2.removeEntry inQueue).confirmAt e
  unfold Machine.confirmEntry
  generalize Machine.confirmAt e (Machine.removeEntry e s) = t at work holds
  exact closeItem_flightLaw (law.1.removeEntry e) work holds rfl _ _ _

theorem FlightLaw.confirmShadow {s : State} (law : FlightLaw s) {e : Entry} (inQueue : e ∈ s.track.queue) (p : Fin 16) :
    FlightLaw (confirmShadow e p s) := by
  have work := (recountMark_work (pocketOf p) (Machine.removeEntry e s)).toQuietWork
  have holds := (law.2.removeEntry inQueue).of_work work
  unfold Machine.confirmShadow
  generalize recountMark (pocketOf p) (Machine.removeEntry e s) = t at work holds ⊢
  exact closeItem_flightLaw (e' := { e with reason := .pitchShadowed }) (law.1.removeEntry e) work holds rfl _ _ _

theorem FlightLaw.takeArrival {s : State} (law : FlightLaw s) (p : Fin 16) : FlightLaw (takeArrival p s) := by
  refine ⟨takeArrival_trackLaw p law.1, ?_⟩
  suffices FlightLaw (Machine.takeArrival p s) from this.2
  have drained {s : State} (law : FlightLaw s) : FlightLaw (drainEnd s) := law.of_work (drainEnd_work (touched := []) s).toQuietWork
  unfold Machine.takeArrival
  split
  case h_1 =>
    have counted : FlightLaw (bump .strayArrivals s) := law.of_work (bump_work (touched := []) _ s).toQuietWork
    simp only [strayArrival]
    split
    case h_4 | h_5 => exact counted
    all_goals exact (counted.of_work (recountMark_work _ _).toQuietWork).handJam _
  case h_2 e found =>
    have inQueue := List.mem_of_find?_eq_some found
    split
    · exact drained (law.confirmEntry inQueue p)
    · exact drained (law.confirmShadow inQueue p)

/-- A missing item leaves the queue and closes. -/
theorem FlightLaw.declareMissing {s : State} (law : FlightLaw s) {e : Entry} (inQueue : e ∈ s.track.queue) :
    FlightLaw (declareMissing e s) ∧ (declareMissing e s).track.queue = s.track.queue.erase e := by
  have withdrawn (s1 : State) : QuietWork [.pocket, .group] s1 (match e.dest with
      | .gated g => withdrawAt g 1 s1
      | .runOut => s1) := by
    split
    · exact (withdrawAt_work _ 1 s1).toQuietWork
    · exact .refl s1
  have removed := law.2.removeEntry inQueue
  refine ⟨closeItem_flightLaw (law.1.removeEntry e) (withdrawn _) (removed.of_work (withdrawn _)) rfl _ _ _, ?_⟩
  exact (queue_of_work (closeItem_work _ _ _ _ _).toQuietWork).trans (queue_of_work (withdrawn _))

theorem FlightLaw.takeArrivalEnds {s : State} (law : FlightLaw s) : FlightLaw (takeArrivalEnds s) := by
  have declared (list : List Entry) {s : State} (law : FlightLaw s) (inQueue : list.Subperm s.track.queue) :
      FlightLaw (list.foldl (fun s e => Machine.declareMissing e s) s) := by
    induction list generalizing s with
    | nil => exact law
    | cons e rest ih =>
      obtain ⟨kept, queue⟩ := law.declareMissing (inQueue.subset (List.mem_cons_self))
      refine ih kept ?_
      rw [queue]
      simpa using inQueue.erase e
  unfold Machine.takeArrivalEnds
  split
  case h_2 => exact declared _ law List.filter_sublist.subperm
  case h_3 | h_4 | h_5 => exact law.handJam _
  all_goals exact law

/-! ### Requests -/

/-- Every CLOSING deposit with nothing in flight closes after a recovery. -/
theorem DepositHolds.closeAfterRecovery {s : State} {items : List Entry} (holds : DepositHolds s.deposit items) :
    DepositHolds (closeAfterRecovery s).deposit items := by
  have closed (list : List Deposit) {s : State} (holds : DepositHolds s.deposit items) :
      DepositHolds (list.foldl (fun s d => Machine.testClose d.slot true s) s).deposit items := by
    induction list generalizing s with
    | nil => exact holds
    | cons d rest ih => exact ih (holds.testClose d.slot true)
  exact closed s.deposit.deposits holds

theorem heldSlot_isSome (id : Word) (s : State) : (heldSlot id s).isSome = s.deposit.deposits.any fun d => d.id == id := by
  rw [Bool.eq_iff_iff]
  simp [heldSlot, List.find?_isSome, List.any_eq_true]

/-- A declaration of a new id joins a table with room. -/
theorem DepositHolds.declare {s : State} {items : List Entry} (holds : DepositHolds s.deposit items) {id : Word}
    (lines : List (Byte × Half)) (new : declarationOf id s = none) (room : s.deposit.declarations.length < Config.declarationCapacity) :
    DepositHolds { s.deposit with declarations := s.deposit.declarations ++ [newDeclaration id lines s] } items :=
  { holds with
    declarations := by simpa using room
    declared := by
      rw [List.map_append, List.map_singleton, ← List.concat_eq_append, List.nodup_concat]
      refine ⟨fun held => ?_, holds.declared⟩
      obtain ⟨e, inTable, same⟩ := List.mem_map.mp held
      simpa [same, newDeclaration] using List.find?_eq_none.mp new e inTable
    bound := by
      intro e inTable
      obtain inOld | isNew := List.mem_append.mp inTable
      · exact holds.bound e inOld
      · obtain rfl := List.mem_singleton.mp isNew
        exact heldSlot_isSome id s }

/-- Entries taken out of the Declaration Table. -/
theorem DepositHolds.filterDeclarations {u : DepositUnit} {items : List Entry} (holds : DepositHolds u items) (keep : Declaration → Bool) :
    DepositHolds { u with declarations := u.declarations.filter keep } items :=
  { holds with
    declarations := (List.filter_sublist.length_le).trans holds.declarations
    declared := holds.declared.sublist (List.filter_sublist.map _)
    bound := fun e inRest => holds.bound e (List.mem_filter.mp inRest).1 }

theorem resetLine_flightLaw {s : State} {items : List Entry} (holds : DepositHolds s.deposit items) : FlightLaw (resetLine s) := by
  refine ⟨resetLine_trackLaw s, ?_⟩
  let s1 := resetDeposits (resetGroups (resetPockets (resetItems s)))
  have before : (resetGroups (resetPockets (resetItems s))).deposit = s.deposit := by
    have work := ((resetItems_quietWork s).trans (resetPockets_work _).toQuietWork (touched := [.edge, .track, .pocket])).trans
      (resetGroups_work _).toQuietWork (touched := [.edge, .track, .pocket, .group])
    exact work.stands .deposit
  have emptied : DepositHolds s1.deposit [] := by
    have cleared : s1.deposit = { (resetGroups (resetPockets (resetItems s))).deposit with
      deposits := [], declarations := (resetGroups (resetPockets (resetItems s))).deposit.declarations.filter fun d => !d.bound } := rfl
    rw [cleared, before]
    refine ⟨List.nodup_nil, List.nodup_nil, Nat.zero_le _, by simp, by simp, (List.filter_sublist.length_le).trans holds.declarations,
      holds.declared.sublist (List.filter_sublist.map _), fun e inRest => ?_⟩
    simpa using (List.mem_filter.mp inRest).2
  have queue : s1.track.queue = [] := by
    have deposits (s : State) : QuietWork [.deposit] s (resetDeposits s) :=
      ((setDeposit_work s _).trans (endCause_work (touched := []) (by simp) _) (touched := [.deposit])).toQuietWork
    exact (queue_of_work (deposits _)).trans ((queue_of_work (resetGroups_work _).toQuietWork).trans
      ((queue_of_work (resetPockets_work _).toQuietWork).trans (queue_of_work (discardItems_quietWork _ _))))
  have idle (t : State) (work : QuietWork [.jam] s1 t) : DepositHolds t.deposit t.track.queue := by
    rw [queue_of_work work, queue]
    exact emptied.of_work work
  simp only [resetLine]
  split
  · exact idle _ (enterIdle_quietWork _)
  · exact idle _ (changeToIdle_quietWork _ _ _)

/-- What a recovery changes before the line comes to IDLE. -/
theorem setSequence_dropLosses_hand (sequence : Byte) (r : Report) (s : State) :
    (setSequence sequence (dropLosses (hand r s))).deposit = s.deposit ∧
      (setSequence sequence (dropLosses (hand r s))).track.queue = s.track.queue := by
  rw [(hand_reportWork r s).only]
  exact ⟨rfl, rfl⟩

/-- A recovery leaves the Track Queue. -/
theorem recoverLine_queue (sequence : Byte) (s : State) : (recoverLine sequence s).track.queue = s.track.queue :=
  (queue_of_work (closeAfterRecovery_work _).toQuietWork).trans ((queue_of_work (changeToIdle_quietWork .recover none _)).trans
    (setSequence_dropLosses_hand sequence _ s).2)

theorem recoverLine_flightLaw {s : State} (sequence : Byte) (law : FlightLaw s) (jammed : s.line.state = .jammed) :
    FlightLaw (recoverLine sequence s) := by
  refine ⟨recoverLine_trackLaw sequence law.1 jammed, ?_⟩
  have idle := changeToIdle_quietWork .recover none (setSequence sequence (dropLosses (hand (recoveryReport sequence s) s)))
  rw [recoverLine_queue]
  refine DepositHolds.closeAfterRecovery (DepositHolds.of_work ?_ idle)
  rw [(setSequence_dropLosses_hand sequence _ s).1]
  exact law.2

/-! ### Commands -/

theorem flightLaw_of_exec {i : Instr} {s t : State} (notByte : ∀ b faulted, i ≠ .feedByte b faulted) (next : exec i s = .next t)
    (law : FlightLaw s) : FlightLaw t := by
  have reports {s t : State} (work : QuietWork [] s t) (law : FlightLaw s) : FlightLaw t := law.of_work work
  refine ⟨trackLaw_of_exec notByte next law.1, ?_⟩
  by_cases untouched : apart [.track, .deposit] (touches i) = true
  · rw [queue_of_work (work_of_exec next).toQuietWork (apart_mono untouched)]
    exact law.2.of_work (work_of_exec next).toQuietWork (apart_mono untouched)
  suffices FlightLaw t from this.2
  cases i
  case feedByte b faulted => exact absurd rfl (notByte b faulted)
  all_goals try obtain rfl := Host.Outcome.next.inj next
  case noteRecord r =>
    exact takeRecord_keeps reports (·.admitUnread) (fun law held => law.admitNote held r) (fun e _ => law.applyLateNote e r) law
  case separatorRecord r =>
    exact takeRecord_keeps reports (·.admitUnread) (fun law held => law.admitCard held r) (fun e _ => law.applyLateSeparator e r) law
  case setParamRequireDeposit =>
    exact request_keeps reports (fun _ law => ⟨law.1.edit Iff.rfl le_rfl le_rfl law.1.gates rfl rfl, { law.2 with }⟩) law
  case setParamGapMin | setParamStallTime | setParamStartTime | setParamTraceAll | setParamTraceRejects =>
    exact request_keeps reports (fun _ law => ⟨law.1.setTrack rfl rfl rfl rfl, law.2⟩) law
  case setGeometry => exact request_keeps reports (fun _ law => ⟨law.1.setTrack rfl rfl rfl rfl, law.2⟩) law
  case divertWindowOpen | divertWindowClose =>
    exact ⟨law.1.takeGateExpiries, law.2.items (.of_eq (by simp [takeGateExpiries, setQueue, Function.comp_def]))⟩
  case declare tag id lines =>
    refine request_keeps reports (fun passed kept => ⟨kept.1.edit Iff.rfl le_rfl le_rfl kept.1.gates rfl rfl, ?_⟩) law
    obtain ⟨-, new, room⟩ : linesFaulty lines = false ∧ declarationOf id s = none ∧
        s.deposit.declarations.length < Config.declarationCapacity := by
      simpa using passed
    simp only [State.setDeposit_deposit, State.setDeposit_track, answer_deposit, answer_track_queue]
    have unanswered (detail : Detail) : newDeclaration id lines (answer tag 64 detail s) = newDeclaration id lines s := by
      simp only [newDeclaration, heldSlot, answer_deposit]
    rw [unanswered]
    exact law.2.declare lines new room
  case declareCancel tag id =>
    exact request_keeps reports (fun _ law => ⟨law.1.edit Iff.rfl le_rfl le_rfl law.1.gates rfl rfl, law.2.filterDeclarations _⟩) law
  case recover tag sequence =>
    refine lineRequest_keeps reports (fun passed law => recoverLine_flightLaw sequence law ?_) law
    have jammed : s.line.state = .jammed := by simpa using passed
    rwa [hand_eq]
  case lineReset => exact lineRequest_keeps reports (fun _ law => resetLine_flightLaw law.2) law
  case encEdge =>
    have gates : FlightLaw (takeGateExpiries s) :=
      ⟨law.1.takeGateExpiries, law.2.items (.of_eq (by simp [takeGateExpiries, setQueue, Function.comp_def]))⟩
    have taken : FlightLaw (takeExpiries s) := (gates.admitUnreads _).takeArrivalEnds
    exact ⟨taken.1.edit Iff.rfl le_rfl le_rfl taken.1.gates rfl rfl, taken.2⟩
  case admissionDeadline => exact law.admitUnreads _
  case arrivalWindowEnd => exact law.takeArrivalEnds
  case stallTimerExpiry =>
    split
    · have stopped : FlightLaw (stopStall s) := ⟨law.1.setTrack rfl rfl rfl rfl, law.2⟩
      exact stopped.handJam _
    · exact law
  case leadingEdge =>
    refine ⟨trackLaw_of_exec notByte next law.1, ?_⟩
    have room : FlightLaw (if s.line.state = .jammed then s else makeRoom s) := by
      unfold makeRoom
      split
      · exact law
      · split
        · exact law.admitUnread
        · exact law
    split
    · exact law.2
    · have edges := captured_work (if s.line.state = .jammed then s else makeRoom s)
      simp only
      rw [queue_of_work edges.toQuietWork]
      exact room.2.of_work edges.toQuietWork
  case arrivalPulse p => exact law.takeArrival p
  case hardReset => exact ⟨trackLaw_of_empty rfl rfl rfl rfl rfl, (show DepositHolds State.reset.deposit State.reset.track.queue from (depositLaw_iff _).mp depositLaw_reset)⟩
  all_goals exact absurd rfl untouched

/-- Settles O59: with the law of the track, which O57 keeps. -/
theorem depositLawKept : Obligations.DepositLawKept := fun s t track law stepped =>
  (depositLaw_iff t).mpr (step_keeps (law := FlightLaw)
    (fun _ _ law => ⟨law.1.edit Iff.rfl le_rfl le_rfl law.1.gates rfl rfl, law.2⟩) (fun _ _ work law => law.of_work work.toQuietWork)
    (fun _ _ _ notByte next => flightLaw_of_exec notByte next) stepped ⟨track, (depositLaw_iff s).mp law⟩).2

end Sys2Proof.Machine
end

section
/-! SUPPORT. The pockets and the groups: what a written record reads back, what a change of a pocket leaves of the groups, and the laws of
R79 kept by every operation of the Pocket Controller, with the items in flight counted pocket by pocket. -/

set_option Elab.async false

namespace Sys2Proof.Machine

/-! ### Records read back -/

@[simp] theorem pocketAt_putPocket (h g : Gate) (r : PocketRec) (s : State) :
    pocketAt h (putPocket g r s) = if h = g then r else pocketAt h s := by
  unfold pocketAt putPocket
  by_cases same : h = g
  · simp [same]
  · rw [if_neg same]
    exact Vector.getElem_set_ne (by omega) _ fun same' => same (Fin.ext same'.symm)

@[simp] theorem groupAt_putGroup (j k : GroupNo) (r : GroupRec) (s : State) :
    groupAt j (putGroup k r s) = if j = k then r else groupAt j s := by
  unfold groupAt putGroup
  by_cases same : j = k
  · simp [same]
  · rw [if_neg same]
    exact Vector.getElem_set_ne (by omega) _ fun same' => same (Fin.ext same'.symm)

theorem pocketAt_congr {s t : State} (pockets : t.pocket.pockets = s.pocket.pockets) (g : Gate) : pocketAt g t = pocketAt g s := by
  rw [pocketAt, pockets, pocketAt]

theorem groupAt_congr {s t : State} (groups : t.group.groups = s.group.groups) (k : GroupNo) : groupAt k t = groupAt k s := by
  rw [groupAt, groups, groupAt]

theorem mem_allGroups (k : GroupNo) : k ∈ allGroups := by decide +revert

theorem allGroups_getElem : ∀ n (small : n < 8), allGroups[n]'small = ⟨n, small⟩ := by decide

theorem groups_toList (s : State) : s.group.groups.toList = allGroups.map fun k => groupAt k s := by
  have eight : s.group.groups.toList.length = 8 := by simp
  refine List.ext_getElem (by simp [allGroups]) fun n inOne inTwo => ?_
  have small : n < 8 := by omega
  rw [List.getElem_map, Vector.getElem_toList]
  exact congrArg (fun k => groupAt k s) (allGroups_getElem n small).symm

theorem groupOf_eq_some_mem {g : Gate} {k : GroupNo} {s : State} (isMember : groupOf g s = some k) : g ∈ (groupAt k s).members := by
  simpa using List.find?_some (p := fun k => (groupAt k s).members.contains g) isMember

theorem groupOf_eq_none_iff (g : Gate) (s : State) : groupOf g s = none ↔ ∀ k, g ∉ (groupAt k s).members := by
  simp [groupOf, mem_allGroups]

theorem groupOf_isSome_of_mem {g : Gate} {k : GroupNo} {s : State} (isMember : g ∈ (groupAt k s).members) :
    ∃ j, groupOf g s = some j := by
  cases found : groupOf g s with
  | none => exact absurd isMember ((groupOf_eq_none_iff g s).mp found k)
  | some j => exact ⟨j, rfl⟩

theorem groupOf_congr {s t : State} (members : ∀ k, (groupAt k t).members = (groupAt k s).members) (g : Gate) :
    groupOf g t = groupOf g s := by
  simp [groupOf, members]

/-! ### What a change leaves of the groups -/

/-- The member lists stand, each current member is as it was or another of its list, and no strap preset falls to 0. -/
structure SameLists (s t : State) : Prop where
  /-- member lists -/
  members : ∀ k, (groupAt k t).members = (groupAt k s).members
  /-- current members -/
  current : ∀ k, (groupAt k t).current = (groupAt k s).current ∨ ∃ g ∈ (groupAt k s).members, (groupAt k t).current = some g
  /-- strap presets -/
  strap : ∀ k, 1 ≤ (groupAt k s).strap → 1 ≤ (groupAt k t).strap

theorem SameLists.of_groups {s t : State} (groups : t.group.groups = s.group.groups) : SameLists s t where
  members k := by rw [groupAt_congr groups]
  current k := .inl (by rw [groupAt_congr groups])
  strap k := by rw [groupAt_congr groups]; exact id

theorem SameLists.trans {s t u : State} (one : SameLists s t) (two : SameLists t u) : SameLists s u where
  members k := (two.members k).trans (one.members k)
  current k := by
    obtain same | isMember := two.current k
    · rw [same]
      exact one.current k
    · rw [one.members k] at isMember
      exact .inr isMember
  strap k := two.strap k ∘ one.strap k

theorem SameLists.putGroup {k : GroupNo} {r : GroupRec} {s : State} (members : r.members = (groupAt k s).members)
    (current : r.current = (groupAt k s).current ∨ ∃ g ∈ (groupAt k s).members, r.current = some g)
    (strap : 1 ≤ (groupAt k s).strap → 1 ≤ r.strap) : SameLists s (putGroup k r s) := by
  constructor <;> intro j <;> rw [groupAt_putGroup] <;> split
  case members.isTrue same => rw [members, same]
  case current.isTrue same => rwa [same]
  case strap.isTrue same => rwa [same]
  case current.isFalse => exact .inl rfl
  case strap.isFalse => exact id
  case members.isFalse => rfl

/-! ### Changes beside the pockets -/

/-- A change that leaves what the laws of pockets and groups read. -/
structure Aside (s t : State) : Prop where
  /-- the records -/
  pockets : t.pocket.pockets = s.pocket.pockets
  /-- QUARANTINE_POCKET -/
  quarantine : t.pocket.quarantine = s.pocket.quarantine
  /-- QUARANTINE_LIMIT -/
  limit : t.pocket.limit = s.pocket.limit
  /-- manifest -/
  manifest : t.pocket.manifest = s.pocket.manifest
  /-- groups -/
  lists : SameLists s t

theorem Aside.of_units {s t : State} (pocket : t.pocket = s.pocket) (lists : SameLists s t) : Aside s t :=
  ⟨by rw [pocket], by rw [pocket], by rw [pocket], by rw [pocket], lists⟩

theorem Aside.refl (s : State) : Aside s s := .of_units rfl (.of_groups rfl)

theorem Aside.trans {s t u : State} (one : Aside s t) (two : Aside t u) : Aside s u :=
  ⟨two.pockets.trans one.pockets, two.quarantine.trans one.quarantine, two.limit.trans one.limit, two.manifest.trans one.manifest,
    one.lists.trans two.lists⟩

theorem Aside.of_work {touched : List Block} {s t : State} (work : QuietWork touched s t)
    (untouched : apart [.pocket, .group] touched = true := by rfl) : Aside s t := by
  have group : t.group = s.group := work.stands .group (apart_mono untouched)
  exact .of_units (work.stands .pocket (apart_mono untouched)) (.of_groups (by rw [group]))

theorem Aside.foldl {α : Type} {f : State → α → State} (aside : ∀ s a, Aside s (f s a)) (list : List α) (s : State) :
    Aside s (list.foldl f s) := by
  induction list generalizing s with
  | nil => exact .refl s
  | cons a rest ih => exact (aside s a).trans (ih _)

theorem Aside.putGroup {k : GroupNo} {r : GroupRec} {s : State} (members : r.members = (groupAt k s).members)
    (current : r.current = (groupAt k s).current ∨ ∃ g ∈ (groupAt k s).members, r.current = some g)
    (strap : 1 ≤ (groupAt k s).strap → 1 ≤ r.strap) : Aside s (putGroup k r s) :=
  .of_units rfl (.putGroup members current strap)

theorem Aside.arm (k : GroupNo) (armed : Bool) (s : State) : Aside s (Machine.putGroup k { groupAt k s with armed := armed } s) :=
  .putGroup rfl (.inl rfl) id

theorem recountGroup_aside (k : GroupNo) (item : Option Word) (s : State) : Aside s (recountGroup k item s) := by
  simp only [recountGroup]
  split
  · split
    · exact (Aside.arm k false s).trans (.of_work (emit_work (touched := []) _ _).toQuietWork)
    · exact .refl s
  · split
    · exact .refl s
    · exact .arm k true s

theorem setArm_aside (k : GroupNo) (s : State) : Aside s (setArm k s) := .arm k _ s

theorem memberChanged_aside (g : Gate) (old : PocketState) (item : Option Word) (s : State) : Aside s (memberChanged g old item s) := by
  unfold memberChanged
  split
  · exact .refl s
  · simp only
    split
    · exact .refl s
    · exact (Aside.of_work (endCauseIf_work (touched := []) (by simp) _ s).toQuietWork).trans (recountGroup_aside _ _ _)

theorem memberCleared_aside (g : Gate) (s : State) : Aside s (memberCleared g s) := by
  unfold memberCleared
  split
  · exact .refl s
  · exact (Aside.of_work (endCauseIf_work (touched := []) (by simp) _ s).toQuietWork).trans (recountGroup_aside _ _ _)

theorem closeBrick_aside (i : Fin 16) (complete : Bool) (s : State) : Aside s (closeBrick i complete s) := by
  unfold closeBrick
  split
  · exact .refl s
  case h_2 a _ =>
    let s1 := (s.setGroup { s.group with nextBrick := nextNumber s.group.nextBrick s.freeCount }).setFreeCount
      (drawNumber s.group.nextBrick s.freeCount)
    have reported : QuietWork [] s1 (bump .bricks (emit (.brick { number := s.group.nextBrick, complete := complete, acc := a }) s1)) :=
      ((emit_work (touched := []) _ _).trans (bump_work (touched := []) _ _) (touched := [])).toQuietWork
    have numbered : Aside s s1 := .of_units rfl (.of_groups rfl)
    exact (numbered.trans (.of_work reported)).trans (.of_units rfl (.of_groups rfl))

theorem completeBrick_aside (i : Option (Fin 16)) (k : GroupNo) (s : State) : Aside s (completeBrick i k s) := by
  unfold completeBrick
  split
  · exact .refl s
  · split
    · split
      · exact closeBrick_aside _ _ s
      · exact .refl s
    · exact .refl s

theorem closeBundle_aside (g : Gate) (r : PocketRec) (close : BundleClose) (s : State) : Aside s (closeBundle g r close s) := by
  unfold closeBundle
  split
  · exact .refl s
  case h_2 k _ =>
    extract_lets number count s0 s1 code acc s2 report
    have numbered : Aside s s1 := ⟨rfl, rfl, rfl, rfl, .of_groups rfl⟩
    have joined : Aside s1 s2 := by
      clear_value acc code
      simp only [s2]
      split
      · exact .of_units rfl (.of_groups rfl)
      · exact .refl s1
    have reported : QuietWork [] s2 (bump .bundles (emit report s2)) :=
      ((emit_work (touched := []) _ _).trans (bump_work (touched := []) _ _) (touched := [])).toQuietWork
    exact ((numbered.trans joined).trans (.of_work reported)).trans (completeBrick_aside _ _ _)

/-! ### The laws of pockets and groups, of any number in flight -/

/-- A record as the role of its pocket asks (R79). -/
structure RoleHolds (s : State) (g : Gate) (r : PocketRec) : Prop where
  /-- a member -/
  member : ∀ k, groupOf g s = some k → MemberLaw r
  /-- the quarantine pocket -/
  quarantine : s.pocket.quarantine = some g → r.committed ≤ s.pocket.limit ∧ s.pocket.manifest.length = r.confirmed ∧
    r.state = if r.committed = s.pocket.limit then .full else .openState
  /-- any other pocket -/
  other : groupOf g s = none → s.pocket.quarantine ≠ some g → r.state = .unassigned ∧ r.committed = 0 ∧ r.confirmed = 0 ∧ r.target = none

/-- The laws of groups and pockets, where the number of items in flight to each pocket is given: an item between two works stands in no
queue. -/
structure PocketsHold (s : State) (flying : Gate → Nat) : Prop where
  /-- groups -/
  groups : GroupLaw s
  /-- QUARANTINE_LIMIT (R96) -/
  limit : 1 ≤ s.pocket.limit
  /-- law 1 (R79) -/
  flight : ∀ g, (pocketAt g s).committed = (pocketAt g s).confirmed + flying g
  /-- the records (R79) -/
  role : ∀ g, RoleHolds s g (pocketAt g s)

theorem pocketsHold_iff (s : State) : PocketsHold s (destined · s) ∧ (∀ e ∈ s.track.queue, e.shadow.isSome → e.dest = .runOut) ↔
    GroupLaw s ∧ PocketLaw s := by
  constructor
  · intro ⟨⟨groups, limit, flight, role⟩, shadow⟩
    exact ⟨groups, flight, limit, fun q => (role q).quarantine, fun g => (role g).member, shadow, fun g => (role g).other⟩
  · intro ⟨groups, flight, limit, quarantine, member, shadow, other⟩
    exact ⟨⟨groups, limit, flight, fun g => ⟨member g, quarantine g, other g⟩⟩, shadow⟩

theorem RoleHolds.congr {s t : State} {g : Gate} {r r' : PocketRec} (holds : RoleHolds s g r) (group : groupOf g t = groupOf g s)
    (quarantine : t.pocket.quarantine = s.pocket.quarantine) (limit : t.pocket.limit = s.pocket.limit)
    (manifest : t.pocket.manifest = s.pocket.manifest) (committed : r'.committed = r.committed) (confirmed : r'.confirmed = r.confirmed)
    (state : r'.state = r.state) (target : r'.target = r.target) : RoleHolds t g r' := by
  refine ⟨?_, ?_, ?_⟩
  · rw [group, MemberLaw, committed, confirmed, state, target]
    exact holds.member
  · rw [quarantine, limit, manifest, committed, confirmed, state]
    exact holds.quarantine
  · rw [group, quarantine, committed, confirmed, state, target]
    exact holds.other

theorem GroupLaw.of_lists {s t : State} (law : GroupLaw s) (lists : SameLists s t) (quarantine : t.pocket.quarantine = s.pocket.quarantine) :
    GroupLaw t where
  members := by
    have members := law.members
    rw [groups_toList, List.flatMap_map] at members ⊢
    simpa only [lists.members] using members
  quarantine := by
    rw [quarantine]
    intro q isQ
    rw [groupOf_congr lists.members]
    exact law.quarantine q isQ
  current k := by
    obtain same | ⟨g, isMember, isCurrent⟩ := lists.current k
    · rw [same, lists.members k]
      exact law.current k
    · rw [isCurrent, lists.members k]
      exact isMember
  strap k := lists.strap k (law.strap k)

theorem PocketsHold.aside {s t : State} {flying : Gate → Nat} (holds : PocketsHold s flying) (aside : Aside s t) : PocketsHold t flying := by
  have pocket := pocketAt_congr aside.pockets
  refine ⟨holds.groups.of_lists aside.lists aside.quarantine, aside.limit ▸ holds.limit, fun g => ?_, fun g => ?_⟩
  · rw [pocket]
    exact holds.flight g
  · rw [pocket]
    exact (holds.role g).congr (groupOf_congr aside.lists.members g) aside.quarantine aside.limit aside.manifest rfl rfl rfl rfl

theorem PocketsHold.of_work {touched : List Block} {s t : State} {flying : Gate → Nat} (holds : PocketsHold s flying)
    (work : QuietWork touched s t) (untouched : apart [.pocket, .group] touched = true := by rfl) : PocketsHold t flying :=
  holds.aside (.of_work work untouched)

/-- The count of items in flight alone is read. -/
theorem PocketsHold.flying {s : State} {flying others : Gate → Nat} (holds : PocketsHold s flying) (same : ∀ g, others g = flying g) :
    PocketsHold s others := (funext same : others = flying) ▸ holds

/-- One record replaced, in its role, with the items in flight to its pocket. -/
theorem PocketsHold.put {s : State} {flying others : Gate → Nat} (holds : PocketsHold s flying) {g : Gate} {r : PocketRec}
    (role : RoleHolds s g r) (flight : r.committed = r.confirmed + others g) (same : ∀ h, h ≠ g → others h = flying h) :
    PocketsHold (putPocket g r s) others := by
  refine ⟨holds.groups.of_lists (.of_groups rfl) rfl, holds.limit, fun h => ?_, fun h => ?_⟩ <;> rw [pocketAt_putPocket] <;> split
  case refine_1.isTrue here => rw [here, flight]
  case refine_1.isFalse there => rw [same h there]; exact holds.flight h
  case refine_2.isTrue here => subst here; exact role.congr rfl rfl rfl rfl rfl rfl rfl rfl
  case refine_2.isFalse => exact (holds.role h).congr rfl rfl rfl rfl rfl rfl rfl rfl

/-- A member is not the quarantine pocket. -/
theorem GroupLaw.not_quarantine {s : State} (law : GroupLaw s) {g : Gate} {k : GroupNo} (isMember : groupOf g s = some k) :
    s.pocket.quarantine ≠ some g := fun isQ => by simp [law.quarantine g isQ] at isMember

theorem PocketsHold.memberRole {s : State} {flying : Gate → Nat} (holds : PocketsHold s flying) {g : Gate} {k : GroupNo}
    (isMember : groupOf g s = some k) {r : PocketRec} (law : MemberLaw r) : RoleHolds s g r :=
  ⟨fun _ _ => law, fun isQ => absurd isQ (holds.groups.not_quarantine isMember), fun none => by simp [isMember] at none⟩

/-- The unit with the record of the quarantine pocket replaced, and its limit and manifest. -/
theorem PocketsHold.setQuarantine {s : State} {flying others : Gate → Nat} (holds : PocketsHold s flying) {q : Gate}
    (isQ : s.pocket.quarantine = some q) {u : PocketUnit} {r : PocketRec} (pockets : u.pockets = s.pocket.pockets.set q r)
    (quarantine : u.quarantine = some q) (limit : 1 ≤ u.limit) (flight : r.committed = r.confirmed + others q)
    (same : ∀ h, h ≠ q → others h = flying h) (committed : r.committed ≤ u.limit) (manifest : u.manifest.length = r.confirmed)
    (state : r.state = if r.committed = u.limit then .full else .openState) : PocketsHold (s.setPocket u) others := by
  have pocket (h : Gate) : pocketAt h (s.setPocket u) = if h = q then r else pocketAt h s := by
    rw [← pocketAt_putPocket]
    exact pocketAt_congr pockets h
  have notMember := holds.groups.quarantine q isQ
  refine ⟨holds.groups.of_lists (.of_groups rfl) (quarantine.trans isQ.symm), limit, fun h => ?_, fun h => ?_⟩ <;>
    rw [pocket] <;> split
  case refine_1.isTrue here => rw [here, flight]
  case refine_1.isFalse there => rw [same h there]; exact holds.flight h
  case refine_2.isTrue here =>
    subst here
    refine ⟨fun k isMember => ?_, fun _ => ⟨committed, manifest, state⟩, fun _ notQ => absurd quarantine notQ⟩
    exact absurd (notMember.symm.trans isMember) (by simp)
  case refine_2.isFalse there =>
    refine ⟨(holds.role h).member, fun isH => absurd (Option.some.inj (isH.symm.trans quarantine)) there, fun none _ => ?_⟩
    exact (holds.role h).other none fun isH => there (Option.some.inj (isH.symm.trans isQ))

/-! ### Records of members (R79, R81, R84, R90, R91, R93) -/

/-- A bundle that is empty keeps the law. -/
theorem MemberLaw.emptied (r : PocketRec) (recount : Bool) : MemberLaw { r.emptied .openState with recount := recount } :=
  ⟨rfl, rfl, rfl⟩

theorem MemberLaw.congr {r r' : PocketRec} (law : MemberLaw r) (committed : r'.committed = r.committed)
    (confirmed : r'.confirmed = r.confirmed) (state : r'.state = r.state) (target : r'.target = r.target) : MemberLaw r' := by
  rw [MemberLaw, committed, confirmed, state, target]
  exact law

/-- A member is never UNASSIGNED. -/
theorem MemberLaw.not_unassigned {r : PocketRec} (law : MemberLaw r) : r.state ≠ .unassigned := by
  unfold MemberLaw at law
  split at law
  · simp [law.2.2]
  · rw [law.2.2]
    split
    · simp
    · split <;> simp

/-- A FULL member has every place confirmed. -/
theorem MemberLaw.full {r : PocketRec} (law : MemberLaw r) (isFull : r.state = .full) (counts : r.confirmed ≤ r.committed) :
    r.confirmed = r.committed ∧ 0 < r.committed ∧ r.target = some r.confirmed := by
  unfold MemberLaw at law
  split at law
  · simp [law.2.2] at isFull
  case h_2 t target =>
    obtain ⟨most, some_, state⟩ := law
    rw [state] at isFull
    split at isFull
    case isTrue all => exact ⟨by omega, some_, by rw [target, all]⟩
    case isFalse => split at isFull <;> cases isFull

/-- A member that is not FULL, with a place taken, has its target, and not every place of it confirmed. -/
theorem MemberLaw.notFull {r : PocketRec} (law : MemberLaw r) (notFull : r.state ≠ .full) (taken : 0 < r.committed) :
    ∃ t, r.target = some t ∧ r.committed ≤ t ∧ r.confirmed ≠ t ∧ r.state = if r.committed = t then .closing else .openState := by
  unfold MemberLaw at law
  split at law
  · omega
  case h_2 t target =>
    obtain ⟨most, -, state⟩ := law
    split at state
    · exact absurd state notFull
    case isFalse more => exact ⟨t, target, most, more, state⟩

/-- A commitment at an OPEN member takes one place (R81). -/
theorem MemberLaw.commit {r : PocketRec} (law : MemberLaw r) (isOpen : r.state = .openState) {strap : Nat}
    (atLeastOne : 1 ≤ strap) (depositPure : Bool) (denom : Option Denom) (deposit : DepositKey) :
    MemberLaw (r.commit strap depositPure denom deposit) := by
  cases target : r.target with
  | none =>
    obtain ⟨committed, confirmed, -⟩ : r.committed = 0 ∧ r.confirmed = 0 ∧ r.state = .openState := by simpa [MemberLaw, target] using law
    have state : (if (0 : Nat) = strap then PocketState.full else if 1 = strap then .closing else .openState) =
        if strap = 1 then .closing else .openState := by
      rw [if_neg (by omega)]
      exact if_congr eq_comm rfl rfl
    simp [MemberLaw, PocketRec.commit, target, committed, confirmed, state, atLeastOne]
  | some t =>
    have notFull : r.state ≠ .full := by simp [isOpen]
    obtain taken | none := Nat.eq_zero_or_pos r.committed |>.symm
    · obtain ⟨t', isTarget, most, more, state⟩ := law.notFull notFull taken
      obtain rfl := Option.some.inj (target.symm.trans isTarget)
      have room : r.committed ≠ t := fun all => by simp [all, isOpen] at state
      simp only [MemberLaw, PocketRec.commit, target]
      refine ⟨by omega, by omega, ?_⟩
      rw [if_neg more]
      exact if_congr (by rw [Option.some.injEq, eq_comm]) rfl rfl
    · have taken : 0 < r.committed := by
        unfold MemberLaw at law
        rw [target] at law
        exact law.2.1
      omega

theorem PocketRec.commit_committed (r : PocketRec) (strap : Nat) (depositPure : Bool) (denom : Option Denom) (deposit : DepositKey) :
    (r.commit strap depositPure denom deposit).committed = r.committed + 1 := rfl

theorem PocketRec.commit_confirmed (r : PocketRec) (strap : Nat) (depositPure : Bool) (denom : Option Denom) (deposit : DepositKey) :
    (r.commit strap depositPure denom deposit).confirmed = r.confirmed := by
  simp only [PocketRec.commit]
  split <;> rfl

theorem PocketRec.confirm_counts (r : PocketRec) (key : DepositKey) :
    (r.confirm key).committed = r.committed ∧ (r.confirm key).confirmed = r.confirmed + 1 ∧ (r.confirm key).target = r.target ∧
      (r.confirm key).state = if r.target = some (r.confirmed + 1) then .full else r.state := by
  simp only [PocketRec.confirm]
  split <;> exact ⟨rfl, rfl, rfl, rfl⟩

/-- A confirmation of an item in flight (R84). -/
theorem MemberLaw.confirm {r : PocketRec} (law : MemberLaw r) (counts : r.confirmed < r.committed) (key : DepositKey) :
    MemberLaw (r.confirm key) := by
  obtain ⟨committed, confirmed, target, state⟩ := r.confirm_counts key
  have notFull : r.state ≠ .full := fun isFull => by have := (law.full isFull counts.le).1; omega
  obtain ⟨t, isTarget, most, more, before⟩ := law.notFull notFull (by omega)
  rw [MemberLaw, target, isTarget, committed, confirmed, state, before, isTarget]
  refine ⟨most, by omega, ?_⟩
  exact if_congr (by rw [Option.some.injEq, eq_comm]) rfl rfl

/-- An odd close fixes the target at the places taken (R90). -/
theorem MemberLaw.odd (r : PocketRec) (taken : 0 < r.committed) :
    MemberLaw { r with target := some r.committed, closing := .odd, state := if r.confirmed = r.committed then .full else .closing } := by
  simp [MemberLaw, taken]

/-- A withdrawal of places in flight (R91). -/
theorem MemberLaw.withdraw {r : PocketRec} (law : MemberLaw r) {n : Nat} (some_ : 0 < n) (inFlight : r.confirmed + n ≤ r.committed) :
    MemberLaw (r.withdraw n) := by
  have notFull : r.state ≠ .full := fun isFull => by have := (law.full isFull (by omega)).1; omega
  obtain ⟨t, isTarget, most, more, before⟩ := law.notFull notFull (by omega)
  have state : (if r.state = .closing then PocketState.openState else r.state) = .openState := by
    rw [before]
    split <;> simp
  simp only [PocketRec.withdraw, state]
  split
  · exact .emptied r false
  case isFalse left =>
    simp only [MemberLaw, isTarget]
    refine ⟨by omega, by omega, ?_⟩
    rw [if_neg more, if_neg (by omega)]

theorem PocketRec.withdraw_counts (r : PocketRec) (n : Nat) :
    (r.withdraw n).committed = r.committed - n ∧ (r.withdraw n).confirmed = r.confirmed := by
  simp only [PocketRec.withdraw]
  split
  case isTrue none => exact ⟨none.1.symm, none.2.symm⟩
  case isFalse => exact ⟨rfl, rfl⟩

/-- A carried bundle holds the places in flight (R93). -/
theorem MemberLaw.carry {r : PocketRec} (flying : 0 < r.inFlight) (strap : Nat) : MemberLaw (r.carry strap) := by
  cases closing : r.closing with
  | full =>
    simp only [MemberLaw, PocketRec.carry, closing]
    refine ⟨le_max_right _ _, flying, ?_⟩
    have some_ : 0 ≠ max strap r.inFlight := by omega
    rw [if_neg some_]
    exact if_congr eq_comm rfl rfl
  | odd =>
    simp only [MemberLaw, PocketRec.carry, closing]
    exact ⟨le_rfl, flying, (if_neg flying.ne).symm⟩

/-! ### Operations of the Pocket Controller -/

/-- The items in flight with one more for a pocket, or the run-out. -/
def oneMore (dest : Dest) (flying : Gate → Nat) (g : Gate) : Nat := flying g + if dest = .gated g then 1 else 0

@[simp] theorem oneMore_runOut (flying : Gate → Nat) : oneMore .runOut flying = flying := by
  funext g
  simp [oneMore]

theorem oneMore_same (g : Gate) (flying : Gate → Nat) : oneMore (.gated g) flying g = flying g + 1 := by simp [oneMore]

theorem oneMore_other {g h : Gate} (other : h ≠ g) (flying : Gate → Nat) : oneMore (.gated g) flying h = flying h := by
  simp [oneMore, Ne.symm other]

theorem PocketsHold.counts {s : State} {flying : Gate → Nat} (holds : PocketsHold s flying) (g : Gate) :
    (pocketAt g s).confirmed ≤ (pocketAt g s).committed := by
  rw [holds.flight g]
  exact Nat.le_add_right _ _

/-- A commitment at an OPEN member (R81, R110). -/
theorem PocketsHold.commitMember {s : State} {flying : Gate → Nat} (holds : PocketsHold s flying) {k : GroupNo} {g : Gate}
    (isMember : g ∈ (groupAt k s).members) (isOpen : (pocketAt g s).state = .openState) (denom : Option Denom) (item : Word) :
    PocketsHold (commitMember k g denom item s) (oneMore (.gated g) flying) := by
  obtain ⟨j, group⟩ := groupOf_isSome_of_mem isMember
  have current : Aside s (putGroup k { groupAt k s with current := some g } s) := .putGroup rfl (.inr ⟨g, isMember, rfl⟩) id
  have law := ((holds.role g).member j group).commit isOpen (holds.groups.strap k) (groupAt k s).depositPure denom (openKey s)
  refine PocketsHold.aside ?_ (memberChanged_aside g _ _ _)
  refine (holds.aside current).put ((holds.aside current).memberRole ((groupOf_congr current.lists.members g).trans group) law) ?_
    fun h other => oneMore_other other flying
  rw [PocketRec.commit_committed, PocketRec.commit_confirmed, oneMore_same, holds.flight g]
  exact Nat.add_assoc _ _ _

/-- A commitment at the quarantine pocket, not yet FULL (R96). -/
theorem PocketsHold.commitQuarantine {s : State} {flying : Gate → Nat} (holds : PocketsHold s flying) {q : Gate}
    (isQ : s.pocket.quarantine = some q) (notFull : (pocketAt q s).state ≠ .full) :
    PocketsHold (commitQuarantine q s) (oneMore (.gated q) flying) := by
  obtain ⟨most, manifest, state⟩ := (holds.role q).quarantine isQ
  have room : (pocketAt q s).committed ≠ s.pocket.limit := fun all => notFull (state.trans (if_pos all))
  have flight : (pocketAt q s).committed + 1 = (pocketAt q s).confirmed + oneMore (.gated q) flying q := by
    rw [oneMore_same, holds.flight q, Nat.add_assoc]
  simp only [Machine.commitQuarantine]
  split
  case isTrue last =>
    refine PocketsHold.of_work ?_ (raiseCause_work (touched := []) (by simp) _).toQuietWork
    exact holds.setQuarantine isQ rfl isQ holds.limit flight (fun h other => oneMore_other other flying) (by dsimp only; omega) manifest
      (if_pos last).symm
  case isFalse more =>
    exact holds.setQuarantine isQ rfl isQ holds.limit flight (fun h other => oneMore_other other flying) (by dsimp only; omega) manifest
      (by dsimp only; rw [state, if_neg room, if_neg more])

/-- A confirmation of an item in flight, at its destination (R84, R97, R101). -/
theorem PocketsHold.confirmAt {s : State} {flying : Gate → Nat} {e : Entry} (holds : PocketsHold s (oneMore e.dest flying)) :
    PocketsHold (confirmAt e s) flying := by
  unfold Machine.confirmAt
  split
  case h_1 dest =>
    rw [dest, oneMore_runOut] at holds
    exact holds.aside ⟨rfl, rfl, rfl, rfl, .of_groups rfl⟩
  case h_2 g dest =>
    rw [dest] at holds
    have flight := holds.flight g
    rw [oneMore_same] at flight
    split
    case isTrue isQ =>
      obtain ⟨most, manifest, state⟩ := (holds.role g).quarantine isQ
      refine PocketsHold.of_work ?_ (modifySlot_work e.slot _ _).toQuietWork
      exact holds.setQuarantine isQ (r := { pocketAt g s with confirmed := (pocketAt g s).confirmed + 1 })
        (u := { s.pocket with
          pockets := s.pocket.pockets.set g { pocketAt g s with confirmed := (pocketAt g s).confirmed + 1 }
          manifest := s.pocket.manifest ++ [{ item := e.item, depositId := depositId e.slot s, denom := e.denom
                                              serial := e.serial, caseRef := e.caseRef, reason := e.reason }] }) rfl isQ holds.limit
        (by dsimp only; omega) (fun h other => (oneMore_other other flying).symm) most (by simp [manifest]) state
    case isFalse notQ =>
      cases group : groupOf g s with
      | none =>
        have empty := (holds.role g).other group notQ
        omega
      | some k =>
        have law := (holds.role g).member k group
        have confirmed := law.confirm (r := pocketAt g s) (by omega) (.ofId (depositId e.slot s))
        obtain ⟨committed', confirmed', -, -⟩ := (pocketAt g s).confirm_counts (.ofId (depositId e.slot s))
        have put : PocketsHold (putPocket g ((pocketAt g s).confirm (.ofId (depositId e.slot s))) s) flying :=
          holds.put (holds.memberRole group confirmed) (by omega) fun h other => (oneMore_other other flying).symm
        simp only [confirmMember]
        generalize putPocket g ((pocketAt g s).confirm (.ofId (depositId e.slot s))) s = s1 at put
        have counted : PocketsHold (countAccepted e.slot e.denom s1) flying := put.of_work (modifySlot_work e.slot _ s1).toQuietWork
        have tallied : PocketsHold (match e.denom with
            | some d => takeBacklog (bumpQuiet (.accepted d) (countAccepted e.slot e.denom s1))
            | none => countAccepted e.slot e.denom s1) flying := by
          split
          · exact counted.of_work (bumpTally_work (touched := []) _ _).toQuietWork
          · exact counted
        split
        · exact (tallied.aside (closeBundle_aside _ _ _ _)).aside (memberChanged_aside _ _ _ _)
        · exact tallied

/-- A recount mark changes no count (R86). -/
theorem PocketsHold.recountMark {s : State} {flying : Gate → Nat} (holds : PocketsHold s flying) (p : Dest) :
    PocketsHold (recountMark p s) flying := by
  have marked (g : Gate) {r : PocketRec} (committed : r.committed = (pocketAt g s).committed) (confirmed : r.confirmed = (pocketAt g s).confirmed)
      (state : r.state = (pocketAt g s).state) (target : r.target = (pocketAt g s).target) : PocketsHold (putPocket g r s) flying :=
    holds.put ((holds.role g).congr rfl rfl rfl rfl committed confirmed state target) (by rw [committed, confirmed]; exact holds.flight g)
      fun _ _ => rfl
  unfold Machine.recountMark
  split
  · exact holds
  · simp only
    split
    · exact marked _ rfl rfl rfl rfl
    · split
      · exact marked _ rfl rfl rfl rfl
      · exact marked _ rfl rfl rfl rfl
      · exact marked _ rfl rfl rfl rfl
      · exact holds

/-- An odd close asked of a member (R90). -/
theorem PocketsHold.oddClose {s : State} {flying : Gate → Nat} (holds : PocketsHold s flying) {g : Gate} {k : GroupNo}
    (isMember : g ∈ (groupAt k s).members) : PocketsHold (oddClose g s) flying := by
  obtain ⟨j, group⟩ := groupOf_isSome_of_mem isMember
  unfold Machine.oddClose
  simp only
  split
  case isFalse => exact holds
  case isTrue closable =>
    have taken : 0 < (pocketAt g s).committed := by
      simp only [PocketRec.oddClosable, Bool.and_eq_true, decide_eq_true_eq] at closable
      exact closable.2
    have put := holds.put (others := flying) (holds.memberRole group (.odd (pocketAt g s) taken)) (holds.flight g) fun _ _ => rfl
    split
    case isTrue all =>
      rw [if_pos all] at put
      exact (put.aside (closeBundle_aside _ _ _ _)).aside (memberChanged_aside _ _ _ _)
    case isFalse more =>
      rw [if_neg more] at put
      exact put.aside (memberChanged_aside _ _ _ _)

/-- A withdrawal of items in flight to a pocket (R91, R100). -/
theorem PocketsHold.withdrawAt {s : State} {flying others : Gate → Nat} (holds : PocketsHold s flying) {g : Gate} {n : Nat}
    (lost : flying g = n + others g) (same : ∀ h, h ≠ g → others h = flying h) : PocketsHold (withdrawAt g n s) others := by
  have flight := holds.flight g
  unfold Machine.withdrawAt
  split
  case isTrue none =>
    refine holds.flying fun h => ?_
    by_cases here : h = g
    · rw [here]
      omega
    · exact same h here
  case isFalse some_ =>
    split
    case isTrue isQ =>
      obtain ⟨most, manifest, state⟩ := (holds.role g).quarantine isQ
      simp only [Machine.withdrawQuarantine]
      split
      case isTrue reopens =>
        refine PocketsHold.of_work ?_ (endCause_work (touched := []) (by simp) _).toQuietWork
        exact holds.setQuarantine isQ rfl isQ holds.limit (by dsimp only; omega) same (by dsimp only; omega) manifest
          (if_neg (by dsimp only [State.setPocket_pocket]; omega)).symm
      case isFalse stays =>
        have below : (pocketAt g s).committed - n ≠ s.pocket.limit := by omega
        have notFull : (pocketAt g s).state ≠ .full := fun isFull => stays ⟨isFull, by omega⟩
        have room : (pocketAt g s).committed ≠ s.pocket.limit := fun all => notFull (state.trans (if_pos all))
        exact holds.setQuarantine isQ rfl isQ holds.limit (by dsimp only; omega) same (by dsimp only; omega) manifest
          (by dsimp only; rw [state, if_neg room, if_neg below])
    case isFalse notQ =>
      simp only
      cases group : groupOf g s with
      | none =>
        have empty := (holds.role g).other group notQ
        omega
      | some k =>
        have law := (holds.role g).member k group
        obtain ⟨committed, confirmed⟩ := (pocketAt g s).withdraw_counts n
        refine PocketsHold.aside ?_ (memberChanged_aside _ _ _ _)
        exact holds.put (holds.memberRole group (law.withdraw (by omega) (by omega))) (by omega) same

/-- The withdrawals of a jam take every item in flight off the pockets (R91, R144). -/
theorem PocketsHold.withdrawAll {s : State} {lost : List Entry}
    (holds : PocketsHold s fun g => lost.countP fun e => e.dest == .gated g) : PocketsHold (withdrawAll lost s) fun _ => 0 := by
  have emptied (gates : List Gate) (once : gates.Nodup) {s : State} {flying : Gate → Nat} (holds : PocketsHold s flying)
      (counts : ∀ g ∈ gates, flying g = lost.countP fun e => e.dest == .gated g) :
      PocketsHold (gates.foldl (fun s g => Machine.withdrawAt g (lost.countP fun e => e.dest == .gated g) s) s)
        fun g => if g ∈ gates then 0 else flying g := by
    induction gates generalizing s flying with
    | nil => exact holds.flying (by simp)
    | cons g rest ih =>
      obtain ⟨notRest, once'⟩ := List.nodup_cons.mp once
      have one := holds.withdrawAt (others := fun h => if h = g then 0 else flying h) (g := g)
        (by rw [if_pos rfl]; exact counts g List.mem_cons_self) fun h other => if_neg other
      refine (ih once' one fun h inRest => ?_).flying fun h => ?_
      · have other : h ≠ g := by
          rintro rfl
          exact notRest inRest
        rw [if_neg other]
        exact counts h (List.mem_cons_of_mem _ inRest)
      · by_cases here : h = g
        · simp [here]
        · simp [here]
  have all (g : Gate) : g ∈ allGates := by decide +revert
  exact (emptied allGates (by decide) holds fun _ _ => rfl).flying fun g => by simp [all]

/-- The pocket-cleared input at a gated pocket that is not the quarantine pocket (R92). -/
theorem PocketsHold.clearMember {s : State} {flying : Gate → Nat} (holds : PocketsHold s flying) {g : Gate}
    (notQ : s.pocket.quarantine ≠ some g) : PocketsHold (clearMember g s) flying := by
  have flight := holds.flight g
  have cleared {s : State} (holds : PocketsHold s flying) : PocketsHold (memberCleared g s) flying :=
    holds.aside (memberCleared_aside g s)
  have member (notUnassigned : (pocketAt g s).state ≠ .unassigned) : ∃ k, groupOf g s = some k := by
    cases group : groupOf g s with
    | none => exact absurd ((holds.role g).other group notQ).1 notUnassigned
    | some k => exact ⟨k, rfl⟩
  have bundled (close : BundleClose) : Aside s (closeBundle g (pocketAt g s) close s) := closeBundle_aside _ _ _ _
  have put {t : State} (aside : Aside s t) (notUnassigned : (pocketAt g s).state ≠ .unassigned) {r : PocketRec} (law : MemberLaw r)
      (counts : r.committed = r.confirmed + flying g) : PocketsHold (putPocket g r t) flying := by
    obtain ⟨k, group⟩ := member notUnassigned
    exact (holds.aside aside).put ((holds.aside aside).memberRole ((groupOf_congr aside.lists.members g).trans group) law) counts fun _ _ => rfl
  unfold Machine.clearMember
  simp only
  split
  case h_1 => exact holds.of_work (bump_work (touched := []) _ s).toQuietWork
  case h_2 isFull =>
    obtain ⟨k, group⟩ := member (by simp [isFull])
    obtain ⟨all, -, -⟩ := ((holds.role g).member k group).full isFull (holds.counts g)
    exact cleared (put (.refl s) (by simp [isFull]) (.emptied _ _) (by dsimp only [PocketRec.emptied, PocketRec.fresh]; omega))
  case h_3 state | h_4 state =>
    have notUnassigned : (pocketAt g s).state ≠ .unassigned := by simp [state]
    split
    case isTrue flies =>
      have before : Aside s (if 0 < (pocketAt g s).confirmed then closeBundle g (pocketAt g s) .removedEarly s else s) := by
        split
        · exact bundled _
        · exact .refl s
      exact cleared (put before notUnassigned (.carry flies _) (by dsimp only [PocketRec.carry, PocketRec.inFlight]; omega))
    case isFalse none =>
      simp only [PocketRec.inFlight] at none
      split
      case isTrue => exact cleared (put (bundled _) notUnassigned (.emptied _ false) (by dsimp only [PocketRec.emptied, PocketRec.fresh]; omega))
      case isFalse =>
        obtain ⟨k, group⟩ := member notUnassigned
        have law : MemberLaw { pocketAt g s with recount := false, manyDeposits := false, carried := false } :=
          ((holds.role g).member k group).congr rfl rfl rfl rfl
        exact cleared ((put (.refl s) notUnassigned law flight).of_work (bump_work (touched := []) _ _).toQuietWork)

/-- The quarantine pocket emptied with nothing in flight (R98, R99). -/
theorem PocketsHold.emptyQuarantine {s : State} {flying : Gate → Nat} (holds : PocketsHold s flying) {q : Gate}
    (isQ : s.pocket.quarantine = some q) (arrived : ¬ 0 < (pocketAt q s).inFlight) (released : Bool) :
    PocketsHold (emptyQuarantine q released s) flying := by
  have flight := holds.flight q
  simp only [PocketRec.inFlight] at arrived
  unfold Machine.emptyQuarantine
  extract_lets r s1 s2 unit s3
  have reported : Aside s s1 := .of_work (emit_work (touched := []) _ s).toQuietWork
  have here := reported.quarantine.trans isQ
  have limit := (holds.aside reported).limit
  clear_value s1
  have emptied : PocketsHold s3 flying := (holds.aside reported).setQuarantine here
    (u := { s1.pocket with
      pockets := s1.pocket.pockets.set q { r with committed := 0, confirmed := 0, recount := false, state := .openState }
      manifest := [] }) rfl here limit (by dsimp only; omega) (fun _ _ => rfl) (Nat.zero_le _) rfl (if_neg (by dsimp only; omega)).symm
  split
  · exact emptied.of_work (endCause_work (touched := []) (by simp) _).toQuietWork
  · exact emptied

theorem PocketsHold.clearQuarantine {s : State} {flying : Gate → Nat} (holds : PocketsHold s flying) {q : Gate}
    (isQ : s.pocket.quarantine = some q) : PocketsHold (clearQuarantine q s) flying := by
  simp only [Machine.clearQuarantine]
  split
  case isTrue => exact holds.of_work (bump_work (touched := []) _ s).toQuietWork
  case isFalse arrived =>
    split
    case isTrue => exact holds.emptyQuarantine isQ arrived false
    case isFalse =>
      refine PocketsHold.of_work ?_ (bump_work (touched := []) _ _).toQuietWork
      exact holds.put ((holds.role q).congr rfl rfl rfl rfl rfl rfl rfl rfl) (holds.flight q) fun _ _ => rfl

theorem clearRunOut_aside (s : State) : Aside s (clearRunOut s) := by
  unfold clearRunOut
  split
  · exact .of_work (bump_work (touched := []) _ s).toQuietWork
  · exact (Aside.of_work (emit_work (touched := []) _ s).toQuietWork).trans ⟨rfl, rfl, rfl, rfl, .of_groups rfl⟩

theorem putPocket_lists (g : Gate) (r : PocketRec) (s : State) : SameLists s (putPocket g r s) := .of_groups rfl

theorem oddClose_lists (g : Gate) (s : State) : SameLists s (oddClose g s) := by
  unfold oddClose
  extract_lets r odd full
  split
  case isFalse => exact .of_groups rfl
  case isTrue =>
    split
    · have closed : SameLists s (closeBundle g full .odd (putPocket g full s)) :=
        (putPocket_lists g full s).trans (closeBundle_aside g full .odd _).lists
      exact closed.trans (memberChanged_aside _ _ _ _).lists
    · exact (putPocket_lists g _ s).trans (memberChanged_aside _ _ _ _).lists

/-- Odd closes asked of members of a group, one after another. -/
theorem PocketsHold.oddCloses {flying : Gate → Nat} (asks : Gate → State → Bool) (k : GroupNo) (gates : List Gate) {s : State}
    (holds : PocketsHold s flying) (inGroup : ∀ g ∈ gates, g ∈ (groupAt k s).members) :
    PocketsHold (gates.foldl (fun s g => if asks g s then Machine.oddClose g s else s) s) flying := by
  induction gates generalizing s with
  | nil => exact holds
  | cons g rest ih =>
    have one : PocketsHold (if asks g s then Machine.oddClose g s else s) flying := by
      split
      · exact holds.oddClose (inGroup g List.mem_cons_self)
      · exact holds
    have lists : SameLists s (if asks g s then Machine.oddClose g s else s) := by
      split
      · exact oddClose_lists g s
      · exact .of_groups rfl
    refine ih one fun h inRest => ?_
    rw [lists.members]
    exact inGroup h (List.mem_cons_of_mem _ inRest)

/-- The deposit-pure closures of a boundary (R115). -/
theorem PocketsHold.closePure {s : State} {flying : Gate → Nat} (holds : PocketsHold s flying) (key : DepositKey) :
    PocketsHold (closePure key s) flying := by
  have each (groups : List GroupNo) {s : State} (holds : PocketsHold s flying) :
      PocketsHold (groups.foldl (fun s k =>
        (groupAt k s).members.foldl (fun s g => if (pocketAt g s).closedBy key then Machine.oddClose g s else s) s) s) flying := by
    induction groups generalizing s with
    | nil => exact holds
    | cons k rest ih => exact ih (holds.oddCloses (fun g s => (pocketAt g s).closedBy key) k _ fun _ isMember => isMember)
  exact each allGroups holds

/-! ### Setting up -/

/-- The effect of GROUP_FLUSH (R116). -/
theorem PocketsHold.flushGroup {s : State} {flying : Gate → Nat} (holds : PocketsHold s flying) (k : GroupNo) :
    PocketsHold (flushGroup k s) flying := by
  have asked := holds.oddCloses (fun _ _ => true) k (groupAt k s).members fun _ isMember => isMember
  simp only [if_true] at asked
  exact asked.aside (.foldl (fun s i => closeBrick_aside i false s) _ _)

/-- The effect of POCKET_ENABLE (R114). -/
theorem PocketsHold.enablePocket {s : State} {flying : Gate → Nat} (holds : PocketsHold s flying) (g : Gate) (include_ : Bool) :
    PocketsHold (enablePocket g include_ s) flying := by
  have put : PocketsHold (putPocket g { pocketAt g s with enabled := include_ } s) flying :=
    holds.put ((holds.role g).congr rfl rfl rfl rfl rfl rfl rfl rfl) (holds.flight g) fun _ _ => rfl
  simp only [Machine.enablePocket]
  split
  · exact put
  · refine PocketsHold.aside ?_ (recountGroup_aside _ _ _)
    exact put.of_work (endCauseIf_work (touched := []) (by simp) _ _).toQuietWork

/-- QUARANTINE_LIMIT within its range, and not below the committed count (R96). -/
theorem PocketsHold.setQuarantineLimit {s : State} {flying : Gate → Nat} (holds : PocketsHold s flying) {limit : Nat} (inRange : 1 ≤ limit)
    (above : ∀ q, s.pocket.quarantine = some q → (pocketAt q s).committed ≤ limit) : PocketsHold (setQuarantineLimit limit s) flying := by
  unfold Machine.setQuarantineLimit
  simp only
  split
  case h_1 none =>
    exact ⟨holds.groups.of_lists (.of_groups rfl) rfl, inRange, holds.flight, fun g =>
      ⟨(holds.role g).member, fun isQ => absurd (none.symm.trans isQ) (by simp), (holds.role g).other⟩⟩
  case h_2 q isQ =>
    obtain ⟨most, manifest, state⟩ := (holds.role q).quarantine isQ
    have most' := above q isQ
    split
    case isTrue fills =>
      refine PocketsHold.of_work ?_ (raiseCause_work (touched := []) (by simp) _).toQuietWork
      exact holds.setQuarantine isQ rfl isQ inRange (holds.flight q) (fun _ _ => rfl) most' manifest (if_pos fills.2).symm
    case isFalse fillsNot =>
      split
      case isTrue reopens =>
        refine PocketsHold.of_work ?_ (endCause_work (touched := []) (by simp) _).toQuietWork
        exact holds.setQuarantine isQ rfl isQ inRange (holds.flight q) (fun _ _ => rfl) most' manifest
          (if_neg (by dsimp only [State.setPocket_pocket]; omega)).symm
      case isFalse stays =>
        refine holds.setQuarantine isQ (r := pocketAt q s) ?_ isQ inRange (holds.flight q) (fun _ _ => rfl) most' manifest ?_
        · exact (Vector.set_getElem_self _).symm
        · split
          case isTrue all =>
            refine Classical.byContradiction fun notFull => fillsNot ⟨?_, all⟩
            rw [state] at notFull ⊢
            split at notFull
            · exact absurd rfl notFull
            case isFalse more => exact if_neg more
          case isFalse more =>
            refine Classical.byContradiction fun notOpen => stays ⟨?_, Nat.lt_of_le_of_ne most' more⟩
            rw [state] at notOpen ⊢
            split at notOpen
            case isTrue all => exact if_pos all
            case isFalse => exact absurd rfl notOpen

end Sys2Proof.Machine
end

section
/-! SUPPORT. What a selection of the quarantine pocket, a group definition and a reset write, and the laws of R79 kept by them, by a
disposition decision and by a boundary. -/

set_option Elab.async false

namespace Sys2Proof.Machine

/-! ### The quarantine pocket selected (R95) -/

/-- The Pocket Controller with the bundle of a pocket, where there is one, empty. -/
def emptiedAt (g : Option Gate) (state : PocketState) (s : State) : State :=
  match g with
  | some q => putPocket q ((pocketAt q s).emptied state) s
  | none => s

theorem pocketAt_emptiedAt (q : Option Gate) (state : PocketState) (g : Gate) (s : State) :
    pocketAt g (emptiedAt q state s) = if q = some g then PocketRec.fresh state (pocketAt g s).enabled else pocketAt g s := by
  cases q with
  | none => simp [emptiedAt]
  | some q =>
    rw [emptiedAt, pocketAt_putPocket]
    by_cases here : g = q
    · simp [here, PocketRec.emptied]
    · simp [here, Ne.symm here]

theorem selectQuarantine_of_ne {new : Option Gate} {s : State} (changed : new ≠ s.pocket.quarantine) : selectQuarantine new s =
    (emptiedAt new .openState (emptiedAt s.pocket.quarantine .unassigned s)).setPocket
      { (emptiedAt new .openState (emptiedAt s.pocket.quarantine .unassigned s)).pocket with quarantine := new, manifest := [] } :=
  if_neg changed

/-- The records after another quarantine pocket is selected. -/
theorem pocketAt_selectQuarantine {new : Option Gate} {s : State} (changed : new ≠ s.pocket.quarantine) (g : Gate) :
    pocketAt g (selectQuarantine new s) = if new = some g then PocketRec.fresh .openState (pocketAt g s).enabled
      else if s.pocket.quarantine = some g then PocketRec.fresh .unassigned (pocketAt g s).enabled else pocketAt g s := by
  let former := emptiedAt s.pocket.quarantine .unassigned s
  have enabled : (pocketAt g former).enabled = (pocketAt g s).enabled := by
    rw [pocketAt_emptiedAt]
    split <;> rfl
  have records : pocketAt g (selectQuarantine new s) = pocketAt g (emptiedAt new .openState former) := by
    rw [selectQuarantine_of_ne changed]
    rfl
  rw [records, pocketAt_emptiedAt, enabled, pocketAt_emptiedAt]

/-- Another quarantine pocket selected changes the records, QUARANTINE_POCKET and the manifest alone. -/
theorem selectQuarantine_eq {new : Option Gate} {s : State} (changed : new ≠ s.pocket.quarantine) :
    selectQuarantine new s = s.setPocket { s.pocket with
      pockets := (selectQuarantine new s).pocket.pockets, quarantine := new, manifest := [] } := by
  rw [selectQuarantine_of_ne changed]
  cases s.pocket.quarantine <;> cases new <;> rfl

theorem PocketsHold.selectQuarantine {s : State} {flying : Gate → Nat} (holds : PocketsHold s flying) {new : Option Gate}
    (free : ∀ q, new = some q → groupOf q s = none)
    (empty : new ≠ s.pocket.quarantine → ∀ q, s.pocket.quarantine = some q → (pocketAt q s).committed = 0) :
    PocketsHold (selectQuarantine new s) flying := by
  by_cases changed : new = s.pocket.quarantine
  · rwa [Machine.selectQuarantine, if_pos changed]
  have pocket := pocketAt_selectQuarantine changed
  have unit := selectQuarantine_eq changed
  generalize Machine.selectQuarantine new s = t at pocket unit
  have group : t.group = s.group := by rw [unit]; rfl
  have quarantine : t.pocket.quarantine = new := by rw [unit]; rfl
  have limit : t.pocket.limit = s.pocket.limit := by rw [unit]; rfl
  have manifest : t.pocket.manifest = [] := by rw [unit]; rfl
  have lists : SameLists s t := .of_groups (by rw [group])
  have groupOf (g : Gate) := groupOf_congr lists.members g
  have noneFlies (g : Gate) (here : new = some g ∨ s.pocket.quarantine = some g) : flying g = 0 := by
    have flight := holds.flight g
    obtain isNew | isQ := here
    · have notQ : s.pocket.quarantine ≠ some g := fun isQ => changed (isNew.trans isQ.symm)
      have other := (holds.role g).other (free g isNew) notQ
      omega
    · have noneTaken := empty changed g isQ
      omega
  refine ⟨⟨?_, ?_, ?_, ?_⟩, limit ▸ holds.limit, fun g => ?_, fun g => ⟨fun k isMember => ?_, fun isNew => ?_, fun none notNew => ?_⟩⟩
  · exact group ▸ holds.groups.members
  · rw [quarantine]
    intro q isNew
    rw [groupOf]
    exact free q isNew
  · intro k
    rw [groupAt_congr (s := s) (by rw [group])]
    exact holds.groups.current k
  · intro k
    exact lists.strap k (holds.groups.strap k)
  · rw [pocket]
    split
    case isTrue isNew => simp [PocketRec.fresh, noneFlies g (.inl isNew)]
    case isFalse =>
      split
      case isTrue isQ => simp [PocketRec.fresh, noneFlies g (.inr isQ)]
      case isFalse => exact holds.flight g
  · rw [groupOf] at isMember
    have notNew : new ≠ some g := fun isNew => by simp [free g isNew] at isMember
    rw [pocket, if_neg notNew, if_neg (holds.groups.not_quarantine isMember)]
    exact (holds.role g).member k isMember
  · rw [quarantine] at isNew
    rw [pocket, if_pos isNew, manifest, limit]
    have some_ : ¬ 0 = s.pocket.limit := by
      have := holds.limit
      omega
    exact ⟨Nat.zero_le _, rfl, (if_neg some_).symm⟩
  · rw [groupOf] at none
    rw [quarantine] at notNew
    rw [pocket, if_neg notNew]
    split
    · exact ⟨rfl, rfl, rfl, rfl⟩
    case isFalse notQ => exact (holds.role g).other none notQ

/-! ### A group defined (R108) -/

/-- The records of pockets emptied one after another. -/
theorem pocketAt_foldl_emptied (gates : List Gate) (state : PocketState) (h : Gate) (s : State) :
    pocketAt h (gates.foldl (fun s g => putPocket g ((pocketAt g s).emptied state) s) s) =
      if h ∈ gates then PocketRec.fresh state (pocketAt h s).enabled else pocketAt h s := by
  induction gates generalizing s with
  | nil => rfl
  | cons g rest ih =>
    rw [List.foldl_cons, ih, pocketAt_putPocket]
    by_cases here : h = g
    · simp [here, PocketRec.emptied, PocketRec.fresh]
    · simp [here]

theorem foldl_putPocket_eq (f : Gate → State → PocketRec) (gates : List Gate) (s : State) :
    gates.foldl (fun s g => putPocket g (f g s) s) s = s.setPocket { s.pocket with
      pockets := (gates.foldl (fun s g => putPocket g (f g s) s) s).pocket.pockets } := by
  induction gates generalizing s with
  | nil => rfl
  | cons g rest ih =>
    rw [List.foldl_cons, ih]
    rfl

/-- The Pocket Controller of a group definition, before the group's record is written. -/
def definePockets (k : GroupNo) (gates : List Gate) (s : State) : State :=
  gates.foldl (fun s g => putPocket g ((pocketAt g s).emptied .openState) s)
    ((groupAt k s).members.foldl (fun s g => putPocket g ((pocketAt g s).emptied .unassigned) s) s)

theorem defineGroup_unfold (k : GroupNo) (gates : List Gate) (s : State) : defineGroup k gates s =
    endCause (.groupFull k) (setArm k (putGroup k { groupAt k (definePockets k gates s) with members := gates, current := gates.head? }
      (definePockets k gates s))) := rfl

theorem definePockets_eq (k : GroupNo) (gates : List Gate) (s : State) :
    definePockets k gates s = s.setPocket { s.pocket with pockets := (definePockets k gates s).pocket.pockets } := by
  unfold definePockets
  rw [foldl_putPocket_eq (fun g s => (pocketAt g s).emptied .openState),
    foldl_putPocket_eq (fun g s => (pocketAt g s).emptied .unassigned)]
  rfl

theorem pocketAt_definePockets (k : GroupNo) (gates : List Gate) (h : Gate) (s : State) : pocketAt h (definePockets k gates s) =
    if h ∈ gates then PocketRec.fresh .openState (pocketAt h s).enabled
    else if h ∈ (groupAt k s).members then PocketRec.fresh .unassigned (pocketAt h s).enabled else pocketAt h s := by
  rw [definePockets, pocketAt_foldl_emptied, pocketAt_foldl_emptied]
  split
  · split <;> rfl
  · rfl

theorem defineGroup_pocket (k : GroupNo) (gates : List Gate) (s : State) :
    (defineGroup k gates s).pocket = (definePockets k gates s).pocket := by
  rw [defineGroup_unfold, endCause_pocket]
  rfl

theorem pocketAt_defineGroup (k : GroupNo) (gates : List Gate) (h : Gate) (s : State) : pocketAt h (defineGroup k gates s) =
    if h ∈ gates then PocketRec.fresh .openState (pocketAt h s).enabled
    else if h ∈ (groupAt k s).members then PocketRec.fresh .unassigned (pocketAt h s).enabled else pocketAt h s := by
  rw [← pocketAt_definePockets]
  exact pocketAt_congr (by rw [defineGroup_pocket]) h

theorem groupAt_definePockets (k j : GroupNo) (gates : List Gate) (s : State) : groupAt j (definePockets k gates s) = groupAt j s := by
  rw [definePockets_eq]
  rfl

theorem groupAt_defineGroup (k j : GroupNo) (gates : List Gate) (s : State) :
    ∃ armed, groupAt j (defineGroup k gates s) =
      if j = k then { groupAt k s with members := gates, current := gates.head?, armed := armed } else groupAt j s := by
  let before := putGroup k { groupAt k (definePockets k gates s) with members := gates, current := gates.head? } (definePockets k gates s)
  refine ⟨(groupAt k before).lowThreshold < openCount k before, ?_⟩
  have ended : groupAt j (defineGroup k gates s) = groupAt j (setArm k before) :=
    groupAt_congr (by rw [defineGroup_unfold, endCause_group]) j
  rw [ended, setArm, groupAt_putGroup]
  split
  · simp only [before, groupAt_putGroup, if_pos, groupAt_definePockets]
  case isFalse other => simp only [before, groupAt_putGroup, if_neg other, groupAt_definePockets]

/-- Member lists share no pocket exactly when each names none twice and no pocket stands in two. -/
theorem groups_nodup_iff (s : State) : (s.group.groups.toList.flatMap (·.members)).Nodup ↔
    (∀ k, (groupAt k s).members.Nodup) ∧ ∀ j k g, g ∈ (groupAt j s).members → g ∈ (groupAt k s).members → j = k := by
  rw [groups_toList, List.flatMap_map, List.nodup_flatMap]
  have once : allGroups.Nodup := by decide
  refine and_congr (by simp [mem_allGroups]) ⟨fun apart j k g inOne inTwo => ?_, fun same => ?_⟩
  · have symmetric : Std.Symm (Function.onFun List.Disjoint fun k => (groupAt k s).members) := ⟨fun _ _ disjoint => disjoint.symm⟩
    refine Classical.byContradiction fun other => ?_
    exact apart.forall (mem_allGroups j) (mem_allGroups k) other inOne inTwo
  · exact once.pairwise_of_forall_ne fun j _ k _ other g inOne inTwo => other (same j k g inOne inTwo)

theorem GroupLaw.eq_of_mem {s : State} (law : GroupLaw s) {j k : GroupNo} {g : Gate} (inOne : g ∈ (groupAt j s).members)
    (inTwo : g ∈ (groupAt k s).members) : j = k := ((groups_nodup_iff s).mp law.members).2 j k g inOne inTwo

theorem GroupLaw.groupOf_eq_some_iff {s : State} (law : GroupLaw s) (g : Gate) (k : GroupNo) :
    groupOf g s = some k ↔ g ∈ (groupAt k s).members := by
  refine ⟨groupOf_eq_some_mem, fun isMember => ?_⟩
  obtain ⟨j, isGroup⟩ := groupOf_isSome_of_mem isMember
  rw [isGroup, law.eq_of_mem (groupOf_eq_some_mem isGroup) isMember]

/-- A group defined with pockets that no other role holds, where nothing of them and of its members is counted. -/
theorem PocketsHold.defineGroup {s : State} {flying : Gate → Nat} (holds : PocketsHold s flying) {k : GroupNo} {gates : List Gate}
    (once : gates.Nodup) (free : ∀ g ∈ gates, (∀ j, groupOf g s = some j → j = k) ∧ s.pocket.quarantine ≠ some g)
    (empty : ∀ g, g ∈ gates ∨ g ∈ (groupAt k s).members → (pocketAt g s).committed = 0 ∧ (pocketAt g s).confirmed = 0) :
    PocketsHold (defineGroup k gates s) flying := by
  have law := holds.groups
  have pocket (h : Gate) := pocketAt_defineGroup k gates h s
  have unit : (Machine.defineGroup k gates s).pocket = { s.pocket with pockets := (definePockets k gates s).pocket.pockets } := by
    rw [defineGroup_pocket, definePockets_eq]
    rfl
  have record (j : GroupNo) := groupAt_defineGroup k j gates s
  generalize Machine.defineGroup k gates s = t at pocket unit record
  have quarantine : t.pocket.quarantine = s.pocket.quarantine := by rw [unit]
  have limit : t.pocket.limit = s.pocket.limit := by rw [unit]
  have manifest : t.pocket.manifest = s.pocket.manifest := by rw [unit]
  have members (j : GroupNo) : (groupAt j t).members = if j = k then gates else (groupAt j s).members := by
    obtain ⟨armed, same⟩ := record j
    rw [same]
    split <;> rfl
  have mem_iff (j : GroupNo) (g : Gate) : g ∈ (groupAt j t).members ↔ (j = k ∧ g ∈ gates) ∨ (j ≠ k ∧ g ∈ (groupAt j s).members) := by
    rw [members]
    split <;> simp [*]
  have elsewhere {g : Gate} (inGates : g ∈ gates) {j : GroupNo} (isMember : g ∈ (groupAt j s).members) : j = k :=
    (free g inGates).1 j ((law.groupOf_eq_some_iff g j).mpr isMember)
  obtain ⟨nodup, -⟩ := (groups_nodup_iff s).mp law.members
  have groups : GroupLaw t := by
    refine ⟨(groups_nodup_iff t).mpr ⟨fun j => ?_, fun i j g inOne inTwo => ?_⟩, fun q isQ => ?_, fun j => ?_, fun j => ?_⟩
    · rw [members]
      split
      · exact once
      · exact nodup j
    · rw [mem_iff] at inOne inTwo
      obtain ⟨rfl, inGates⟩ | ⟨other, isMember⟩ := inOne <;> obtain ⟨rfl, inGates'⟩ | ⟨other', isMember'⟩ := inTwo
      · rfl
      · exact absurd (elsewhere inGates isMember') other'
      · exact absurd (elsewhere inGates' isMember) other
      · exact law.eq_of_mem isMember isMember'
    · rw [quarantine] at isQ
      rw [groupOf_eq_none_iff]
      intro j isMember
      obtain ⟨-, inGates⟩ | ⟨-, inOld⟩ := (mem_iff j q).mp isMember
      · exact (free q inGates).2 isQ
      · exact (groupOf_eq_none_iff q s).mp (law.quarantine q isQ) j inOld
    · obtain ⟨armed, same⟩ := record j
      by_cases here : j = k
      · rw [same, if_pos here]
        cases gates with
        | nil => exact rfl
        | cons g rest => exact List.mem_cons_self
      · rw [same, if_neg here]
        exact law.current j
    · obtain ⟨armed, same⟩ := record j
      rw [same]
      split
      · exact law.strap k
      · exact law.strap j
  refine ⟨groups, limit ▸ holds.limit, fun g => ?_, fun g => ?_⟩
  · have flight := holds.flight g
    rw [pocket]
    split
    case isTrue inGates =>
      have noneTaken := (empty g (.inl inGates)).1
      simp only [PocketRec.fresh]
      omega
    case isFalse =>
      split
      case isTrue isMember =>
        have noneTaken := (empty g (.inr isMember)).1
        simp only [PocketRec.fresh]
        omega
      case isFalse => exact flight
  · rw [pocket]
    split
    case isTrue inGates =>
      refine ⟨fun _ _ => ⟨rfl, rfl, rfl⟩, fun isQ => absurd (quarantine ▸ isQ) (free g inGates).2, fun none => ?_⟩
      exact absurd ((mem_iff k g).mpr (.inl ⟨rfl, inGates⟩)) ((groupOf_eq_none_iff g t).mp none k)
    case isFalse notGates =>
      have inOld {j : GroupNo} (isGroup : groupOf g t = some j) : j ≠ k ∧ groupOf g s = some j := by
        obtain ⟨-, inGates⟩ | ⟨other, isMember⟩ := (mem_iff j g).mp (groupOf_eq_some_mem isGroup)
        · exact absurd inGates notGates
        · exact ⟨other, (law.groupOf_eq_some_iff g j).mpr isMember⟩
      split
      case isTrue isMember =>
        have isGroup := (law.groupOf_eq_some_iff g k).mpr isMember
        refine ⟨fun j isGroup' => ?_, fun isQ => absurd (quarantine ▸ isQ) (law.not_quarantine isGroup), fun _ _ => ⟨rfl, rfl, rfl, rfl⟩⟩
        obtain ⟨other, isGroup''⟩ := inOld isGroup'
        exact absurd (Option.some.inj (isGroup''.symm.trans isGroup)) other
      case isFalse notMember =>
        have role := holds.role g
        refine ⟨fun j isGroup => role.member j (inOld isGroup).2, ?_, fun none notQ => role.other ?_ (quarantine ▸ notQ)⟩
        · rw [quarantine, limit, manifest]
          exact role.quarantine
        · rw [groupOf_eq_none_iff] at none ⊢
          intro j isMember
          refine none j ((mem_iff j g).mpr (.inr ⟨?_, isMember⟩))
          rintro rfl
          exact notMember isMember

/-! ### Resets (R105, R121) -/

/-- Every group's first member made its current member. -/
def firstMembers (s : State) : State := s.setGroup { s.group with
  groups := Vector.ofFn fun k : GroupNo => { s.group.groups[k] with current := s.group.groups[k].members.head? }
  accs := Vector.replicate 16 none }

theorem groupAt_firstMembers (k : GroupNo) (s : State) :
    groupAt k (firstMembers s) = { groupAt k s with current := (groupAt k s).members.head? } := by
  simp [groupAt, firstMembers]

theorem resetGroups_eq (s : State) :
    resetGroups s = allGroups.foldl (fun s k => endCause (.groupFull k) (setArm k s)) (firstMembers s) := rfl

theorem resetGroups_aside {s : State} (law : GroupLaw s) : Aside s (resetGroups s) := by
  have armed (s : State) (k : GroupNo) : Aside s (endCause (.groupFull k) (setArm k s)) :=
    (setArm_aside k s).trans (.of_work (endCause_work (touched := []) (by simp) _).toQuietWork)
  have first (k : GroupNo) := groupAt_firstMembers k s
  rw [resetGroups_eq]
  refine Aside.trans (t := firstMembers s) (.of_units rfl ?_) (Aside.foldl armed allGroups _)
  refine ⟨fun k => by rw [first], fun k => ?_, fun k => by rw [first]; exact id⟩
  rw [first]
  have current := law.current k
  cases isFirst : (groupAt k s).members with
  | nil =>
    refine .inl ?_
    split at current
    case h_1 g isCurrent => simp [isFirst] at current
    case h_2 noCurrent => rw [noCurrent]; rfl
  | cons g rest => exact .inr ⟨g, List.mem_cons_self, rfl⟩

/-- The Pocket Controller with every bundle empty and nothing in pocket 0 (R105). -/
def emptiedPockets (s : State) : State := s.setPocket { s.pocket with
  pockets := Vector.ofFn fun g : Gate =>
    if s.pocket.pockets[g].state = .unassigned then s.pocket.pockets[g] else s.pocket.pockets[g].emptied .openState
  manifest := [], runOut := 0, runOutReasons := Vector.replicate 11 0 }

theorem resetPockets_eq (s : State) : resetPockets s = endCause .quarantineFull (emptiedPockets s) := rfl

theorem pocketAt_emptiedPockets (g : Gate) (s : State) : pocketAt g (emptiedPockets s) =
    if (pocketAt g s).state = .unassigned then pocketAt g s else (pocketAt g s).emptied .openState := by
  simp only [pocketAt, emptiedPockets, State.setPocket_pocket, Fin.getElem_fin, Vector.getElem_ofFn]
  rfl

/-- LINE_RESET empties every bundle, with nothing in flight (R105). -/
theorem PocketsHold.resetPockets {s : State} {flying : Gate → Nat} (holds : PocketsHold s flying) :
    PocketsHold (resetPockets s) fun _ => 0 := by
  rw [resetPockets_eq]
  refine PocketsHold.of_work ?_ (endCause_work (touched := []) (by simp) _).toQuietWork
  have pocket (g : Gate) := pocketAt_emptiedPockets g s
  have quarantine : (emptiedPockets s).pocket.quarantine = s.pocket.quarantine := rfl
  have limit : (emptiedPockets s).pocket.limit = s.pocket.limit := rfl
  have manifest : (emptiedPockets s).pocket.manifest = [] := rfl
  have lists : SameLists s (emptiedPockets s) := .of_groups rfl
  generalize emptiedPockets s = t at pocket quarantine limit manifest lists
  have unassigned {g : Gate} (state : (pocketAt g s).state = .unassigned) : groupOf g s = none ∧ s.pocket.quarantine ≠ some g := by
    refine ⟨?_, fun isQ => ?_⟩
    · cases group : groupOf g s with
      | none => rfl
      | some k => exact absurd state ((holds.role g).member k group).not_unassigned
    · rw [((holds.role g).quarantine isQ).2.2] at state
      split at state <;> cases state
  refine ⟨holds.groups.of_lists lists quarantine, limit ▸ holds.limit, fun g => ?_, fun g => ?_⟩ <;> rw [pocket] <;> split
  case refine_1.isTrue state =>
    obtain ⟨notMember, notQ⟩ := unassigned state
    obtain ⟨-, committed, confirmed, -⟩ := (holds.role g).other notMember notQ
    rw [committed, confirmed]
  case refine_1.isFalse => rfl
  case refine_2.isTrue state =>
    obtain ⟨notMember, notQ⟩ := unassigned state
    have notMember' : groupOf g t = none := (groupOf_congr lists.members g).trans notMember
    exact ⟨fun k isMember => absurd (notMember'.symm.trans isMember) (by simp), fun isQ => absurd (quarantine ▸ isQ) notQ,
      fun _ _ => (holds.role g).other notMember notQ⟩
  case refine_2.isFalse notUnassigned =>
    have some_ : ¬ 0 = t.pocket.limit := by
      have := holds.limit
      omega
    refine ⟨fun _ _ => .emptied _ false, fun _ => ⟨Nat.zero_le _, by rw [manifest]; rfl, (if_neg some_).symm⟩, fun none notQ => ?_⟩
    rw [groupOf_congr lists.members] at none
    rw [quarantine] at notQ
    exact absurd ((holds.role g).other none notQ).1 notUnassigned

/-! ### Dispositions (R54 to R61, R109, R110) -/

theorem mem_of_mem_searchOrder {grp : GroupRec} {g : Gate} (inOrder : g ∈ searchOrder grp) : g ∈ grp.members := by
  unfold searchOrder at inOrder
  split at inOrder
  · obtain later | before := List.mem_append.mp inOrder
    · exact (List.dropWhile_sublist _).subset later
    · exact (List.takeWhile_sublist _).subset before
  · exact inOrder

/-- A member offered for a note is OPEN. -/
theorem place_eq_some {k : GroupNo} {denom : Option Denom} {s : State} {g : Gate} (offered : place k denom s = some g) :
    g ∈ (groupAt k s).members ∧ (pocketAt g s).state = .openState := by
  refine ⟨mem_of_mem_searchOrder (List.mem_of_find?_eq_some offered), ?_⟩
  have takes := List.find?_some offered
  simp only [placeable, Bool.and_eq_true, beq_iff_eq] at takes
  exact takes.1.1

theorem quarantineOpen_eq_some {s : State} {q : Gate} (isOpen : quarantineOpen s = some q) :
    s.pocket.quarantine = some q ∧ (pocketAt q s).state ≠ .full := by
  simpa [quarantineOpen, Option.filter_eq_some_iff] using isOpen

/-- A disposition takes a place in its destination, and PITCH goes to run-out. -/
structure Places (flying : Gate → Nat) (outcome : State × Disposition) : Prop where
  /-- the pockets, with the item in flight -/
  pockets : PocketsHold outcome.1 (oneMore outcome.2.dest flying)
  /-- PITCH (R55) -/
  pitch : outcome.2.reason = .pitch → outcome.2.dest = .runOut

theorem Places.runOut {s : State} {flying : Gate → Nat} (holds : PocketsHold s flying) {disp : Disposition} (dest : disp.dest = .runOut) :
    Places flying (s, disp) := ⟨by rw [dest, oneMore_runOut]; exact holds, fun _ => dest⟩

theorem PocketsHold.decideWatch {s : State} {flying : Gate → Nat} (holds : PocketsHold s flying) (e : HeldEdge) (serial : Serial)
    (denom : Option Denom) (w : WatchEntry) : Places flying (decideWatch e serial denom w s) := by
  have reported (r : Report) {t : State} {disp : Disposition} (places : Places flying (t, disp)) : Places flying (emit r t, disp) :=
    ⟨places.pockets.of_work (emit_work (touched := []) r t).toQuietWork, places.pitch⟩
  simp only [Machine.decideWatch]
  split
  · exact reported _ (.runOut holds rfl)
  case h_2 q isOpen =>
    obtain ⟨isQ, notFull⟩ := quarantineOpen_eq_some isOpen
    split
    · exact reported _ (.runOut holds rfl)
    · exact reported _ ⟨holds.commitQuarantine isQ notFull, by simp⟩

theorem PocketsHold.decideRoute {s : State} {flying : Gate → Nat} (holds : PocketsHold s flying) (e : HeldEdge) (r : NoteRecord) :
    Places flying (decideRoute e r s) := by
  have spent (k : ObjectNo) {t : State} {disp : Disposition} (places : Places flying (t, disp)) :
      Places flying (spendQuota k e.item t, disp) :=
    ⟨places.pockets.of_work (spendQuota_work k e.item t).toQuietWork, places.pitch⟩
  simp only [Machine.decideRoute]
  split
  · exact .runOut holds rfl
  · split
    · exact spent _ (.runOut holds rfl)
    · split
      · exact .runOut holds rfl
      case h_2 q isOpen =>
        obtain ⟨isQ, notFull⟩ := quarantineOpen_eq_some isOpen
        split
        · exact .runOut holds rfl
        · exact spent _ ⟨holds.commitQuarantine isQ notFull, by simp⟩
    · split
      · exact .runOut holds rfl
      · split
        · exact .runOut (holds.of_work (overflowAction_work (touched := []) _ s).toQuietWork) rfl
        case h_2 p offered =>
          obtain ⟨isMember, isOpen⟩ := place_eq_some offered
          split
          · exact .runOut holds rfl
          · exact spent _ ⟨holds.commitMember isMember isOpen _ _, by simp⟩

theorem PocketsHold.decision {s : State} {flying : Gate → Nat} (holds : PocketsHold s flying) (e : HeldEdge) (r : NoteRecord) :
    Places flying (decision e r s) := by
  unfold Machine.decision
  split
  · exact .runOut holds rfl
  · split
    · exact .runOut holds rfl
    · split
      · exact holds.decideRoute e r
      · split
        case h_1 s1 w found => exact (holds.of_work (lookup_found_work found).toQuietWork).decideWatch e _ _ w
        case h_2 s1 missed => exact (holds.of_work (lookup_found_work missed).toQuietWork).decideRoute e r

/-! ### Separators (R153 to R157) -/

theorem PocketsHold.endOpen {s : State} {flying : Gate → Nat} (holds : PocketsHold s flying) (d : Option Deposit) (test : Bool) :
    PocketsHold (endOpen d test s) flying := by
  have closed := (holds.of_work (modifySlot_work (d.map (·.slot)) (fun d => { d with state := .closing }) s).toQuietWork).closePure
    (.ofId (d.map (·.id)))
  simp only [Machine.endOpen]
  split
  · split
    · exact closed.of_work (testClose_work _ _ _).toQuietWork
    · exact closed
  · exact closed

theorem PocketsHold.takeSeparator {s : State} {flying : Gate → Nat} (holds : PocketsHold s flying) (r : SeparatorRecord) (item : Word)
    (late : Bool) : PocketsHold (takeSeparator r item late s).1 flying := by
  have ended := holds.endOpen (openDeposit s) (!r.endFlag || late)
  simp only [Machine.takeSeparator]
  split
  · exact holds.of_work (bump_work (touched := []) _ s).toQuietWork
  · split
    · exact holds.of_work (loseBoundary_work false r item s).toQuietWork
    · split
      · exact holds.of_work (loseBoundary_work true r item s).toQuietWork
      · simp only [takeBoundary]
        split
        · exact ended.of_work (swapAtBoundary_work _ _ _).toQuietWork
        · split
          · exact (ended.of_work (setDeposit_work _ _).toQuietWork).of_work (swapAtBoundary_work _ _ _).toQuietWork
          · exact ended

end Sys2Proof.Machine
end

section
/-! SUPPORT. The laws of groups and pockets, which every step keeps, with the items of the Track Queue counted at their destinations. -/

set_option Elab.async false

namespace Sys2Proof.Machine

/-! ### Items counted at their destinations -/

/-- The items of a list destined to a gated pocket. -/
def bound (items : List Entry) (g : Gate) : Nat := items.countP fun e => e.dest == .gated g

theorem bound_cons (e : Entry) (items : List Entry) : bound (e :: items) = oneMore e.dest (bound items) := by
  funext g
  simp only [bound, oneMore, List.countP_cons, beq_iff_eq]

theorem bound_perm {items others : List Entry} (same : (others.map (·.dest)).Perm (items.map (·.dest))) : bound others = bound items := by
  funext g
  have counted := same.countP_eq (· == Dest.gated g)
  simpa only [List.countP_map, Function.comp_def, bound] using counted

/-- What PocketLaw says of the items in flight alone: one with a shadow pocket is bound for run-out (R132). -/
def Shadows (items : List Entry) : Prop := ∀ e ∈ items, e.shadow.isSome → e.dest = .runOut

/-- The laws a step keeps together: the track's, and those of groups and pockets. -/
structure GatedLaw (s : State) : Prop where
  /-- the track -/
  track : TrackLaw s
  /-- groups and pockets -/
  pockets : PocketsHold s (bound s.track.queue)
  /-- shadow pockets (R132) -/
  shadows : Shadows s.track.queue

/-- The blocks GatedLaw reads. -/
def gatedBlocks : List Block := [.edge, .track, .jam, .pocket, .group]

theorem GatedLaw.of_aside {touched : List Block} {s t : State} (law : GatedLaw s) (work : QuietWork touched s t) (aside : Aside s t)
    (untouched : apart [.edge, .track, .jam] touched = true := by rfl) : GatedLaw t := by
  have queue := queue_of_work work (apart_mono untouched)
  exact ⟨law.track.of_work work untouched, queue ▸ law.pockets.aside aside, queue ▸ law.shadows⟩

theorem GatedLaw.of_work {touched : List Block} {s t : State} (law : GatedLaw s) (work : QuietWork touched s t)
    (untouched : apart gatedBlocks touched = true := by rfl) : GatedLaw t :=
  law.of_aside work (.of_work work (apart_mono untouched)) (apart_mono untouched)

/-- A work of the Pocket Controller and the Group Sequencer that keeps their laws with the same items in flight. -/
theorem GatedLaw.of_pockets {touched : List Block} {s t : State} (law : GatedLaw s) (work : QuietWork touched s t)
    (pockets : PocketsHold t (bound s.track.queue)) (untouched : apart [.edge, .track, .jam] touched = true := by rfl) : GatedLaw t := by
  have queue := queue_of_work work (apart_mono untouched)
  exact ⟨law.track.of_work work untouched, queue ▸ pockets, queue ▸ law.shadows⟩

/-- A work that leaves the queue, with the law of the track after it. -/
theorem GatedLaw.of_track {touched : List Block} {s t : State} (law : GatedLaw s) (track : TrackLaw t) (work : QuietWork touched s t)
    (untouched : apart [.track, .pocket, .group] touched = true := by rfl) : GatedLaw t := by
  have queue := queue_of_work work (apart_mono untouched)
  exact ⟨track, queue ▸ law.pockets.of_work work (apart_mono untouched), queue ▸ law.shadows⟩

/-- A change of the track that keeps every item's destination and shadow. -/
theorem GatedLaw.setTrack {s t : State} (law : GatedLaw s) (track : TrackLaw t) (pocket : t.pocket = s.pocket) (group : t.group = s.group)
    (dests : t.track.queue.map (·.dest) = s.track.queue.map (·.dest)) (shadows : Shadows t.track.queue) : GatedLaw t := by
  refine ⟨track, ?_, shadows⟩
  rw [bound_perm (.of_eq dests)]
  exact law.pockets.aside (.of_units pocket (.of_groups (by rw [group])))

/-! ### Jams and admissions -/

/-- A jam takes every item in flight off the pockets, the item in waiting included. -/
theorem enterJam_gatedLaw {s : State} (cause : JamCause) (noLoss : s.track.losses = [])
    (room : (inFlightItems s).length + s.edge.fifo.length ≤ Config.lossCapacity) (holds : PocketsHold s (bound (inFlightItems s))) :
    GatedLaw (enterJam cause s) := by
  have track := enterJam_trackLaw cause noLoss room
  have queue := (track.jammed (enterJam_jammed cause s)).1
  refine ⟨track, ?_, by simp [queue, Shadows]⟩
  have before : Work [.jam, .track] s (loseQueue (jamLine cause s)) := (jamLine_work cause s).trans (loseQueue_work _)
  have withdrawn : PocketsHold (withdrawAll (inFlightItems s) (loseQueue (jamLine cause s))) fun _ => 0 :=
    PocketsHold.withdrawAll (holds.of_work before.toQuietWork)
  have after : Work [.deposit, .track, .edge] (withdrawAll (inFlightItems s) (loseQueue (jamLine cause s))) (enterJam cause s) :=
    (((((traceLosses_work (touched := []) _ _).trans (loseInDeposits_work _ _) (touched := [.deposit])).trans (loseEdges_work _)
      (touched := [.deposit, .track, .edge])).trans (bump_work (touched := []) _ _) (touched := [.deposit, .track, .edge])).trans
      (emit_work (touched := []) _ _) (touched := [.deposit, .track, .edge])).trans (emit_work (touched := []) _ _)
      (touched := [.deposit, .track, .edge])
  rw [queue]
  exact withdrawn.of_work after.toQuietWork

theorem GatedLaw.handJam {s : State} (law : GatedLaw s) (cause : JamCause) : GatedLaw (handJam cause s) := by
  unfold Machine.handJam
  split
  · exact law
  case isFalse notJammed =>
    have items : inFlightItems s = s.track.queue := by simp [inFlightItems, law.track.waiting]
    refine enterJam_gatedLaw cause (law.track.lost notJammed) ?_ (items ▸ law.pockets)
    have fifo := law.track.fifo
    have queue := law.track.queue
    rw [items]
    simp only [Config.fifoCapacity, Config.trackCapacity, Config.lossCapacity] at *
    omega

/-- An entry has a shadow pocket for PITCH alone, and goes to run-out then (R132). -/
theorem makeEntry_shadow {i : Item} {disp : Disposition} {slot : Option SlotNo} {s : State} (pitch : disp.reason = .pitch → disp.dest = .runOut)
    (shadowed : (makeEntry i disp slot s).shadow.isSome) : (makeEntry i disp slot s).dest = .runOut := by
  refine pitch (Classical.byContradiction fun other => ?_)
  simp [makeEntry, other] at shadowed

/-- An admission's end with the item's place taken at its destination. -/
theorem finishAdmission_gatedLaw {s : State} (track : TrackLaw s) (shadows : Shadows s.track.queue) (notJammed : s.line.state ≠ .jammed)
    (popped : s.edge.fifo.length < Config.fifoCapacity) (i : Item) {disp : Disposition} (slot : Option SlotNo)
    (holds : PocketsHold s (oneMore disp.dest (bound s.track.queue))) (pitch : disp.reason = .pitch → disp.dest = .runOut) :
    GatedLaw (finishAdmission i disp slot s) := by
  have law := (finishAdmission_trackLaw track notJammed popped i disp slot).1
  have attributed := (attributeItem_work slot i.edge.item disp.hit.isSome s).toQuietWork
  have law1 := track.of_work attributed
  have queue1 := queue_of_work attributed
  have edge1 : (attributeItem slot i.edge.item disp.hit.isSome s).edge = s.edge := attributed.stands .edge
  have notJammed1 : (attributeItem slot i.edge.item disp.hit.isSome s).line.state ≠ .jammed := mt (attributed.stands .jam).mp notJammed
  have holds1 := holds.of_work attributed
  rw [← queue1] at holds1 shadows
  unfold finishAdmission at law ⊢
  generalize attributeItem slot i.edge.item disp.hit.isSome s = s1 at law law1 edge1 notJammed1 holds1 shadows
  have flying : bound (s1.track.queue ++ [makeEntry i disp slot s1]) = oneMore disp.dest (bound s1.track.queue) := by
    rw [bound_perm (List.perm_append_comm.map _), List.singleton_append, bound_cons]
    rfl
  simp only [enterTrack] at law ⊢
  split at law
  case isTrue room =>
    rw [if_pos room]
    refine ⟨law, flying ▸ holds1.aside (.of_units rfl (.of_groups rfl)), fun e inQueue shadowed => ?_⟩
    obtain inOld | isNew := List.mem_append.mp inQueue
    · exact shadows e inOld shadowed
    · obtain rfl := List.mem_singleton.mp isNew
      exact makeEntry_shadow pitch shadowed
  case isFalse full =>
    rw [if_neg full]
    have enters : handJam (.trackFull (makeEntry i disp slot s1).item) (s1.setTrack { s1.track with waiting := some (makeEntry i disp slot s1) }) =
        enterJam (.trackFull (makeEntry i disp slot s1).item) (s1.setTrack { s1.track with waiting := some (makeEntry i disp slot s1) }) :=
      if_neg notJammed1
    rw [enters]
    refine enterJam_gatedLaw (s := s1.setTrack { s1.track with waiting := some (makeEntry i disp slot s1) }) _ (law1.lost notJammed1) ?_
      (flying ▸ holds1.aside (.of_units rfl (.of_groups rfl)))
    have queue := law1.queue
    rw [← edge1] at popped
    simp only [inFlightItems, State.setTrack_track, State.setTrack_edge, Option.toList, List.length_append, List.length_singleton]
    simp only [Config.fifoCapacity, Config.trackCapacity, Config.lossCapacity] at *
    omega

/-- The oldest edge admitted, after a work that leaves the read point and the track. -/
theorem GatedLaw.admission {touched : List Block} {s t : State} (law : GatedLaw s) {e : HeldEdge} {rest : List HeldEdge}
    (held : s.edge.fifo = e :: rest) (work : QuietWork touched (popEdge s) t) (i : Item) {disp : Disposition} (slot : Option SlotNo)
    (holds : PocketsHold t (oneMore disp.dest (bound s.track.queue))) (pitch : disp.reason = .pitch → disp.dest = .runOut)
    (untouched : apart [.edge, .track, .jam] touched = true := by rfl) : GatedLaw (finishAdmission i disp slot t) := by
  have fifo : t.edge.fifo = s.edge.fifo.tail := congrArg EdgeUnit.fifo (work.stands .edge (apart_mono untouched))
  have queue : t.track.queue = (popEdge s).track.queue := queue_of_work work (apart_mono untouched)
  have popped : TrackLaw (popEdge s) := law.track.setEdge (by simp)
  have shadows : Shadows (popEdge s).track.queue := law.shadows
  have holds : PocketsHold t (oneMore disp.dest (bound (popEdge s).track.queue)) := holds
  refine finishAdmission_gatedLaw (popped.of_work work untouched) (queue ▸ shadows)
    (mt (work.stands .jam (apart_mono untouched)).mp (law.track.notJammed_of_edge held)) ?_ i slot (queue ▸ holds) pitch
  have full := law.track.fifo
  rw [fifo, held]
  rw [held, List.length_cons] at full
  simpa using full

theorem PocketsHold.popEdge {s : State} {flying : Gate → Nat} (holds : PocketsHold s flying) : PocketsHold (popEdge s) flying :=
  holds.of_work (popEdge_work s).toQuietWork

theorem GatedLaw.admitUnread {s : State} (law : GatedLaw s) : GatedLaw (admitUnread s) := by
  unfold Machine.admitUnread
  split
  case h_1 => exact law
  case h_2 e rest held =>
    refine law.admission held (.refl (touched := []) _) _ _ ?_ fun _ => rfl
    rw [show (Disposition.toRunOut .unread).dest = .runOut from rfl, oneMore_runOut]
    exact law.pockets.popEdge

theorem GatedLaw.admitUnreads (n : Nat) {s : State} (law : GatedLaw s) : GatedLaw (admitUnreads n s) := by
  induction n generalizing s with
  | zero => exact law
  | succ n ih => exact ih law.admitUnread

theorem GatedLaw.admitNote {s : State} (law : GatedLaw s) {e : HeldEdge} {rest : List HeldEdge} (held : s.edge.fifo = e :: rest)
    (r : NoteRecord) : GatedLaw (admitNote e r s) := by
  have places := law.pockets.popEdge.decision e r
  exact law.admission held (decision_work e r _).toQuietWork _ _ places.pockets places.pitch

theorem GatedLaw.admitCard {s : State} (law : GatedLaw s) {e : HeldEdge} {rest : List HeldEdge} (held : s.edge.fifo = e :: rest)
    (r : SeparatorRecord) : GatedLaw (admitCard e r s) := by
  refine law.admission held (takeSeparator_work r e.item false _).toQuietWork _ _ ?_ fun _ => rfl
  rw [show (cardDisposition e (Machine.popEdge s)).dest = .runOut from rfl, oneMore_runOut]
  exact law.pockets.popEdge.takeSeparator r e.item false

/-! ### Late records, arrivals and missing items -/

/-- Entries changed in place that keep their destinations and shadows. -/
theorem GatedLaw.updateAwaiting {s : State} (law : GatedLaw s) (seq : Byte) {f : Entry → Entry}
    (gates : ∀ g e, (f e).holdsGate g = e.holdsGate g) (dest : ∀ e, (f e).dest = e.dest) (shadow : ∀ e, (f e).shadow = e.shadow) :
    GatedLaw (updateAwaiting seq f s) := by
  have kept (queue : List Entry) : (updateFirst (·.awaits seq) f queue).map (fun e => (e.dest, e.shadow)) =
      queue.map fun e => (e.dest, e.shadow) := by
    induction queue with
    | nil => rfl
    | cons e rest ih =>
      unfold updateFirst
      split
      · simp [dest, shadow]
      · simp [ih]
  refine law.setTrack (law.track.updateAwaiting seq gates) rfl rfl ?_ fun e inQueue shadowed => ?_
  · simpa [Function.comp_def, Machine.updateAwaiting] using congrArg (List.map Prod.fst) (kept s.track.queue)
  · have inPairs : (e.dest, e.shadow) ∈ s.track.queue.map fun e => (e.dest, e.shadow) := by
      rw [← kept]
      exact List.mem_map_of_mem inQueue
    obtain ⟨x, inOld, same⟩ := List.mem_map.mp inPairs
    obtain ⟨sameDest, sameShadow⟩ := Prod.mk.inj same
    rw [← sameDest]
    exact law.shadows x inOld (sameShadow ▸ shadowed)

theorem GatedLaw.applyLateNote {s : State} (law : GatedLaw s) (e : Entry) (r : NoteRecord) : GatedLaw (applyLateNote e r s) := by
  have take (caseRef : Option Word) {s : State} (law : GatedLaw s) :
      GatedLaw (Machine.updateAwaiting r.seq (·.takeLate (some r.cls) (r.code.map (·.1)) r.serial caseRef) s) :=
    law.updateAwaiting _ (holdsGate_takeLate _ _ _ _) (fun _ => rfl) fun _ => rfl
  simp only [Machine.applyLateNote]
  split
  · exact take none law
  · split
    case h_1 s1 missed => exact take none (law.of_work (lookup_found_work missed).toQuietWork)
    case h_2 s1 w found =>
      have counted := (take (some w.caseRef) (law.of_work (lookup_found_work found).toQuietWork)).of_work
        (modifySlot_work e.slot (fun d => { d with watchHits := bumpCount d.watchHits }) _).toQuietWork
      exact counted.of_work (emit_work (touched := []) _ _).toQuietWork

theorem GatedLaw.applyLateSeparator {s : State} (law : GatedLaw s) (e : Entry) (r : SeparatorRecord) :
    GatedLaw (applyLateSeparator e r s) := by
  have late := law.updateAwaiting r.seq (f := (·.takeLate none none none none)) (holdsGate_takeLate _ _ _ _) (fun _ => rfl) fun _ => rfl
  exact late.of_pockets (takeSeparator_work r e.item true _).toQuietWork (late.pockets.takeSeparator r e.item true)

/-- An entry out of the queue is in flight to its destination until it closes. -/
theorem GatedLaw.removeEntry {s : State} (law : GatedLaw s) {e : Entry} (inQueue : e ∈ s.track.queue) :
    TrackLaw (removeEntry e s) ∧ PocketsHold (removeEntry e s) (oneMore e.dest (bound (removeEntry e s).track.queue)) ∧
      Shadows (removeEntry e s).track.queue := by
  refine ⟨law.track.removeEntry e, ?_, fun x inRest => law.shadows x (List.erase_subset inRest)⟩
  have counted : bound s.track.queue = oneMore e.dest (bound (Machine.removeEntry e s).track.queue) := by
    rw [← bound_cons]
    exact bound_perm ((List.perm_cons_erase inQueue).map _)
  rw [← counted]
  exact law.pockets.of_work (removeEntry_work e s).toQuietWork

/-- A close of an item off the queue, whose place is gone from its destination. -/
theorem closeItem_gatedLaw {touched : List Block} {s t : State} (track : TrackLaw s) (shadows : Shadows s.track.queue)
    (work : QuietWork touched s t) (holds : PocketsHold t (bound s.track.queue)) (e : Entry)
    (close : ItemClose) (arrival : Option (Fin 16)) (traced : Bool) (untouched : apart [.edge, .track, .jam] touched = true := by rfl) :
    GatedLaw (closeItem e close arrival traced t) := by
  have queue := queue_of_work work (apart_mono untouched)
  exact GatedLaw.of_work ⟨track.of_work work untouched, queue ▸ holds, queue ▸ shadows⟩ (closeItem_work e close arrival traced t).toQuietWork

theorem GatedLaw.confirmEntry {s : State} (law : GatedLaw s) {e : Entry} (inQueue : e ∈ s.track.queue) (p : Fin 16) :
    GatedLaw (confirmEntry e p s) := by
  obtain ⟨track, holds, shadows⟩ := law.removeEntry inQueue
  have work := (confirmAt_work e (Machine.removeEntry e s)).toQuietWork
  have confirmed := holds.confirmAt
  unfold Machine.confirmEntry
  generalize Machine.confirmAt e (Machine.removeEntry e s) = t at work confirmed ⊢
  exact closeItem_gatedLaw track shadows work confirmed e _ _ _

/-- A shadow confirmation is of an item bound for run-out, so it gives no place back (R133). -/
theorem GatedLaw.confirmShadow {s : State} (law : GatedLaw s) {e : Entry} (inQueue : e ∈ s.track.queue) (shadowed : e.shadow.isSome)
    (p : Fin 16) : GatedLaw (confirmShadow e p s) := by
  obtain ⟨track, holds, shadows⟩ := law.removeEntry inQueue
  rw [law.shadows e inQueue shadowed, oneMore_runOut] at holds
  have work := (recountMark_work (pocketOf p) (Machine.removeEntry e s)).toQuietWork
  have marked := holds.recountMark (pocketOf p)
  unfold Machine.confirmShadow
  generalize Machine.recountMark (pocketOf p) (Machine.removeEntry e s) = t at work marked ⊢
  exact closeItem_gatedLaw track shadows work marked { e with reason := .pitchShadowed } _ _ _

/-- A recount mark changes no count. -/
theorem GatedLaw.recountMark {s : State} (law : GatedLaw s) (p : Dest) : GatedLaw (recountMark p s) :=
  law.of_pockets (recountMark_work p s).toQuietWork (law.pockets.recountMark p)

theorem GatedLaw.takeArrival {s : State} (law : GatedLaw s) (p : Fin 16) : GatedLaw (takeArrival p s) := by
  have drained {s : State} (law : GatedLaw s) : GatedLaw (drainEnd s) := law.of_work (drainEnd_work (touched := []) s).toQuietWork
  unfold Machine.takeArrival
  split
  case h_1 =>
    have counted : GatedLaw (bump .strayArrivals s) := law.of_work (bump_work (touched := []) _ s).toQuietWork
    simp only [strayArrival]
    split
    case h_4 | h_5 => exact counted
    all_goals exact (counted.recountMark _).handJam _
  case h_2 e found =>
    have inQueue := List.mem_of_find?_eq_some found
    split
    · exact drained (law.confirmEntry inQueue p)
    case isFalse elsewhere =>
      have candidate := List.find?_some found
      simp only [Entry.candidate, Bool.or_eq_true, Bool.and_eq_true, beq_iff_eq, elsewhere, false_and, false_or] at candidate
      refine drained (law.confirmShadow inQueue ?_ p)
      cases shadow : e.shadow with
      | none => simp [shadow] at candidate
      | some sh => rfl

/-- A missing item leaves the queue, and its place with it. -/
theorem GatedLaw.declareMissing {s : State} (law : GatedLaw s) {e : Entry} (inQueue : e ∈ s.track.queue) :
    GatedLaw (declareMissing e s) ∧ (declareMissing e s).track.queue = s.track.queue.erase e := by
  obtain ⟨track, holds, shadows⟩ := law.removeEntry inQueue
  have withdrawn : QuietWork [.pocket, .group] (Machine.removeEntry e s) (match e.dest with
      | .gated g => withdrawAt g 1 (Machine.removeEntry e s)
      | .runOut => Machine.removeEntry e s) ∧ PocketsHold (match e.dest with
      | .gated g => withdrawAt g 1 (Machine.removeEntry e s)
      | .runOut => Machine.removeEntry e s) (bound (Machine.removeEntry e s).track.queue) := by
    split
    case h_1 g dest =>
      rw [dest] at holds
      exact ⟨(withdrawAt_work _ 1 _).toQuietWork, holds.withdrawAt (by rw [oneMore_same, Nat.add_comm]) fun h other => (oneMore_other other _).symm⟩
    case h_2 dest =>
      rw [dest, oneMore_runOut] at holds
      exact ⟨.refl _, holds⟩
  refine ⟨closeItem_gatedLaw track shadows withdrawn.1 withdrawn.2 e _ _ _, ?_⟩
  exact (queue_of_work (closeItem_work _ _ _ _ _).toQuietWork).trans (queue_of_work withdrawn.1)

theorem GatedLaw.takeArrivalEnds {s : State} (law : GatedLaw s) : GatedLaw (takeArrivalEnds s) := by
  have declared (list : List Entry) {s : State} (law : GatedLaw s) (inQueue : list.Subperm s.track.queue) :
      GatedLaw (list.foldl (fun s e => Machine.declareMissing e s) s) := by
    induction list generalizing s with
    | nil => exact law
    | cons e rest ih =>
      obtain ⟨kept, queue⟩ := law.declareMissing (inQueue.subset List.mem_cons_self)
      refine ih kept ?_
      rw [queue]
      simpa using inQueue.erase e
  unfold Machine.takeArrivalEnds
  split
  case h_2 => exact declared _ law List.filter_sublist.subperm
  case h_3 | h_4 | h_5 => exact law.handJam _
  all_goals exact law

theorem GatedLaw.takeGateExpiries {s : State} (law : GatedLaw s) : GatedLaw (takeGateExpiries s) := by
  refine law.setTrack law.track.takeGateExpiries rfl rfl ?_ fun e inQueue shadowed => ?_
  · simp [Machine.takeGateExpiries, setQueue, Function.comp_def]
  · obtain ⟨x, inOld, rfl⟩ := List.mem_map.mp inQueue
    exact law.shadows x inOld shadowed

/-! ### Requests -/

theorem resetDeposits_work (s : State) : Work [.deposit] s (resetDeposits s) :=
  (setDeposit_work s _).trans (endCause_work (touched := []) (by simp) _)

theorem resetItems_queue (s : State) : (resetItems s).track.queue = [] := queue_of_work (discardItems_quietWork _ _)

theorem resetLine_gatedLaw {s : State} (law : GatedLaw s) : GatedLaw (resetLine s) := by
  let s1 := resetDeposits (resetGroups (resetPockets (resetItems s)))
  have pockets : PocketsHold (resetPockets (resetItems s)) fun _ => 0 :=
    PocketsHold.resetPockets (law.pockets.of_work (resetItems_quietWork s))
  have groups : PocketsHold (resetGroups (resetPockets (resetItems s))) fun _ => 0 := pockets.aside (resetGroups_aside pockets.groups)
  have emptied : PocketsHold s1 fun _ => 0 := groups.of_work (resetDeposits_work _).toQuietWork
  have queue : s1.track.queue = [] :=
    (queue_of_work (resetDeposits_work _).toQuietWork).trans ((queue_of_work (resetGroups_work _).toQuietWork).trans
      ((queue_of_work (resetPockets_work _).toQuietWork).trans (resetItems_queue s)))
  have track := resetLine_trackLaw s
  have idle (t : State) (law : TrackLaw t) (work : QuietWork [.jam] s1 t) : GatedLaw t := by
    have none : t.track.queue = [] := (queue_of_work work).trans queue
    exact ⟨law, by rw [none]; exact emptied.of_work work, by simp [none, Shadows]⟩
  simp only [resetLine] at track ⊢
  split at track
  case isTrue here => rw [if_pos here]; exact idle _ track (enterIdle_quietWork _)
  case isFalse there => rw [if_neg there]; exact idle _ track (changeToIdle_quietWork _ _ _)

theorem repeats_eq_false_iff {α : Type} [DecidableEq α] (list : List α) : repeats list = false ↔ list.Nodup := by
  induction list with
  | nil => simp [repeats]
  | cons x rest ih => simp [repeats, ih]

theorem answer_aside (tag code : Byte) (detail : Detail) (s : State) : Aside s (answer tag code detail s) :=
  .of_work (answer_work (touched := []) tag code detail s).toQuietWork

/-- A group's record changed that keeps its members, its current member and a strap preset of 1 or more. -/
theorem GatedLaw.modifyGroup {s : State} (law : GatedLaw s) {g : GroupNo} {f : GroupRec → GroupRec} (members : ∀ r, (f r).members = r.members)
    (current : ∀ r, (f r).current = r.current) (strap : ∀ r, 1 ≤ r.strap → 1 ≤ (f r).strap) : GatedLaw (modifyGroup g f s) :=
  law.of_aside (modifyGroup_work g f s).toQuietWork (.putGroup (members _) (.inl (current _)) (strap _))

theorem GatedLaw.setArm {s : State} (law : GatedLaw s) (k : GroupNo) : GatedLaw (setArm k s) :=
  law.of_aside (setArm_work k s).toQuietWork (setArm_aside k s)

theorem GatedLaw.endCause {s : State} (law : GatedLaw s) {c : Cause} (notBacklog : c ≠ .backlog) : GatedLaw (endCause c s) :=
  law.of_work (endCause_work (touched := []) notBacklog s).toQuietWork

/-- QUARANTINE_POCKET accepted (R95). -/
theorem GatedLaw.selectQuarantine {s : State} (law : GatedLaw s) {new : Option Gate} (free : ∀ q, new = some q → groupOf q s = none)
    (empty : new ≠ s.pocket.quarantine → ∀ q, s.pocket.quarantine = some q → (pocketAt q s).committed = 0) :
    GatedLaw (selectQuarantine new s) :=
  law.of_pockets (selectQuarantine_work new s).toQuietWork (law.pockets.selectQuarantine free empty)

/-- GROUP_DEFINE accepted (R108). -/
theorem GatedLaw.defineGroup {s : State} (law : GatedLaw s) {k : GroupNo} {gates : List Gate}
    (passed : ∀ check ∈ defineChecks k gates s, check.1 = false) (tag : Byte) :
    GatedLaw (defineGroup k gates (answer tag 0x30 .none s)) := by
  have answered := answer_aside tag 0x30 .none s
  have kept := law.of_work (answer_work (touched := []) tag 0x30 .none s).toQuietWork
  have holds := kept.pockets
  refine kept.of_pockets (defineGroup_work k gates _).toQuietWork (holds.defineGroup ?_ ?_ ?_)
  · have distinct := passed (8 < gates.length || repeats gates, .range) (by simp [defineChecks])
    simp only [Bool.or_eq_false_iff] at distinct
    exact (repeats_eq_false_iff gates).mp distinct.2
  · intro g inGates
    have free := passed (gates.any fun g => belongsElsewhere k g s, .duplicate) (by simp [defineChecks])
    have notElsewhere := (List.any_eq_false.mp free) g inGates
    simp only [belongsElsewhere, Bool.or_eq_true, not_or, beq_iff_eq] at notElsewhere
    rw [groupOf_congr answered.lists.members, answered.quarantine]
    refine ⟨fun j isGroup => ?_, notElsewhere.2⟩
    simpa [isGroup] using notElsewhere.1
  · intro g isHere
    have empty := passed ((gates ++ (groupAt k s).members).any fun g => holdsNotes g s, .state) (by simp [defineChecks])
    rw [answered.lists.members] at isHere
    have noneHeld := (List.any_eq_false.mp empty) g (by simpa using isHere)
    rw [pocketAt_congr answered.pockets]
    simpa [holdsNotes] using noneHeld

/-! ### Commands -/

theorem gatedLaw_reports {s t : State} (work : QuietWork [] s t) (law : GatedLaw s) : GatedLaw t := law.of_work work

theorem setParamQuarantinePocket_gatedLaw {s t : State} {tag : Byte} {v : Word} (law : GatedLaw s)
    (next : exec (.setParamQuarantinePocket tag v) s = .next t) : GatedLaw t := by
  obtain rfl := Host.Outcome.next.inj next
  refine request_keeps gatedLaw_reports (fun passed kept => ?_) law
  have answered := answer_aside tag 0x01 .none s
  have free := passed ((gateOfByte (v.extractLsb' 0 8)).any fun g => (groupOf g s).isSome, .duplicate) (by simp)
  have empty := passed (gateOfByte (v.extractLsb' 0 8) != s.pocket.quarantine && s.pocket.quarantine.any fun q =>
    0 < (pocketAt q s).committed || s.pocket.manifest != [], .state) (by simp)
  refine kept.selectQuarantine (fun q isNew => ?_) fun changed q isQ => ?_
  · rw [groupOf_congr answered.lists.members]
    simpa [isNew] using free
  · rw [answered.quarantine] at changed isQ
    rw [pocketAt_congr answered.pockets]
    rw [isQ] at changed
    simp only [isQ, Option.any_some, Bool.and_eq_false_iff, bne_eq_false_iff_eq, Bool.or_eq_false_iff, decide_eq_false_iff_not,
      changed, false_or] at empty
    exact Nat.eq_zero_of_not_pos empty.1

theorem setParamQuarantineLimit_gatedLaw {s t : State} {tag : Byte} {v : Word} (law : GatedLaw s)
    (next : exec (.setParamQuarantineLimit tag v) s = .next t) : GatedLaw t := by
  obtain rfl := Host.Outcome.next.inj next
  refine request_keeps gatedLaw_reports (fun passed kept => ?_) law
  have answered := answer_aside tag 0x01 .none s
  have inRange := passed (outside 1 64 v || s.pocket.quarantine.any fun q => v.toNat < (pocketAt q s).committed, .range) (by simp)
  simp only [outside, Bool.or_eq_false_iff, decide_eq_false_iff_not, Nat.not_lt] at inRange
  refine kept.of_pockets (setQuarantineLimit_work v.toNat _).toQuietWork (kept.pockets.setQuarantineLimit inRange.1.1 fun q isQ => ?_)
  rw [answered.quarantine] at isQ
  rw [pocketAt_congr answered.pockets]
  simpa [isQ] using inRange.2

/-- The parameters of a group keep the laws. -/
theorem groupParameter_gatedLaw {i : Instr} {s t : State} (only : touches i = [.group]) (next : exec i s = .next t) (law : GatedLaw s) :
    GatedLaw t := by
  cases i
  case setParamStrapPreset tag g v =>
    obtain rfl := Host.Outcome.next.inj next
    refine request_keeps gatedLaw_reports (fun passed law => law.modifyGroup (fun _ => rfl) (fun _ => rfl) fun _ _ => ?_) law
    have inRange := passed (outside 1 200 v, .range) (by simp)
    simp only [outside, Bool.or_eq_false_iff, decide_eq_false_iff_not, Nat.not_lt] at inRange
    exact inRange.1
  case setParamBrickSize =>
    obtain rfl := Host.Outcome.next.inj next
    exact request_keeps gatedLaw_reports (fun _ law => law.modifyGroup (fun _ => rfl) (fun _ => rfl) fun _ => id) law
  case setParamDenominationPurity | setParamDepositPurity =>
    obtain rfl := Host.Outcome.next.inj next
    refine request_keeps gatedLaw_reports (fun _ law => GatedLaw.endCause ?_ (by simp)) law
    exact law.modifyGroup (fun _ => rfl) (fun _ => rfl) fun _ => id
  case setParamLowThreshold =>
    obtain rfl := Host.Outcome.next.inj next
    refine request_keeps gatedLaw_reports (fun _ law => GatedLaw.setArm ?_ _) law
    exact law.modifyGroup (fun _ => rfl) (fun _ => rfl) fun _ => id
  case setParamOverflowAction tag g v =>
    obtain rfl := Host.Outcome.next.inj next
    refine request_keeps gatedLaw_reports (fun _ law => ?_) law
    have written : GatedLaw (modifyGroup g (fun r => { r with overflow := if v == 0 then .runOut else .halt }) _) :=
      law.modifyGroup (fun _ => rfl) (fun _ => rfl) fun _ => id
    exact iteInduction (motive := GatedLaw) (fun _ => written.endCause (by simp)) fun _ => written
  all_goals simp [touches, resetBlocks, jamBlocks, everyBlock, recordBlocks] at only

/-- The requests that set up pockets and groups keep the laws. -/
theorem setUp_gatedLaw {i : Instr} {s t : State} (only : touches i = [.pocket, .group]) (next : exec i s = .next t) (law : GatedLaw s) :
    GatedLaw t := by
  cases i
  case groupDefine tag group pockets =>
    obtain rfl := Host.Outcome.next.inj next
    split
    · exact request_keeps gatedLaw_reports (fun passed _ => law.defineGroup passed tag) law
    · exact request_keeps gatedLaw_reports (fun _ law => law) law
  case groupFlush tag group =>
    obtain rfl := Host.Outcome.next.inj next
    split
    · exact request_keeps gatedLaw_reports (fun _ law => law.of_pockets (flushGroup_work _ _).toQuietWork (law.pockets.flushGroup _)) law
    · exact request_keeps gatedLaw_reports (fun _ law => law) law
  case pocketEnable tag pocket setting =>
    obtain rfl := Host.Outcome.next.inj next
    split
    · exact request_keeps gatedLaw_reports (fun _ law => law.of_pockets (enablePocket_work _ _ _).toQuietWork (law.pockets.enablePocket _ _)) law
    · exact request_keeps gatedLaw_reports (fun _ law => law) law
  case pocketCleared p =>
    obtain rfl := Host.Outcome.next.inj next
    split
    · exact law.of_aside (clearRunOut_work s).toQuietWork (clearRunOut_aside s)
    · split
      case isTrue isQ => exact law.of_pockets (clearQuarantine_work _ s).toQuietWork (law.pockets.clearQuarantine isQ)
      case isFalse notQ => exact law.of_pockets (clearMember_work _ s).toQuietWork (law.pockets.clearMember notQ)
  all_goals simp [touches, resetBlocks, jamBlocks, everyBlock, recordBlocks] at only

theorem quarantineRelease_gatedLaw {s t : State} {tag : Byte} (law : GatedLaw s) (next : exec (.quarantineRelease tag) s = .next t) :
    GatedLaw t := by
  obtain rfl := Host.Outcome.next.inj next
  split
  case h_1 q isQ =>
    refine request_keeps gatedLaw_reports (fun passed kept => ?_) law
    have answered := answer_aside tag 0x38 .none s
    refine kept.of_pockets (emptyQuarantine_work q true _).toQuietWork (kept.pockets.emptyQuarantine (answered.quarantine.trans isQ) ?_ true)
    rw [pocketAt_congr answered.pockets]
    simpa using passed
  case h_2 => exact request_keeps gatedLaw_reports (fun _ law => law) law

theorem GatedLaw.makeRoom {s : State} (law : GatedLaw s) : GatedLaw (if s.line.state = .jammed then s else makeRoom s) := by
  unfold Machine.makeRoom
  split
  · exact law
  · split
    · exact law.admitUnread
    · exact law

theorem leadingEdge_gatedLaw {s t : State} (track : TrackLaw t) (law : GatedLaw s) (next : exec .leadingEdge s = .next t) :
    GatedLaw t := by
  obtain rfl := Host.Outcome.next.inj next
  split at track
  case isTrue here => rw [if_pos here]; exact law
  case isFalse there => rw [if_neg there]; exact law.makeRoom.of_track track (captured_work _).toQuietWork

theorem GatedLaw.recoverLine {s : State} (law : GatedLaw s) (sequence : Byte) (jammed : s.line.state = .jammed) :
    GatedLaw (recoverLine sequence s) := by
  have track := recoverLine_trackLaw sequence law.track jammed
  have pockets := law.pockets.of_work (recoverLine_quietWork sequence s)
  have queue := recoverLine_queue sequence s
  generalize Machine.recoverLine sequence s = t at track pockets queue
  exact ⟨track, queue ▸ pockets, queue ▸ law.shadows⟩

theorem recover_gatedLaw {s t : State} {tag sequence : Byte} (law : GatedLaw s) (next : exec (.recover tag sequence) s = .next t) :
    GatedLaw t := by
  obtain rfl := Host.Outcome.next.inj next
  refine lineRequest_keeps gatedLaw_reports (fun passed law => ?_) law
  have jammed : s.line.state = .jammed := by simpa using passed
  exact law.recoverLine sequence (by rwa [hand_eq])

theorem hardReset_gatedLaw {s t : State} (track : TrackLaw t) (next : exec .hardReset s = .next t) : GatedLaw t := by
  obtain rfl := Host.Outcome.next.inj ((exec_hardReset s).symm.trans next)
  have atReset := (pocketsHold_iff State.reset).mpr ⟨groupLaw_reset, pocketLaw_reset⟩
  exact ⟨track, atReset.1.aside (.of_units rfl (.of_groups rfl)), atReset.2⟩

theorem gatedLaw_of_exec {i : Instr} {s t : State} (notByte : ∀ b faulted, i ≠ .feedByte b faulted) (next : exec i s = .next t)
    (law : GatedLaw s) : GatedLaw t := by
  have track := trackLaw_of_exec notByte next law.track
  by_cases untouched : apart [.track, .jam, .pocket, .group] (touches i) = true
  · exact law.of_track track (work_of_exec next).toQuietWork (apart_mono untouched)
  cases i
  case feedByte b faulted => exact absurd rfl (notByte b faulted)
  case setParamQuarantinePocket => exact setParamQuarantinePocket_gatedLaw law next
  case setParamQuarantineLimit => exact setParamQuarantineLimit_gatedLaw law next
  case setParamStrapPreset | setParamBrickSize | setParamDenominationPurity | setParamDepositPurity | setParamLowThreshold
      | setParamOverflowAction =>
    exact groupParameter_gatedLaw rfl next law
  case groupDefine | groupFlush | pocketEnable | pocketCleared => exact setUp_gatedLaw rfl next law
  case quarantineRelease => exact quarantineRelease_gatedLaw law next
  case leadingEdge => exact leadingEdge_gatedLaw track law next
  case recover => exact recover_gatedLaw law next
  case hardReset => exact hardReset_gatedLaw track next
  all_goals try obtain rfl := Host.Outcome.next.inj next
  case noteRecord r =>
    exact takeRecord_keeps gatedLaw_reports (·.admitUnread) (fun law held => law.admitNote held r) (fun e _ => law.applyLateNote e r) law
  case separatorRecord r =>
    exact takeRecord_keeps gatedLaw_reports (·.admitUnread) (fun law held => law.admitCard held r) (fun e _ => law.applyLateSeparator e r) law
  case setParamGapMin | setParamStallTime | setParamStartTime | setParamTraceAll | setParamTraceRejects =>
    exact request_keeps gatedLaw_reports (fun _ law => law.setTrack (law.track.setTrack rfl rfl rfl rfl) rfl rfl rfl law.shadows) law
  case setGeometry =>
    exact request_keeps gatedLaw_reports (fun _ law => law.setTrack (law.track.setTrack rfl rfl rfl rfl) rfl rfl rfl law.shadows) law
  case divertWindowOpen | divertWindowClose => exact law.takeGateExpiries
  case lineReset => exact lineRequest_keeps gatedLaw_reports (fun _ law => resetLine_gatedLaw law) law
  case encEdge =>
    have taken : GatedLaw (takeExpiries s) := (law.takeGateExpiries.admitUnreads _).takeArrivalEnds
    exact taken.of_track track (advance_work _).toQuietWork
  case admissionDeadline => exact law.admitUnreads _
  case arrivalWindowEnd => exact law.takeArrivalEnds
  case stallTimerExpiry =>
    split
    · have stopped : GatedLaw (stopStall s) := law.setTrack (law.track.setTrack rfl rfl rfl rfl) rfl rfl rfl law.shadows
      exact stopped.handJam _
    · exact law
  case arrivalPulse p => exact law.takeArrival p
  all_goals exact absurd rfl untouched

/-- Settles O60: with the law of the track, which O57 keeps. -/
theorem groupAndPocketLawsKept : Obligations.GroupAndPocketLawsKept := by
  intro s t track group pocket stepped
  obtain ⟨pockets, shadows⟩ := (pocketsHold_iff s).mpr ⟨group, pocket⟩
  have kept : GatedLaw t := step_keeps (law := GatedLaw)
    (fun _ _ law => ⟨law.track.edit Iff.rfl le_rfl le_rfl law.track.gates rfl rfl, law.pockets.aside (.of_units rfl (.of_groups rfl)), law.shadows⟩)
    (fun _ _ work law => law.of_work work.toQuietWork) (fun _ _ _ notByte next => gatedLaw_of_exec notByte next) stepped
    ⟨track, pockets, shadows⟩
  exact (pocketsHold_iff t).mp ⟨kept.pockets, kept.shadows⟩

end Sys2Proof.Machine
end

section
/-! SUPPORT. The hard-reset values, and what the Report Unit does with a report, a tally, and the requests that read them. -/

set_option Elab.async false

namespace Sys2Proof.Machine

/-! ### Hard reset (R188) -/

/-- The hard-reset values of the units that count, as the manual gives them. -/
theorem objectAt_reset (k : ObjectNo) : objectAt k State.reset = RouteObject.initial := by
  simp [objectAt, State.reset]

/-- Settles O3: the pulse and its release composed, and each value read off. -/
theorem hardResetValues : Obligations.HardResetValues := by
  refine ⟨fun s => exec_hardReset s, fun s => ?pulse, ?values⟩
  case pulse =>
    exact ⟨rfl, rfl, rfl, rfl, rfl, rfl, fun g => Vector.getElem_replicate _, fun _ => rfl, rfl, rfl⟩
  case values =>
    refine ⟨rfl, rfl, rfl, rfl, rfl, rfl, rfl, rfl, rfl, rfl, rfl, objectAt_reset, rfl, fun _ => rfl, pocketAt_reset, fun _ _ => rfl,
      rfl, rfl, rfl, rfl, rfl, groupAt_reset, fun i => Vector.getElem_replicate _, rfl, rfl, rfl, fun p => Vector.getElem_replicate _,
      rfl, rfl, rfl, rfl, rfl, rfl, fun g => Vector.getElem_replicate _, rfl, rfl, rfl, rfl, rfl, rfl, rfl, rfl, rfl, rfl, rfl, rfl, rfl,
      rfl, rfl, rfl, rfl, fun d => ?_, fun e => ?_, rfl, rfl, by decide⟩
    · simp [ReportUnit.tallyValue, State.reset]
    · simp [ReportUnit.tallyValue, State.reset]

/-! ### Reports (R194, R195, R196) -/

theorem hand_of_not_trace {r : Report} (notTrace : ∀ x, r ≠ .trace x) (s : State) : hand r s = handPlain r s := by
  unfold hand
  split
  case h_1 x => exact absurd rfl (notTrace x)
  case h_2 => rfl

theorem handPlain_of_room {s : State} (room : s.report.queue.length < Config.queueCapacity) (r : Report) : handPlain r s = enqueue r s :=
  if_pos room

/-- The Report Unit after n reports are lost. -/
def losing (n : Nat) (s : State) : State := s.setReport { s.report with
  events := s.report.events.set 20 (s.report.events[20] + BitVec.ofNat 16 n)
  lossMark := min (s.report.lossMark + n) 255 }

theorem loseOnce_losing (s : State) : loseOnce s = losing 1 s := rfl

theorem loseOnce_twice (s : State) : loseOnce (loseOnce s) = losing 2 s := by
  have mark : min (min (s.report.lossMark + 1) 255 + 1) 255 = min (s.report.lossMark + 2) 255 := by omega
  have tally : (s.report.events.set 20 (s.report.events[20] + 1)).set 20 ((s.report.events.set 20 (s.report.events[20] + 1))[20] + 1) =
      s.report.events.set 20 (s.report.events[20] + 2) := by
    rw [Vector.set_set, Vector.getElem_set_self, BitVec.add_assoc]
    rfl
  calc
    loseOnce (loseOnce s) = s.setReport { s.report with
        events := (s.report.events.set 20 (s.report.events[20] + 1)).set 20 ((s.report.events.set 20 (s.report.events[20] + 1))[20] + 1)
        lossMark := min (min (s.report.lossMark + 1) 255 + 1) 255 } := rfl
    _ = losing 2 s := by rw [tally, mark]; rfl

/-- REPORTS_LOST passes its notice level where it stood one below. -/
theorem notices_reportsLost (s : State) : (loseOnce s).report.notices (.event .reportsLost) = true ↔
    s.report.events[20] = 0xDFFF ∧ s.report.noticeMask.getLsbD 20 = true := by
  have level : s.report.events[20] + 1 = (0xE000 : BitVec 16) ↔ s.report.events[20] = 0xDFFF := by bv_omega
  have tally : (loseOnce s).report.events[20] = s.report.events[20] + 1 := by simp [loseOnce_losing, losing]
  rw [← level, ← tally]
  simp [ReportUnit.notices, Config.notice16, EventTally.index, loseOnce_losing, losing]

theorem handPlain_of_full {s : State} (full : Config.queueCapacity ≤ s.report.queue.length) (r : Report) :
    handPlain r s = if s.report.events[20] = 0xDFFF ∧ s.report.noticeMask.getLsbD 20 then losing 2 s else losing 1 s := by
  unfold handPlain loseReport
  rw [if_neg (by omega)]
  simp only
  split
  case isTrue notices => rw [if_pos ((notices_reportsLost s).mp notices), loseOnce_twice]
  case isFalse notNotices => rw [if_neg (mt (notices_reportsLost s).mpr notNotices), loseOnce_losing]

/-- Settles O4: the cases of R194 by the kind of report and the occupancy. -/
theorem reportAdmission : Obligations.ReportAdmission := by
  refine ⟨fun r s => ⟨?_, ?_, fun notTrace room => ?_⟩, fun r s notTrace full => ?_, fun r s => ⟨rfl, fun notTrace => ?_⟩⟩
  · rintro ⟨x, rfl⟩ room
    exact if_pos room
  · rintro ⟨x, rfl⟩ full
    exact if_neg (Nat.not_lt.mpr full)
  · rw [hand_of_not_trace notTrace, handPlain_of_room room]
    rfl
  · rw [hand_of_not_trace notTrace, handPlain_of_full full]
    rfl
  · exact (hand_of_not_trace notTrace s).symm

/-! ### Causes (R171, R178, R196) -/

/-- A line in RUN or DRAIN halted for a cause, which joins the set; the report is yet to be handed on. -/
def haltedBy (c : Cause) (r : Resume) (s : State) : State := { s with
  line := { s.line with state := .halt, causes := s.line.causes.put true c, resume := some r, runOut := false, feedEn := false }
  track := { s.track with stall := none } }

/-- The LINE report of a halt for a cause. -/
def haltReport (c : Cause) (r : Resume) (s : State) : Report := .line
  { from_ := s.line.state, to_ := .halt, trigger := .condition, cause := some (.condition c), causes := s.line.causes.put true c
    resume := some r, position := s.edge.position }

theorem raiseQuiet_of_held {c : Cause} {s : State} (held : s.line.causes.holds c = true) : raiseQuiet c s = s := if_pos held

/-- A cause raised that is not held: it joins the set, and a line in RUN or DRAIN halts. -/
theorem raiseQuiet_of_not_held {c : Cause} {s : State} (notHeld : s.line.causes.holds c = false) : raiseQuiet c s =
    match s.line.state with
    | .run => hand (haltReport c .run s) (haltedBy c .run s)
    | .drain => hand (haltReport c .drain s) (haltedBy c .drain s)
    | .idle | .halt | .jammed => { s with line := { s.line with causes := s.line.causes.put true c } } := by
  unfold raiseQuiet
  rw [if_neg (by simp [notHeld])]
  have halted (r : Resume) (runs : s.line.state = .run ∨ s.line.state = .drain) :
      changeLine .halt (some r) .condition (some (.condition c)) (putCause true c s) = hand (haltReport c r s) (haltedBy c r s) := by
    unfold changeLine
    have entered : enterLine .halt (some r) (putCause true c s) = haltedBy c r s := by
      have stops : stallAfter (putCause true c s).line.state .halt (putCause true c s).track.startTime (putCause true c s).track.stall = none := by
        cases (putCause true c s).line.state <;> rfl
      rw [enterLine_eq (by simp), stops]
      rfl
    simp only [entered]
    rfl
  cases state : s.line.state <;> simp only
  case run => exact halted .run (.inl state)
  case drain => exact halted .drain (.inr state)
  all_goals rfl

theorem takeBacklog_of_not_due {s : State} (notDue : ¬ (s.report.backlog = true ∧ s.line.causes.backlog = false)) : takeBacklog s = s := by
  refine if_neg ?_
  simpa using notDue

theorem takeBacklog_of_due {s : State} (set : s.report.backlog = true) (notHeld : s.line.causes.backlog = false) :
    takeBacklog s = raiseQuiet .backlog s := if_pos (by simp [set, notHeld])

/-- Settles O6: raising a cause, of which BACKLOG is one. -/
theorem backlogHaltsTheLine : Obligations.BacklogHaltsTheLine := by
  refine ⟨fun s set notHeld => ?_, fun c s => ?_⟩
  · rw [takeBacklog_of_due set notHeld, raiseQuiet_of_not_held (c := .backlog) notHeld]
    rfl
  · intro old held causes halted report
    have holds : held = s.line.causes.holds c := by
      simp only [held, old]
      cases c <;> rfl
    have put : causes = s.line.causes.put true c := by
      simp only [causes, old]
      cases c <;> rfl
    refine ⟨fun isHeld => ?_, fun notHeld => ?_⟩
    · exact congrArg takeBacklog (raiseQuiet_of_held (holds ▸ isHeld))
    · refine congrArg takeBacklog ((raiseQuiet_of_not_held (holds ▸ notHeld)).trans ?_)
      simp only [halted, report, put]
      rfl

/-! ### What a report leaves (R194 to R196) -/

theorem BacklogTaken.of_causes {a b : LineUnit} (notHeld : a.causes.backlog = false) (notRuns : a.state ≠ .run ∧ a.state ≠ .drain)
    (same : b = { a with causes := a.causes.put true .backlog }) : BacklogTaken a b := by
  subst same
  exact .inr ⟨notHeld, rfl, rfl, .inr (.inr ⟨notRuns.1, notRuns.2, rfl⟩)⟩

/-- A work of the Report Unit, and the BACKLOG it sets, change nothing else. -/
theorem ReportWork.reported {s t : State} (work : ReportWork s t) : Reported s (takeBacklog t) := by
  by_cases due : t.report.backlog = true ∧ t.line.causes.backlog = false
  case neg =>
    rw [takeBacklog_of_not_due due, work.only]
    exact ⟨by simp [State.setReport, State.setLine, State.setTrack], .inl rfl, by simp⟩
  obtain ⟨set, notHeld⟩ := due
  have line : t.line = s.line := by rw [work.only]; rfl
  rw [takeBacklog_of_due set notHeld, raiseQuiet_of_not_held (c := .backlog) notHeld]
  rw [line] at notHeld
  have halted (r : Resume) (runs : s.line.state = .run ∧ r = .run ∨ s.line.state = .drain ∧ r = .drain) :
      Reported s (hand (haltReport .backlog r t) (haltedBy .backlog r t)) := by
    rw [hand_eq]
    generalize (hand (haltReport .backlog r t) (haltedBy .backlog r t)).report = u
    have notHalt : s.line.state ≠ .halt := by
      obtain ⟨state, -⟩ | ⟨state, -⟩ := runs <;> simp [state]
    rw [work.only]
    refine ⟨rfl, .inr ⟨notHeld, rfl, rfl, ?_⟩, ?_⟩
    · obtain ⟨state, rfl⟩ | ⟨state, rfl⟩ := runs
      · exact .inl ⟨state, rfl, rfl, rfl, rfl⟩
      · exact .inr (.inl ⟨state, rfl, rfl, rfl, rfl⟩)
    · exact (if_neg (Ne.symm notHalt)).symm
  have stays (notRuns : s.line.state ≠ .run ∧ s.line.state ≠ .drain) :
      Reported s { t with line := { t.line with causes := t.line.causes.put true .backlog } } := by
    refine ⟨?_, .of_causes notHeld notRuns (by rw [line]), ?_⟩
    · rw [work.only]
      rfl
    · rw [work.only]
      exact (if_pos rfl).symm
  rw [line]
  cases state : s.line.state <;> simp only
  case run => exact halted .run (.inl ⟨state, rfl⟩)
  case drain => exact halted .drain (.inr ⟨state, rfl⟩)
  all_goals
    rw [← line]
    exact stays (by simp [state])

/-- Settles O5: a report and a tally are works of the Report Unit. -/
theorem reportsLeaveTheRest : Obligations.ReportsLeaveTheRest :=
  ⟨fun r s => (hand_reportWork r s).reported, fun e s => (bumpQuiet_reportWork (.event e) s).reported,
    fun d s => (bumpQuiet_reportWork (.accepted d) s).reported⟩

/-! ### Tallies (R197 to R200) -/

/-- An event tally goes up by one. -/
theorem increase_event (e : EventTally) (u : ReportUnit) :
    u.increase (.event e) = { u with events := u.events.set e.index (u.events[e.index] + 1) } := rfl

theorem increase_accepted (d : Denom) (u : ReportUnit) :
    u.increase (.accepted d) = { u with accepted := u.accepted.set d.toFin (u.accepted[d.toFin] + 1) } := rfl

theorem bumpQuiet_event (e : EventTally) (s : State) : bumpQuiet (.event e) s =
    let up := s.setReport { s.report with events := s.report.events.set e.index (s.report.events[e.index] + 1) }
    if s.report.events[e.index] + 1 = 0xE000 ∧ s.report.noticeMask.getLsbD e.index.val then
      handPlain (.tally { notice := true, cleared := false, tallies := [(32 + e.index.val, 0xE000)], group := e.group }) up
    else up := by
  have value : (s.report.events.set e.index (s.report.events[e.index] + 1))[e.index] = s.report.events[e.index] + 1 :=
    Vector.getElem_set_self _
  simp only [bumpQuiet, increase_event, State.setReport_report, ReportUnit.notices, Config.notice16, value, Bool.and_eq_true, beq_iff_eq,
    ReportUnit.noticeOf, Tally.group, Tally.number, ReportUnit.tallyValue]
  refine ite_congr rfl (fun due => ?_) fun _ => rfl
  rw [due.1]
  rfl

theorem bumpQuiet_accepted (d : Denom) (s : State) : bumpQuiet (.accepted d) s =
    let up := s.setReport { s.report with accepted := s.report.accepted.set d.toFin (s.report.accepted[d.toFin] + 1) }
    if s.report.accepted[d.toFin] + 1 = 0xE0000000 ∧ s.report.noticeMask.getLsbD 25 then
      handPlain (.tally { notice := true, group := .accepted, cleared := false, tallies := [(d.toNat, 0xE0000000)] }) up
    else up := by
  have value : (s.report.accepted.set d.toFin (s.report.accepted[d.toFin] + 1))[d.toFin] = s.report.accepted[d.toFin] + 1 :=
    Vector.getElem_set_self _
  simp only [bumpQuiet, increase_accepted, State.setReport_report, ReportUnit.notices, Config.notice32, value, Bool.and_eq_true, beq_iff_eq,
    ReportUnit.noticeOf, Tally.group, Tally.number, ReportUnit.tallyValue]
  refine ite_congr rfl (fun due => ?_) fun _ => rfl
  rw [due.1]

/-- Settles O7: an increase and its notice for either width of tally; the RUNOUT tally by the close and the reason. -/
theorem tallyIncrease : Obligations.TallyIncrease := by
  refine ⟨fun e s => bumpQuiet_event e s, fun _ _ => rfl, fun d s => ⟨fun largest => ?_, bumpQuiet_accepted d s⟩, by decide, fun e close s => ?_⟩
  · have value : s.report.accepted[d.toFin] = 0xFFFFFFFF := BitVec.eq_of_toNat_eq largest
    show s.report.accepted[d.toFin] + 1 = 0
    rw [value]
    rfl
  · unfold tallyClose
    cases close <;> cases e.dest <;> try rfl
    cases e.reason <;> rfl

theorem tallyGroupOf_eq_none_iff (b : Byte) : tallyGroupOf b = none ↔ 4 < b.toNat := by
  refine ⟨fun none => Classical.byContradiction fun within => ?_, fun above => ?_⟩
  · obtain group | group | group | group | group : b.toNat = 0 ∨ b.toNat = 1 ∨ b.toNat = 2 ∨ b.toNat = 3 ∨ b.toNat = 4 := by omega
    all_goals simp [tallyGroupOf, group] at none
  · unfold tallyGroupOf
    split
    case h_6 => rfl
    all_goals omega

/-- The 32 tallies in order. -/
theorem zipIdx_eq_finRange {α β : Type} {n : Nat} (v : Vector α n) (f : Nat → α → β) :
    (v.toList.zipIdx.map fun p => f p.2 p.1) = (List.finRange n).map fun k => f k.val v[k] := by
  refine List.ext_getElem (by simp) fun k inOne inTwo => ?_
  simp

theorem getElem_clearGroup_accepted (u : ReportUnit) (g : TallyGroup) (k : Fin 32) :
    (u.clearGroup g).accepted[k] = if g = .accepted ∨ g = .all then 0 else u.accepted[k] := by
  cases g <;> simp [ReportUnit.clearGroup]

theorem getElem_clearGroup_events (u : ReportUnit) (g : TallyGroup) (k : Fin 25) :
    (u.clearGroup g).events[k] =
      if g = .all ∨ (g = .runOut ∧ k.val < 11) ∨ (g = .events ∧ 11 ≤ k.val ∧ k.val < 19) ∨ (g = .output ∧ 19 ≤ k.val) then 0
      else u.events[k] := by
  cases g <;> simp [ReportUnit.clearGroup]

/-- Settles O8: a read refused, or answered and reported with the tallies as they were. -/
theorem tallyReadAnswered : Obligations.TallyReadAnswered := by
  refine ⟨fun tag group clear s => ⟨fun outOfRange => ?_, fun g isGroup inRange => ?_⟩, ⟨rfl, rfl, rfl, rfl, rfl⟩, fun u => ?_⟩
  · refine congrArg Host.Outcome.next ?_
    split
    case h_1 g isGroup =>
      have large : 1 < clear.toNat := by
        refine outOfRange.resolve_left fun above => ?_
        simp [(tallyGroupOf_eq_none_iff group).mpr above] at isGroup
      exact request_of_refusal (by simp [large]) _ _ _ _ _
    case h_2 => exact request_of_refusal rfl _ _ _ _ _
  · have read : exec (.tallyRead tag group clear) s = .next (readTallies g (clear == 1) (s.report.groupTallies g) (answer tag 0x61 .none s)) := by
      show Host.Outcome.next _ = _
      rw [isGroup]
      exact congrArg Host.Outcome.next (request_of_pass (by simp; omega) _ _ _ _ _)
    rw [read]
    simp only [readTallies, Bool.and_eq_true, beq_iff_eq, decide_eq_true_eq]
    refine congrArg Host.Outcome.next (congrArg takeBacklog ?_)
    by_cases clears : clear = 1 ∧ (answer tag 0x61 .none s).report.queue.length < 64
    · have cleared : (clear == 1 && decide ((answer tag 0x61 .none s).report.queue.length < Config.queueCapacity)) = true := by
        rw [Bool.and_eq_true, beq_iff_eq, decide_eq_true_eq]
        exact clears
      rw [if_pos clears, cleared]
      exact if_pos clears
    · have cleared : (clear == 1 && decide ((answer tag 0x61 .none s).report.queue.length < Config.queueCapacity)) = false := by
        rw [← Bool.not_eq_true, Bool.and_eq_true, beq_iff_eq, decide_eq_true_eq]
        exact clears
      rw [if_neg clears, cleared]
      exact if_neg clears
  · have accepted := zipIdx_eq_finRange u.accepted fun k v => (k, v)
    have events := zipIdx_eq_finRange u.events fun k v => (32 + k, v.zeroExtend 32)
    refine ⟨accepted, ?_, ?_, ?_, ?_, fun g => ⟨u.clearGroup_eq g, getElem_clearGroup_accepted u g, getElem_clearGroup_events u g⟩⟩
    · simp only [ReportUnit.groupTallies, events, List.map_take, List.drop_zero]
    · simp only [ReportUnit.groupTallies, events, List.map_take, List.map_drop]
    · simp only [ReportUnit.groupTallies, events, List.map_take, List.map_drop]
      rw [List.take_of_length_le (by simp)]
    · simp only [ReportUnit.groupTallies, events, accepted, List.drop_zero]
      rw [List.take_of_length_le (by simp)]

/-! ### Small requests (R14, R16, R22, R201) -/

/-- A record list read off in the order of its numbers. -/
theorem toList_eq_finRange {α : Type} {n : Nat} (v : Vector α n) : v.toList = (List.finRange n).map fun k => v[k] := by
  refine List.ext_getElem (by simp) fun k inOne inTwo => ?_
  simp

/-- Settles O9. -/
theorem formatSyncAndStatusAnswered : Obligations.FormatSyncAndStatusAnswered := by
  refine ⟨fun _ _ _ _ => rfl, fun _ _ _ _ _ => ⟨rfl, rfl⟩, fun tag next s => ?_, fun tag s => ?_⟩
  · refine congrArg Host.Outcome.next ?_
    rw [request_of_pass rfl]
    simp only [setSequence, answer_edge]
    rfl
  · refine ⟨rfl, rfl, rfl, rfl, rfl, rfl, fun n => ?_⟩
    refine ⟨rfl, rfl, rfl, rfl, rfl, rfl, rfl, rfl, rfl, rfl, rfl, rfl, rfl, rfl, rfl, rfl, rfl, rfl, rfl, rfl, ?_, ?_, ?_, ?_, ?_⟩
    · simp only [statusOf]
      cases s.feed <;> rfl
    · simp only [statusOf, toList_eq_finRange, List.map_map]
      rfl
    · simp only [statusOf, toList_eq_finRange, List.map_map]
      rfl
    · simp only [statusOf, toList_eq_finRange, List.map_map]
      rfl
    · rfl

end Sys2Proof.Machine
end

section
/-! SUPPORT. The transmitter: its three commands in each transmitter state (R190 to R193, R196). -/

set_option Elab.async false

namespace Sys2Proof.Machine

theorem exec_idleByteSent_of_quiet {n : Nat} {s : State} (quiet : s.report.tx = .quiet n) (rdy : Bool) :
    exec (.idleByteSent rdy) s =
      .next (setTransmitter (.quiet (min (n + 1) Config.idleRun)) (s.setReport { s.report with rdyIn := rdy })) := by
  show Host.Outcome.next _ = _
  rw [quiet]

theorem exec_idleByteSent_of_not_quiet {s : State} (busy : ∀ n, s.report.tx ≠ .quiet n) (rdy : Bool) :
    exec (.idleByteSent rdy) s = .next s := by
  show Host.Outcome.next _ = _
  split
  next n quiet => exact absurd quiet (busy n)
  all_goals rfl

theorem exec_frameStart_of_quiet {n : Nat} {s : State} (quiet : s.report.tx = .quiet n) :
    exec .frameStart s = .next (match s.report.queue with
      | q :: _ => if n = Config.idleRun ∧ s.report.rdyIn = true then setTransmitter (.sending (reportFrame q s.report.segment)) s else s
      | [] => s) := by
  show Host.Outcome.next _ = _
  rw [quiet]
  cases s.report.queue <;> rfl

theorem exec_frameStart_of_not_quiet {s : State} (busy : ∀ n, s.report.tx ≠ .quiet n) : exec .frameStart s = .next s := by
  show Host.Outcome.next _ = _
  split
  next quiet _ => exact absurd quiet (busy _)
  next => rfl

theorem exec_frameSent_of_not_sending {s : State} (quiet : ∀ f, s.report.tx ≠ .sending f) : exec .frameSent s = .next s := by
  show Host.Outcome.next _ = _
  split
  next => rfl
  next => rfl
  next f sending => exact absurd sending (quiet f)

theorem exec_frameSent_of_sending {f : List Byte} {q : Queued} {rest : List Queued} {s : State} (sending : s.report.tx = .sending f)
    (queue : s.report.queue = q :: rest) :
    exec .frameSent s = .next (
      if q.report.segments ≤ s.report.segment + 1 then removeHead (setTransmitter (.quiet 0) s)
      else (setTransmitter (.quiet 0) s).setReport { (setTransmitter (.quiet 0) s).report with segment := s.report.segment + 1 }) := by
  show Host.Outcome.next _ = _
  simp only [sending, queue, Report.lastSegment, decide_eq_true_eq]

theorem removeHead_eq {q : Queued} {rest : List Queued} {s : State} (queue : s.report.queue = q :: rest) :
    removeHead s =
      if s.report.backlog = true ∧ rest.length = Config.clearLevel then
        { s with
          report := { s.report with queue := rest, segment := 0, backlog := false }
          line := { s.line with causes := { s.line.causes with backlog := false } } }
      else { s with report := { s.report with queue := rest, segment := 0 } } := by
  have tail : s.report.queue.tail = rest := by rw [queue]; rfl
  simp only [removeHead, tail, Bool.and_eq_true, beq_iff_eq]
  rfl

/-- Settles O10: each command in each transmitter state; the bits of the idle byte and of a frame are the levels of their bytes. -/
theorem transmitterSteps : Obligations.TransmitterSteps := by
  unfold Obligations.TransmitterSteps
  intro levels idle
  refine ⟨?_, ?_, ?_, ?_, ?_, ?_⟩
  · exact fun rdy n s quiet => exec_idleByteSent_of_quiet quiet rdy
  · intro n s quiet
    rw [exec_frameStart_of_quiet quiet]
    cases s.report.queue <;> rfl
  · intro f q rest s sending queue
    rw [exec_frameSent_of_sending sending queue, removeHead_eq (s := setTransmitter (.quiet 0) s) queue]
    rfl
  · intro rdy f s sending
    have busy : ∀ n, s.report.tx ≠ .quiet n := by simp [sending]
    exact ⟨exec_idleByteSent_of_not_quiet busy rdy, exec_frameStart_of_not_quiet busy⟩
  · exact fun n s quiet => exec_frameSent_of_not_sending (by simp [quiet])
  · intro rdy s held
    have busy : ∀ n, s.report.tx ≠ .quiet n := by simp [held]
    exact ⟨exec_idleByteSent_of_not_quiet busy rdy, exec_frameStart_of_not_quiet busy, exec_frameSent_of_not_sending (by simp [held])⟩

end Sys2Proof.Machine
end

section
/-! SUPPORT. The record payloads of the Feed link: what is read of a payload written out, and what is written of a record read. -/

set_option Elab.async false

namespace Sys2Proof.Machine

/-! ### Multi-byte values (section 11.1) -/

@[simp] theorem bytes16_be16 (h l : Byte) : bytes16 (be16 h l) = [h, l] := by
  have high : (be16 h l).extractLsb' 8 8 = h := BitVec.extractLsb'_append_eq_left
  have low : (be16 h l).extractLsb' 0 8 = l := BitVec.extractLsb'_append_eq_right
  rw [bytes16, high, low]

theorem be32_toNat (a b c d : Byte) : (be32 a b c d).toNat = ((a.toNat * 256 + b.toNat) * 256 + c.toNat) * 256 + d.toNat := by
  have join {w : Nat} (x : BitVec w) (y : Byte) : (x ++ y).toNat = x.toNat * 256 + y.toNat := by
    rw [BitVec.toNat_append, ← Nat.shiftLeft_add_eq_or_of_lt y.isLt, Nat.shiftLeft_eq]
  simp only [be32, join]

theorem be16_toNat (a b : Byte) : (be16 a b).toNat = a.toNat * 256 + b.toNat := by
  rw [be16, BitVec.toNat_append, ← Nat.shiftLeft_add_eq_or_of_lt b.isLt, Nat.shiftLeft_eq]

theorem toNat_byte {w : Nat} (x : BitVec w) (low : Nat) : (x.extractLsb' low 8).toNat = x.toNat / 2 ^ low % 256 := by
  rw [BitVec.extractLsb'_toNat, Nat.shiftRight_eq_div_pow]

@[simp] theorem be16_bytes16 (w : Half) : be16 (w.extractLsb' 8 8) (w.extractLsb' 0 8) = w := by
  refine BitVec.eq_of_toNat_eq ?_
  have small := w.isLt
  rw [be16_toNat, toNat_byte, toNat_byte]
  omega

@[simp] theorem be32_bytes32 (w : Word) :
    be32 (w.extractLsb' 24 8) (w.extractLsb' 16 8) (w.extractLsb' 8 8) (w.extractLsb' 0 8) = w := by
  refine BitVec.eq_of_toNat_eq ?_
  have small := w.isLt
  simp only [be32_toNat, toNat_byte]
  omega

@[simp] theorem bytes32_be32 (a b c d : Byte) : bytes32 (be32 a b c d) = [a, b, c, d] := by
  have byte (low : Nat) : (be32 a b c d).extractLsb' low 8 =
      BitVec.ofNat 8 ((((a.toNat * 256 + b.toNat) * 256 + c.toNat) * 256 + d.toNat) / 2 ^ low) := by
    refine BitVec.eq_of_toNat_eq ?_
    rw [toNat_byte, be32_toNat, BitVec.toNat_ofNat]
  have small := (⟨a.isLt, b.isLt, c.isLt, d.isLt⟩ : a.toNat < _ ∧ b.toNat < _ ∧ c.toNat < _ ∧ d.toNat < _)
  simp only [bytes32, byte, List.cons.injEq, and_true]
  refine ⟨?_, ?_, ?_, ?_⟩ <;> refine BitVec.eq_of_toNat_eq ?_ <;> rw [BitVec.toNat_ofNat] <;> omega

/-! ### Geometries (R123, R124) -/

/-- Values of two bytes read from their bytes one after another. -/
theorem flatMap_bytes16_ofFn (n : Nat) (args : List Byte) (long : 2 * n ≤ args.length) :
    (List.ofFn fun p : Fin n => be16 (args.getD (2 * p.val) 0) (args.getD (2 * p.val + 1) 0)).flatMap bytes16 = args.take (2 * n) := by
  induction n generalizing args with
  | zero => simp
  | succ n ih =>
    match args with
    | [] | [_] => simp at long <;> omega
    | a :: b :: rest =>
      rw [List.ofFn_succ, List.flatMap_cons, show 2 * (n + 1) = 2 * n + 1 + 1 from rfl, List.take_succ_cons, List.take_succ_cons]
      have tail := ih rest (by simp at long; omega)
      simp only [Fin.val_succ, Fin.val_zero, Nat.mul_zero, Nat.zero_add, List.getD_cons_zero, List.getD_cons_succ, bytes16_be16,
        show ∀ p, 2 * (p + 1) = 2 * p + 1 + 1 from fun _ => rfl, List.cons_append, List.nil_append]
      rw [tail]

theorem getD_flatMap_bytes16 (list : List Half) (rest : List Byte) (p : Nat) (inRange : p < list.length) :
    (list.flatMap bytes16 ++ rest).getD (2 * p) 0 = list[p].extractLsb' 8 8 ∧
      (list.flatMap bytes16 ++ rest).getD (2 * p + 1) 0 = list[p].extractLsb' 0 8 := by
  induction list generalizing p with
  | nil => simp at inRange
  | cons w list ih =>
    cases p with
    | zero => exact ⟨rfl, rfl⟩
    | succ p => exact ih p (by simpa using inRange)

theorem length_flatMap_bytes16 (list : List Half) : (list.flatMap bytes16).length = 2 * list.length := by
  induction list with
  | nil => rfl
  | cons w list ih =>
    rw [List.flatMap_cons, List.length_append, ih]
    simp [bytes16]
    omega

theorem encodeGeometry_parseGeometry {args : List Byte} (length : args.length = 37) : encodeGeometry (parseGeometry args) = args := by
  have distances := flatMap_bytes16_ofFn 16 args (by omega)
  have margins : args.drop 32 = [args.getD 32 0, args.getD 33 0, args.getD 34 0, args.getD 35 0, args.getD 36 0] := by
    refine List.ext_getElem (by simp [length]) fun k inOne inTwo => ?_
    simp only [List.length_cons, List.length_nil] at inTwo
    rw [List.getElem_drop]
    interval_cases k <;> simp [length]
  have list : (parseGeometry args).d.toList = List.ofFn fun p : Fin 16 => be16 (args.getD (2 * p.val) 0) (args.getD (2 * p.val + 1) 0) := by
    simp [parseGeometry, Vector.toList_ofFn]
  rw [encodeGeometry, list, distances, List.append_assoc]
  conv_rhs => rw [← List.take_append_drop 32 args, margins]
  simp [parseGeometry]

theorem length_encodeGeometry (geo : Geometry) : (encodeGeometry geo).length = 37 := by
  rw [encodeGeometry, List.length_append, List.length_append, length_flatMap_bytes16, Vector.length_toList]
  rfl

theorem parseGeometry_encodeGeometry (geo : Geometry) : parseGeometry (encodeGeometry geo) = geo := by
  have sixteen : (geo.d.toList.flatMap bytes16).length = 32 := by
    rw [length_flatMap_bytes16, Vector.length_toList]
  have margin (k : Nat) (x : Byte) (isByte : ([geo.lead, geo.lag, geo.tol] ++ bytes16 geo.admitLimit).getD k 0 = x) :
      (encodeGeometry geo).getD (32 + k) 0 = x := by
    rw [encodeGeometry, List.append_assoc, List.getD_append_right _ _ _ _ (by omega), sixteen, Nat.add_sub_cancel_left, isByte]
  have distances : (parseGeometry (encodeGeometry geo)).d = geo.d := by
    refine Vector.ext fun p small => ?_
    have pair := getD_flatMap_bytes16 geo.d.toList ([geo.lead, geo.lag, geo.tol] ++ bytes16 geo.admitLimit) p (by simpa using small)
    simp only [parseGeometry, Vector.getElem_ofFn, encodeGeometry, List.append_assoc, pair, Vector.getElem_toList, be16_bytes16]
  have lead : (parseGeometry (encodeGeometry geo)).lead = geo.lead := margin 0 _ rfl
  have lag : (parseGeometry (encodeGeometry geo)).lag = geo.lag := margin 1 _ rfl
  have tol : (parseGeometry (encodeGeometry geo)).tol = geo.tol := margin 2 _ rfl
  have limit : (parseGeometry (encodeGeometry geo)).admitLimit = geo.admitLimit := by
    show be16 _ _ = _
    rw [margin 3 _ rfl, margin 4 _ rfl]
    exact be16_bytes16 _
  cases geo
  simp only at distances lead lag tol limit
  generalize parseGeometry _ = g at *
  cases g
  simp_all

/-! ### Declaration lines (R151) -/

theorem parseLines_flatMap (lines : List (Byte × Half)) : parseLines (lines.flatMap fun l => l.1 :: bytes16 l.2) = some lines := by
  induction lines with
  | nil => rfl
  | cons l rest ih =>
    rw [List.flatMap_cons]
    show (parseLines (rest.flatMap _)).map (fun lines => (l.1, be16 _ _) :: lines) = _
    rw [ih, be16_bytes16]
    rfl

theorem flatMap_of_parseLines {bytes : List Byte} {lines : List (Byte × Half)} (parsed : parseLines bytes = some lines) :
    (lines.flatMap fun l => l.1 :: bytes16 l.2) = bytes := by
  fun_induction parseLines bytes generalizing lines with
  | case1 => cases parsed; rfl
  | case2 d h l rest ih =>
    obtain ⟨more, isMore, rfl⟩ := Option.map_eq_some_iff.mp parsed
    simp [ih isMore]
  | case3 => cases parsed

/-! ### Requests read back (R13) -/

/-- The parameter an identifier names is the one whose record carries it. -/
theorem encode_of_parseParam {tag id : Byte} {v : Word} {i : Instr} (parsed : parseParam tag id v = some i) :
    encodeControl i = some (tag :: 0x01 :: id :: bytes32 v) := by
  have identifier (n : Nat) (same : id.toNat = n) : encodeParam tag n v = tag :: 0x01 :: id :: bytes32 v := by
    rw [encodeParam, ← same, BitVec.ofNat_toNat, BitVec.setWidth_eq]
  have grouped (k : Nat) (high : (id.extractLsb' 3 5).toNat = k) :
      encodeParam tag (8 * k + (id.extractLsb' 0 3).toNat) v = tag :: 0x01 :: id :: bytes32 v := by
    refine identifier _ ?_
    have small := id.isLt
    rw [BitVec.extractLsb'_toNat, Nat.shiftRight_eq_div_pow] at high ⊢
    omega
  unfold parseParam at parsed
  simp only at parsed
  split at parsed
  case h_1 | h_2 =>
    split at parsed
    all_goals
      cases parsed
      try exact congrArg some (identifier _ ‹_›)
  case h_9 => cases parsed
  all_goals
    cases parsed
    exact congrArg some (grouped _ ‹_›)

/-- The request codes of section 11.3. -/
def requestCodes : List Byte := [0x01, 0x02, 0x03, 0x10, 0x11, 0x12, 0x13, 0x20, 0x21, 0x22, 0x30, 0x31, 0x32, 0x38, 0x40, 0x41, 0x50, 0x51,
  0x52, 0x53, 0x54, 0x55, 0x60, 0x61]

/-- Each byte is a request code, or it is read as no request whatever bytes follow it. -/
theorem mem_requestCodes_or_parseRequest_eq_none (code tag : Byte) (args : List Byte) :
    code ∈ requestCodes ∨ parseRequest tag code args = none := by
  have either (n : Nat) (small : n < 2 ^ 8) : requestCodes.contains (⟨⟨n, small⟩⟩ : Byte) = true ∨
      parseRequest tag ⟨⟨n, small⟩⟩ args = none := by
    interval_cases n
    all_goals first
      | exact .inl rfl
      | exact .inr rfl
  obtain ⟨⟨n, small⟩⟩ := code
  exact (either n small).imp_left List.contains_iff_mem.mp

theorem ofNat_of_length {n : Byte} {bytes : List Byte} (counted : bytes.length = n.toNat) : BitVec.ofNat 8 bytes.length = n := by
  rw [counted, BitVec.ofNat_toNat, BitVec.setWidth_eq]

/-- A payload read as a request is that request's payload: SET_GEOMETRY, and the requests whose last argument is a list. -/
theorem encode_of_parse_setGeometry {tag : Byte} {args : List Byte} {i : Instr} (parsed : parseRequest tag 0x02 args = some i) :
    encodeControl i = some (tag :: 0x02 :: args) := by
  have guarded : (if args.length = 37 then some (Instr.setGeometry tag (parseGeometry args)) else none) = some i := parsed
  obtain ⟨long, named⟩ := Option.ite_none_right_eq_some.mp guarded
  cases named
  exact congrArg (fun bytes => some (tag :: 0x02 :: bytes)) (encodeGeometry_parseGeometry long)

theorem encode_of_parse_watchAdd {tag : Byte} {args : List Byte} {i : Instr} (parsed : parseRequest tag 0x20 args = some i) :
    encodeControl i = some (tag :: 0x20 :: args) := by
  rcases args with _ | ⟨d, _ | ⟨c3, _ | ⟨c2, _ | ⟨c1, _ | ⟨c0, _ | ⟨n, chars⟩⟩⟩⟩⟩⟩
  case cons.cons.cons.cons.cons.cons =>
    have guarded : (if chars.length = n.toNat && chars.all serialChar then some (Instr.watchAdd tag d (be32 c3 c2 c1 c0) chars) else none) =
      some i := parsed
    obtain ⟨passed, named⟩ := Option.ite_none_right_eq_some.mp guarded
    have counted := of_decide_eq_true (Bool.and_eq_true_iff.mp passed).1
    cases named
    simp [encodeControl, ofNat_of_length counted]
  all_goals cases parsed

theorem encode_of_parse_watchRemove {tag : Byte} {args : List Byte} {i : Instr} (parsed : parseRequest tag 0x21 args = some i) :
    encodeControl i = some (tag :: 0x21 :: args) := by
  rcases args with _ | ⟨d, _ | ⟨n, chars⟩⟩
  case cons.cons =>
    have guarded : (if chars.length = n.toNat && chars.all serialChar then some (Instr.watchRemove tag d chars) else none) = some i := parsed
    obtain ⟨passed, named⟩ := Option.ite_none_right_eq_some.mp guarded
    have counted := of_decide_eq_true (Bool.and_eq_true_iff.mp passed).1
    cases named
    simp [encodeControl, ofNat_of_length counted]
  all_goals cases parsed

theorem encode_of_parse_groupDefine {tag : Byte} {args : List Byte} {i : Instr} (parsed : parseRequest tag 0x30 args = some i) :
    encodeControl i = some (tag :: 0x30 :: args) := by
  rcases args with _ | ⟨g, _ | ⟨n, pockets⟩⟩
  case cons.cons =>
    have guarded : (if pockets.length = n.toNat then some (Instr.groupDefine tag g pockets) else none) = some i := parsed
    obtain ⟨counted, named⟩ := Option.ite_none_right_eq_some.mp guarded
    cases named
    simp [encodeControl, ofNat_of_length counted]
  all_goals cases parsed

theorem encode_of_parse_declare {tag : Byte} {args : List Byte} {i : Instr} (parsed : parseRequest tag 0x40 args = some i) :
    encodeControl i = some (tag :: 0x40 :: args) := by
  rcases args with _ | ⟨i3, _ | ⟨i2, _ | ⟨i1, _ | ⟨i0, _ | ⟨n, rest⟩⟩⟩⟩⟩
  case cons.cons.cons.cons.cons =>
    have mapped : (parseCounted n rest).map (Instr.declare tag (be32 i3 i2 i1 i0)) = some i := parsed
    obtain ⟨lines, counted, rfl⟩ := Option.map_eq_some_iff.mp mapped
    obtain ⟨parsedLines, many⟩ := Option.filter_eq_some_iff.mp counted
    have count : BitVec.ofNat 8 lines.length = n := by
      rw [beq_iff_eq.mp many, BitVec.ofNat_toNat, BitVec.setWidth_eq]
    simp [encodeControl, count, flatMap_of_parseLines parsedLines]
  all_goals cases parsed

theorem encode_of_parse_setParam {tag : Byte} {args : List Byte} {i : Instr} (parsed : parseRequest tag 0x01 args = some i) :
    encodeControl i = some (tag :: 0x01 :: args) := by
  rcases args with _ | ⟨id, _ | ⟨a, _ | ⟨b, _ | ⟨c, _ | ⟨d, _ | ⟨e, rest⟩⟩⟩⟩⟩⟩
  case cons.cons.cons.cons.cons.nil => rw [encode_of_parseParam (i := i) (id := id) (v := be32 a b c d) parsed, bytes32_be32]
  all_goals cases parsed

/-- A request with no argument bytes. -/
theorem encode_of_parse_noArgs {tag code : Byte} {args : List Byte} {i : Instr} (bare : code ∈ [0x13, 0x22, 0x38, 0x50, 0x51, 0x52, 0x53, 0x55,
    0x60]) (parsed : parseRequest tag code args = some i) : encodeControl i = some (tag :: code :: args) := by
  simp only [List.mem_cons, List.not_mem_nil, or_false] at bare
  rcases args with _ | ⟨a, rest⟩
  · obtain rfl | rfl | rfl | rfl | rfl | rfl | rfl | rfl | rfl := bare
    all_goals
      cases parsed
      rfl
  · obtain rfl | rfl | rfl | rfl | rfl | rfl | rfl | rfl | rfl := bare
    all_goals cases parsed

/-- A request with one argument byte. -/
theorem encode_of_parse_oneArg {tag code : Byte} {args : List Byte} {i : Instr} (one : code ∈ [0x03, 0x12, 0x31, 0x54])
    (parsed : parseRequest tag code args = some i) : encodeControl i = some (tag :: code :: args) := by
  simp only [List.mem_cons, List.not_mem_nil, or_false] at one
  rcases args with _ | ⟨a, _ | ⟨b, rest⟩⟩
  case cons.nil =>
    obtain rfl | rfl | rfl | rfl := one
    all_goals
      cases parsed
      rfl
  all_goals
    obtain rfl | rfl | rfl | rfl := one
    all_goals cases parsed

/-- A request with two argument bytes. -/
theorem encode_of_parse_twoArgs {tag code : Byte} {args : List Byte} {i : Instr} (two : code ∈ [0x32, 0x61])
    (parsed : parseRequest tag code args = some i) : encodeControl i = some (tag :: code :: args) := by
  simp only [List.mem_cons, List.not_mem_nil, or_false] at two
  rcases args with _ | ⟨a, _ | ⟨b, _ | ⟨c, rest⟩⟩⟩
  case cons.cons.nil =>
    obtain rfl | rfl := two
    all_goals
      cases parsed
      rfl
  all_goals
    obtain rfl | rfl := two
    all_goals cases parsed

theorem encode_of_parse_routeLink {tag : Byte} {args : List Byte} {i : Instr} (parsed : parseRequest tag 0x11 args = some i) :
    encodeControl i = some (tag :: 0x11 :: args) := by
  rcases args with _ | ⟨a, _ | ⟨b, _ | ⟨c, _ | ⟨d, rest⟩⟩⟩⟩
  case cons.cons.cons.nil =>
    cases parsed
    rfl
  all_goals cases parsed

theorem encode_of_parse_declareCancel {tag : Byte} {args : List Byte} {i : Instr} (parsed : parseRequest tag 0x41 args = some i) :
    encodeControl i = some (tag :: 0x41 :: args) := by
  rcases args with _ | ⟨a, _ | ⟨b, _ | ⟨c, _ | ⟨d, _ | ⟨e, rest⟩⟩⟩⟩⟩
  case cons.cons.cons.cons.nil =>
    cases parsed
    simp [encodeControl]
  all_goals cases parsed

theorem encode_of_parse_routeWrite {tag : Byte} {args : List Byte} {i : Instr} (parsed : parseRequest tag 0x10 args = some i) :
    encodeControl i = some (tag :: 0x10 :: args) := by
  rcases args with _ | ⟨a, _ | ⟨b, _ | ⟨c, _ | ⟨d, _ | ⟨e, _ | ⟨f, _ | ⟨g, _ | ⟨h, _ | ⟨j, _ | ⟨k, _ | ⟨l, _ | ⟨m, _ | ⟨n, rest⟩⟩⟩⟩⟩⟩⟩⟩⟩⟩⟩⟩⟩
  case cons.cons.cons.cons.cons.cons.cons.cons.cons.cons.cons.cons.nil =>
    cases parsed
    simp [encodeControl]
  all_goals cases parsed

theorem encode_of_parseRequest {tag code : Byte} {args : List Byte} {i : Instr} (parsed : parseRequest tag code args = some i) :
    encodeControl i = some (tag :: code :: args) := by
  obtain known | none := mem_requestCodes_or_parseRequest_eq_none code tag args
  case inr => cases none.symm.trans parsed
  simp only [requestCodes, List.mem_cons, List.not_mem_nil, or_false] at known
  obtain rfl | rfl | rfl | rfl | rfl | rfl | rfl | rfl | rfl | rfl | rfl | rfl | rfl | rfl | rfl | rfl | rfl | rfl | rfl | rfl | rfl |
    rfl | rfl | rfl := known
  · exact encode_of_parse_setParam parsed
  · exact encode_of_parse_setGeometry parsed
  · exact encode_of_parse_oneArg (by decide) parsed
  · exact encode_of_parse_routeWrite parsed
  · exact encode_of_parse_routeLink parsed
  · exact encode_of_parse_oneArg (by decide) parsed
  · exact encode_of_parse_noArgs (by decide) parsed
  · exact encode_of_parse_watchAdd parsed
  · exact encode_of_parse_watchRemove parsed
  · exact encode_of_parse_noArgs (by decide) parsed
  · exact encode_of_parse_groupDefine parsed
  · exact encode_of_parse_oneArg (by decide) parsed
  · exact encode_of_parse_twoArgs (by decide) parsed
  · exact encode_of_parse_noArgs (by decide) parsed
  · exact encode_of_parse_declare parsed
  · exact encode_of_parse_declareCancel parsed
  · exact encode_of_parse_noArgs (by decide) parsed
  · exact encode_of_parse_noArgs (by decide) parsed
  · exact encode_of_parse_noArgs (by decide) parsed
  · exact encode_of_parse_noArgs (by decide) parsed
  · exact encode_of_parse_oneArg (by decide) parsed
  · exact encode_of_parse_noArgs (by decide) parsed
  · exact encode_of_parse_noArgs (by decide) parsed
  · exact encode_of_parse_twoArgs (by decide) parsed

end Sys2Proof.Machine
end

section
/-! SUPPORT. Every record is read back from its payload, and the payloads of NOTE and SEPARATOR records bit by bit (R2, R10, R13). -/

set_option Elab.async false

namespace Sys2Proof.Machine

/-! ### Control requests read back -/

theorem parseControl_of_parseRequest {tag code : Byte} {args : List Byte} {i : Instr} (parsed : parseRequest tag code args = some i) :
    parseControl (tag :: code :: args) = some i := by
  rw [parseControl, parsed]
  rfl

/-- A SET_PARAM record whose identifier the table gives to request `i` of its value. -/
theorem parseControl_encodeParam {tag : Byte} {n : Nat} {v : Word} {i : Instr} (named : parseParam tag (BitVec.ofNat 8 n) v = some i) :
    parseControl (encodeParam tag n v) = some i := by
  refine parseControl_of_parseRequest (code := 0x01) ?_
  show parseParam tag (BitVec.ofNat 8 n) (be32 _ _ _ _) = _
  rw [be32_bytes32, named]

theorem parseControl_setGeometry (tag : Byte) (geo : Geometry) :
    parseControl (tag :: 0x02 :: encodeGeometry geo) = some (.setGeometry tag geo) := by
  refine parseControl_of_parseRequest ?_
  show (if _ then some (Instr.setGeometry tag (parseGeometry (encodeGeometry geo))) else none) = _
  rw [if_pos (length_encodeGeometry geo), parseGeometry_encodeGeometry]

theorem toNat_ofNat_length {α : Type} {list : List α} (short : list.length < 256) : (BitVec.ofNat 8 list.length).toNat = list.length := by
  rw [BitVec.toNat_ofNat, Nat.mod_eq_of_lt short]

theorem parseControl_watchAdd (tag d : Byte) (c : Word) {chars : List Byte} (short : chars.length ≤ 52) (printable : chars.all serialChar = true) :
    parseControl (tag :: 0x20 :: d :: bytes32 c ++ BitVec.ofNat 8 chars.length :: chars) = some (.watchAdd tag d c chars) := by
  refine parseControl_of_parseRequest (code := 0x20) ?_
  show (if _ then some (Instr.watchAdd tag d (be32 _ _ _ _) chars) else none) = _
  rw [be32_bytes32, if_pos (by rw [toNat_ofNat_length (by omega), printable]; simp)]

theorem parseControl_watchRemove (tag d : Byte) {chars : List Byte} (short : chars.length ≤ 56) (printable : chars.all serialChar = true) :
    parseControl (tag :: 0x21 :: d :: BitVec.ofNat 8 chars.length :: chars) = some (.watchRemove tag d chars) := by
  refine parseControl_of_parseRequest ?_
  show (if _ then some (Instr.watchRemove tag d chars) else none) = _
  rw [if_pos (by rw [toNat_ofNat_length (by omega), printable]; simp)]

theorem parseControl_groupDefine (tag g : Byte) {ps : List Byte} (short : ps.length ≤ 56) :
    parseControl (tag :: 0x30 :: g :: BitVec.ofNat 8 ps.length :: ps) = some (.groupDefine tag g ps) := by
  refine parseControl_of_parseRequest ?_
  show (if _ then some (Instr.groupDefine tag g ps) else none) = _
  rw [if_pos (toNat_ofNat_length (by omega)).symm]

theorem parseControl_declare (tag : Byte) (id : Word) {ls : List (Byte × Half)} (short : ls.length ≤ 17) :
    parseControl (tag :: 0x40 :: bytes32 id ++ BitVec.ofNat 8 ls.length :: ls.flatMap fun l => l.1 :: bytes16 l.2) =
      some (.declare tag id ls) := by
  refine parseControl_of_parseRequest (code := 0x40) ?_
  show (parseCounted _ _).map (Instr.declare tag (be32 _ _ _ _)) = _
  rw [be32_bytes32, parseCounted, parseLines_flatMap, toNat_ofNat_length (by omega)]
  simp

theorem parseControl_routeWrite (tag i : Byte) (a : RouteArgs) :
    parseControl ([tag, 0x10, i, a.classSet, a.denomValue, a.denomMask, a.series, a.fitOrient, a.kindSet, a.target, a.priority, a.options]
      ++ bytes16 a.quota) = some (.routeWrite tag i a) := by
  refine parseControl_of_parseRequest (code := 0x10) ?_
  show some (Instr.routeWrite tag i ⟨_, _, _, _, _, _, _, _, _, be16 _ _⟩) = _
  rw [be16_bytes16]

theorem parseControl_declareCancel (tag : Byte) (id : Word) :
    parseControl (tag :: 0x41 :: bytes32 id) = some (.declareCancel tag id) := by
  refine parseControl_of_parseRequest ?_
  show some (Instr.declareCancel tag (be32 _ _ _ _)) = _
  rw [be32_bytes32]

/-- The parameters of a group: the identifier of each is its base and the group number (section 11.6). -/
theorem parseParam_grouped (tag : Byte) (g : GroupNo) (v : Word) :
    parseParam tag (BitVec.ofNat 8 (0x20 + g.val)) v = some (.setParamStrapPreset tag g v) ∧
    parseParam tag (BitVec.ofNat 8 (0x28 + g.val)) v = some (.setParamDenominationPurity tag g v) ∧
    parseParam tag (BitVec.ofNat 8 (0x30 + g.val)) v = some (.setParamDepositPurity tag g v) ∧
    parseParam tag (BitVec.ofNat 8 (0x38 + g.val)) v = some (.setParamBrickSize tag g v) ∧
    parseParam tag (BitVec.ofNat 8 (0x40 + g.val)) v = some (.setParamLowThreshold tag g v) ∧
    parseParam tag (BitVec.ofNat 8 (0x48 + g.val)) v = some (.setParamOverflowAction tag g v) := by
  fin_cases g
  all_goals exact ⟨rfl, rfl, rfl, rfl, rfl, rfl⟩

theorem parseControl_of_encodeControl {c : Instr} {p : List Byte} (wellFormed : c.wf = true) (encoded : encodeControl c = some p) :
    parseControl p = some c := by
  cases c
  case controlFormatRefusal tag code args =>
    cases encoded
    obtain ⟨-, failed⟩ := Bool.and_eq_true_iff.mp wellFormed
    rw [parseControl, Option.isNone_iff_eq_none.mp failed]
    rfl
  case setGeometry tag geo =>
    cases encoded
    exact parseControl_setGeometry tag geo
  case watchAdd tag d c chars =>
    cases encoded
    obtain ⟨short, printable⟩ := Bool.and_eq_true_iff.mp wellFormed
    exact parseControl_watchAdd tag d c (of_decide_eq_true short) printable
  case watchRemove tag d chars =>
    cases encoded
    obtain ⟨short, printable⟩ := Bool.and_eq_true_iff.mp wellFormed
    exact parseControl_watchRemove tag d (of_decide_eq_true short) printable
  case groupDefine tag g ps =>
    cases encoded
    exact parseControl_groupDefine tag g (of_decide_eq_true wellFormed)
  case declare tag id ls =>
    cases encoded
    exact parseControl_declare tag id (of_decide_eq_true wellFormed)
  case routeWrite tag i a =>
    cases encoded
    exact parseControl_routeWrite tag i a
  case declareCancel tag id =>
    cases encoded
    exact parseControl_declareCancel tag id
  case setParamStrapPreset tag g v =>
    cases encoded
    exact parseControl_encodeParam (parseParam_grouped tag g v).1
  case setParamDenominationPurity tag g v =>
    cases encoded
    exact parseControl_encodeParam (parseParam_grouped tag g v).2.1
  case setParamDepositPurity tag g v =>
    cases encoded
    exact parseControl_encodeParam (parseParam_grouped tag g v).2.2.1
  case setParamBrickSize tag g v =>
    cases encoded
    exact parseControl_encodeParam (parseParam_grouped tag g v).2.2.2.1
  case setParamLowThreshold tag g v =>
    cases encoded
    exact parseControl_encodeParam (parseParam_grouped tag g v).2.2.2.2.1
  case setParamOverflowAction tag g v =>
    cases encoded
    exact parseControl_encodeParam (parseParam_grouped tag g v).2.2.2.2.2
  case setParamLengthMin | setParamLengthMax | setParamRequireDeposit | setParamQuarantinePocket | setParamQuarantineLimit |
      setParamGapMin | setParamStallTime | setParamStartTime | setParamTraceAll | setParamTraceRejects | setParamNoticeMask =>
    cases encoded
    exact parseControl_encodeParam rfl
  all_goals
    cases encoded
    try rfl

theorem encodeControl_of_parseControl {c : Instr} {p : List Byte} (parsed : parseControl p = some c) : encodeControl c = some p := by
  match p with
  | [] | [_] => cases parsed
  | tag :: code :: args =>
    have read : (parseRequest tag code args).getD (.controlFormatRefusal tag code args) = c := Option.some.inj parsed
    cases request : parseRequest tag code args with
    | none =>
      rw [request] at read
      rw [← read]
      rfl
    | some i =>
      rw [request] at read
      rw [← read]
      exact encode_of_parseRequest request

theorem parseControl_of_short {p : List Byte} (short : p.length < 2) : parseControl p = none := by
  match p with
  | [] | [_] => rfl
  | _ :: _ :: _ => simp at short

/-! ### NOTE records (R10, section 11.3) -/

/-- The class in bits 7 and 6 of a NOTE's flag byte. -/
theorem ofCode_flags (b : Byte) : NoteClass.ofCode (b.extractLsb' 6 2) = match b.toNat / 64 with
    | 0 => .genuine
    | 1 => .suspect
    | 2 => .unrecognised
    | _ => .multiple := by
  decide +revert

theorem coded_iff (cls : NoteClass) : cls.coded = true ↔ cls = .genuine ∨ cls = .suspect := by
  cases cls <;> simp [NoteClass.coded]

theorem toFin_extract (b : Byte) (low : Nat) : (b.extractLsb' low 2).toFin = Fin.ofNat 4 (b.toNat / 2 ^ low) := by
  refine Fin.ext ?_
  show (b.extractLsb' low 2).toNat = b.toNat / 2 ^ low % 4
  rw [BitVec.extractLsb'_toNat, Nat.shiftRight_eq_div_pow]

theorem extractLsb'_eq_ofNat (b : Byte) (low width : Nat) : b.extractLsb' low width = BitVec.ofNat width (b.toNat / 2 ^ low) := by
  refine BitVec.eq_of_toNat_eq ?_
  rw [BitVec.extractLsb'_toNat, Nat.shiftRight_eq_div_pow, BitVec.toNat_ofNat]

theorem serialChar_iff (c : Byte) :
    serialChar c = true ↔ (0x30 ≤ c.toNat ∧ c.toNat ≤ 0x39) ∨ (0x41 ≤ c.toNat ∧ c.toNat ≤ 0x5A) := by
  simp [serialChar]

/-- The record check of R10 on the bytes of a NOTE. -/
def NotePasses (b1 n : Byte) (chars : List Byte) : Prop :=
  chars.length = n.toNat ∧ (n.toNat = 0 ∨ (4 ≤ n.toNat ∧ n.toNat ≤ 12 ∧ chars.all serialChar = true)) ∧
    b1.getLsbD 5 = (NoteClass.ofCode (b1.extractLsb' 6 2)).coded

/-- The record of the bytes of a NOTE that pass. -/
def noteOfBytes (seq b1 b2 n : Byte) (chars : List Byte) : NoteRecord :=
  { seq := seq, cls := NoteClass.ofCode (b1.extractLsb' 6 2)
    code := if b1.getLsbD 5 then some (b2.extractLsb' 0 5, b2.extractLsb' 5 3) else none
    fitness := (b1.extractLsb' 3 2).toFin, orientation := (b1.extractLsb' 1 2).toFin
    serial := if n.toNat == 0 then none else some chars }

open Classical in
theorem parseNote_eq (seq b1 b2 n : Byte) (chars : List Byte) :
    parseNote (seq :: b1 :: b2 :: n :: chars) = if NotePasses b1 n chars then some (noteOfBytes seq b1 b2 n chars) else none := by
  rw [parseNote]
  refine if_congr ?_ rfl rfl
  simp only [NotePasses, Bool.and_eq_true, Bool.or_eq_true, decide_eq_true_eq, beq_iff_eq, and_assoc]

/-- The flag byte that a NOTE record is sent with. -/
theorem flags_of_note (cls : NoteClass) (coded : Bool) (fitness orientation : Fin 4) :
    let b : Byte := cls.code ++ BitVec.ofBool coded ++ BitVec.ofFin (w := 2) fitness ++ BitVec.ofFin (w := 2) orientation ++ (0#1)
    NoteClass.ofCode (b.extractLsb' 6 2) = cls ∧ b.getLsbD 5 = coded ∧ (b.extractLsb' 3 2).toFin = fitness ∧
      (b.extractLsb' 1 2).toFin = orientation := by
  cases cls <;> decide +revert

/-- The serial of a NOTE record that passes its check: 4 to 12 characters, or none. -/
theorem serial_of_wf {r : NoteRecord} (wellFormed : r.wf = true) :
    r.serial = none ∨ ∃ chars, r.serial = some chars ∧ 4 ≤ chars.length ∧ chars.length ≤ 12 ∧ chars.all serialChar = true := by
  obtain ⟨-, fits⟩ := Bool.and_eq_true_iff.mp wellFormed
  cases isSerial : r.serial with
  | none => exact .inl rfl
  | some chars =>
    rw [isSerial] at fits
    obtain ⟨⟨long, short⟩, printable⟩ : (4 ≤ chars.length ∧ chars.length ≤ 12) ∧ chars.all serialChar = true := by
      simpa only [Bool.and_eq_true, decide_eq_true_eq] using fits
    exact .inr ⟨chars, rfl, long, short, printable⟩

/-- Byte 2 of a NOTE: the series above the denomination. -/
def codeByte : Option (Denom × Series) → Byte
  | some (d, s) => s ++ d
  | none => 0

theorem codeByte_read (code : Option (Denom × Series)) :
    (if code.isSome = true then some ((codeByte code).extractLsb' 0 5, (codeByte code).extractLsb' 5 3) else none) = code := by
  cases code with
  | none => rfl
  | some pair => exact congrArg some (Prod.ext BitVec.extractLsb'_append_eq_right BitVec.extractLsb'_append_eq_left)

theorem encodeNote_eq (r : NoteRecord) :
    encodeNote r = r.seq :: (r.cls.code ++ BitVec.ofBool r.code.isSome ++ BitVec.ofFin (w := 2) r.fitness
      ++ BitVec.ofFin (w := 2) r.orientation ++ (0#1) : BitVec 8) :: codeByte r.code :: BitVec.ofNat 8 (r.serial.getD []).length ::
      r.serial.getD [] := by
  obtain ⟨_, _, _ | _, _, _, _⟩ := r <;> rfl

theorem parseNote_encodeNote {r : NoteRecord} (wellFormed : r.wf = true) : parseNote (encodeNote r) = some r := by
  obtain ⟨isCls, isCoded, isFitness, isOrientation⟩ := flags_of_note r.cls r.code.isSome r.fitness r.orientation
  have coded : r.code.isSome = r.cls.coded := beq_iff_eq.mp (Bool.and_eq_true_iff.mp wellFormed).1
  have sized : (BitVec.ofNat 8 (r.serial.getD []).length).toNat = (r.serial.getD []).length := by
    obtain none | ⟨chars, isChars, long, short, printable⟩ := serial_of_wf wellFormed
    · rw [none]
      rfl
    · rw [isChars]
      exact toNat_ofNat_length (Nat.lt_of_le_of_lt short (by decide))
  have passes : NotePasses (r.cls.code ++ BitVec.ofBool r.code.isSome ++ BitVec.ofFin (w := 2) r.fitness
      ++ BitVec.ofFin (w := 2) r.orientation ++ (0#1) : BitVec 8) (BitVec.ofNat 8 (r.serial.getD []).length) (r.serial.getD []) := by
    refine ⟨sized.symm, ?_, by rw [isCoded, isCls, coded]⟩
    rw [sized]
    obtain none | ⟨chars, isChars, long, short, printable⟩ := serial_of_wf wellFormed
    · exact .inl (by rw [none]; rfl)
    · exact .inr (by rw [isChars]; exact ⟨long, short, printable⟩)
  have serialBack : (if (r.serial.getD []).length == 0 then none else some (r.serial.getD [])) = r.serial := by
    obtain none | ⟨chars, isChars, long, -⟩ := serial_of_wf wellFormed
    · rw [none]
      rfl
    · rw [isChars, Option.getD_some, if_neg (by simp; rintro rfl; simp at long)]
  rw [encodeNote_eq, parseNote_eq, if_pos passes, noteOfBytes, isCls, isCoded, isFitness, isOrientation, codeByte_read, sized, serialBack]

theorem parseNote_of_short {p : List Byte} (short : p.length < 4) : parseNote p = none := by
  match p with
  | [] | [_] | [_, _] | [_, _, _] => rfl
  | _ :: _ :: _ :: _ :: _ => simp at short; omega

/-! ### SEPARATOR records (R10, section 11.3) -/

theorem flags_of_separator (kind : Fin 4) (endFlag parent : Bool) :
    let b : Byte := BitVec.ofFin (w := 2) kind ++ BitVec.ofBool endFlag ++ BitVec.ofBool parent ++ (0#4)
    (b.extractLsb' 6 2).toFin = kind ∧ b.getLsbD 5 = endFlag ∧ b.getLsbD 4 = parent := by
  decide +revert

/-- The record of the bytes of a SEPARATOR, with its parent. -/
def separatorOfBytes (seq i3 i2 i1 i0 b5 : Byte) (parent : Option Word) : SeparatorRecord :=
  { seq := seq, depositId := be32 i3 i2 i1 i0, parent := parent, kind := (b5.extractLsb' 6 2).toFin, endFlag := b5.getLsbD 5 }

theorem parseSeparator_of_no_parent (seq i3 i2 i1 i0 b5 : Byte) :
    parseSeparator [seq, i3, i2, i1, i0, b5] = if b5.getLsbD 4 then none else some (separatorOfBytes seq i3 i2 i1 i0 b5 none) := rfl

theorem parseSeparator_of_parent (seq i3 i2 i1 i0 b5 p3 p2 p1 p0 : Byte) :
    parseSeparator [seq, i3, i2, i1, i0, b5, p3, p2, p1, p0] =
      if b5.getLsbD 4 then some (separatorOfBytes seq i3 i2 i1 i0 b5 (some (be32 p3 p2 p1 p0))) else none := rfl

theorem parseSeparator_encodeSeparator (r : SeparatorRecord) : parseSeparator (encodeSeparator r) = some r := by
  obtain ⟨seq, id, parent, kind, endFlag⟩ := r
  cases parent with
  | none =>
    obtain ⟨isKind, isEnd, isParent⟩ := flags_of_separator kind endFlag false
    refine (parseSeparator_of_no_parent _ _ _ _ _ _).trans ?_
    refine (if_neg (by rw [Option.isSome_none, isParent]; exact Bool.false_ne_true)).trans ?_
    rw [separatorOfBytes, be32_bytes32, Option.isSome_none, isKind, isEnd]
  | some p =>
    obtain ⟨isKind, isEnd, isParent⟩ := flags_of_separator kind endFlag true
    refine (parseSeparator_of_parent _ _ _ _ _ _ _ _ _ _).trans ?_
    refine (if_pos (by rw [Option.isSome_some, isParent])).trans ?_
    rw [separatorOfBytes, be32_bytes32, be32_bytes32, Option.isSome_some, isKind, isEnd]

theorem be32_eq_ofNat (a b c d : Byte) :
    be32 a b c d = BitVec.ofNat 32 (((a.toNat * 256 + b.toNat) * 256 + c.toNat) * 256 + d.toNat) := by
  rw [← be32_toNat, BitVec.ofNat_toNat, BitVec.setWidth_eq]

theorem parseSeparator_of_short {p : List Byte} (short : p.length < 6) : parseSeparator p = none := by
  match p with
  | [] | [_] | [_, _] | [_, _, _] | [_, _, _, _] | [_, _, _, _, _] => rfl
  | _ :: _ :: _ :: _ :: _ :: _ :: _ => simp at short; omega

/-- A SEPARATOR's bytes after the sixth are none or four, as its parent-present bit says. -/
theorem parseSeparator_of_parent_length (seq i3 i2 i1 i0 b5 : Byte) {parent : List Byte} (some : parent ≠ []) (notFour : parent.length ≠ 4) :
    parseSeparator (seq :: i3 :: i2 :: i1 :: i0 :: b5 :: parent) = none := by
  match parent with
  | [] => exact absurd rfl some
  | [_] | [_, _] | [_, _, _] | _ :: _ :: _ :: _ :: _ :: _ => rfl
  | [_, _, _, _] => exact absurd rfl notFour

/-- Settles O14: each record's bytes read back, and each payload's bytes as its record's fields. -/
theorem recordsRoundTrip : Obligations.RecordsRoundTrip := by
  unfold Obligations.RecordsRoundTrip
  refine ⟨fun c p => parseControl_of_encodeControl, fun c p => encodeControl_of_parseControl, fun p => parseControl_of_short,
    fun r => parseNote_encodeNote, parseSeparator_encodeSeparator, ?_, fun p => parseNote_of_short, ?_, fun p => parseSeparator_of_short⟩
  · intro seq b1 b2 n chars cls character passes
    have isCls : NoteClass.ofCode (b1.extractLsb' 6 2) = cls := ofCode_flags b1
    have zero : n.toNat = 0 ↔ n = 0 := ⟨fun none => BitVec.eq_of_toNat_eq none, fun none => none ▸ rfl⟩
    have coded : b1.getLsbD 5 = cls.coded ↔ (b1.getLsbD 5 = true ↔ cls = .genuine ∨ cls = .suspect) := by
      rw [Bool.eq_iff_iff, coded_iff]
    have same : NotePasses b1 n chars ↔ passes := by
      simp only [NotePasses, isCls, passes, character, zero, List.all_eq_true, serialChar_iff, coded]
    refine ⟨fun passed => ?_, fun failed => ?_⟩
    · rw [parseNote_eq, if_pos (same.mpr passed), noteOfBytes, isCls, toFin_extract, toFin_extract, extractLsb'_eq_ofNat,
        extractLsb'_eq_ofNat]
      simp only [beq_iff_eq, zero, Nat.pow_zero, Nat.div_one]
      have denomination : BitVec.ofNat 5 b2.toNat = BitVec.ofNat 5 (b2.toNat % 32) := BitVec.eq_of_toNat_eq (by simp)
      rw [denomination]
      rfl
    · rw [parseNote_eq, if_neg (mt same.mp failed)]
  · intro seq i3 i2 i1 i0 b5 parent four read run
    have kind : (b5.extractLsb' 6 2).toFin = Fin.ofNat 4 (b5.toNat / 64) := toFin_extract b5 6
    have same (parent : Option Word) : separatorOfBytes seq i3 i2 i1 i0 b5 parent = read parent := by
      rw [separatorOfBytes, kind, be32_eq_ofNat]
    refine ⟨fun noParent => ?_, fun hasParent => ⟨?_, fun notFour => ?_⟩⟩
    · by_cases none : parent = []
      · subst none
        refine (parseSeparator_of_no_parent _ _ _ _ _ _).trans ?_
        rw [noParent, if_neg Bool.false_ne_true, if_pos rfl, same]
      · rw [if_neg none]
        by_cases four : parent.length = 4
        · obtain ⟨a, b, c, d, rfl⟩ := List.length_eq_four.mp four
          refine (parseSeparator_of_parent _ _ _ _ _ _ _ _ _ _).trans ?_
          rw [noParent, if_neg Bool.false_ne_true]
        · exact parseSeparator_of_parent_length _ _ _ _ _ _ none four
    · rintro a b c d rfl
      refine (parseSeparator_of_parent _ _ _ _ _ _ _ _ _ _).trans ?_
      rw [hasParent, if_pos rfl, same, be32_eq_ofNat]
    · by_cases none : parent = []
      · subst none
        refine (parseSeparator_of_no_parent _ _ _ _ _ _).trans ?_
        rw [hasParent, if_pos rfl]
      · exact parseSeparator_of_parent_length _ _ _ _ _ _ none notFour

end Sys2Proof.Machine
end

section
/-! SUPPORT. The receiver: one byte in each state, and a frame's bytes one after another (R4 to R11). -/

set_option Elab.async false

namespace Sys2Proof.Machine

/-- A record delivered has the meaning of the command it spells. -/
theorem deliver_of_encodeControl {i : Instr} {p : List Byte} (encoded : encodeControl i = some p) (s : State) : deliver i s = exec i s := by
  cases i
  case feedByte | noteRecord | separatorRecord | encEdge | admissionDeadline | divertWindowOpen | divertWindowClose | arrivalWindowEnd |
      stallTimerExpiry | leadingEdge | trailingEdge | arrivalPulse | pocketCleared | operatorStop | hardReset | idleByteSent | frameStart |
      frameSent =>
    cases encoded
  all_goals rfl

theorem deliver_of_parsePayload {kind : FeedKind} {payload : List Byte} {i : Instr} (parsed : parsePayload kind payload = some i) (s : State) :
    deliver i s = exec i s := by
  cases kind with
  | note =>
    obtain ⟨r, -, rfl⟩ := Option.map_eq_some_iff.mp parsed
    rfl
  | separator =>
    obtain ⟨r, -, rfl⟩ := Option.map_eq_some_iff.mp parsed
    rfl
  | control => exact deliver_of_encodeControl (encodeControl_of_parseControl parsed) s

theorem framePassed_eq (kind : FeedKind) (payload : List Byte) (s : State) :
    framePassed kind payload s = match parsePayload kind payload with
      | some i => exec i (s.setFeed .wait)
      | none => .next (bump .feedErrors (s.setFeed .wait)) := by
  rw [framePassed]
  cases parsed : parsePayload kind payload with
  | none => rfl
  | some i => exact deliver_of_parsePayload parsed _

theorem kindOf_eq (b : Byte) :
    kindOf b = if b = 0x01 then some .note else if b = 0x02 then some .separator else if b = 0x03 then some .control else none := by
  decide +revert

/-! ### One byte in each receiver state (R5 to R8) -/

theorem exec_feedByte_of_wait {s : State} (wait : s.feed = .wait) (b : Byte) (faulted : Bool) :
    exec (.feedByte b faulted) s = .next (
      if faulted = true then feedError s
      else if b = 0 then s
      else if b = Config.startByte then s.setFeed (.receiving Frame.empty)
      else feedError s) := by
  show execFeedByte b faulted s = _
  simp only [execFeedByte, wait]
  cases faulted with
  | true => rfl
  | false => 
    simp only [Bool.false_eq_true, if_false]
    split_ifs <;> rfl

theorem exec_feedByte_of_fault {f : Frame} {s : State} (receiving : s.feed = .receiving f) (b : Byte) :
    exec (.feedByte b true) s = .next (feedError s) := by
  show execFeedByte b true s = _
  simp only [execFeedByte, receiving, if_true]

theorem exec_feedByte_of_receiving {f : Frame} {s : State} (receiving : s.feed = .receiving f) (b : Byte) :
    exec (.feedByte b false) s = match f.take b with
      | .more f => .next (s.setFeed (.receiving f))
      | .passed kind payload => framePassed kind payload s
      | .failed => .next (feedError s) := by
  show execFeedByte b false s = _
  simp only [execFeedByte, receiving, Bool.false_eq_true, if_false] <;> rfl

theorem exec_feedByte_of_hunt {n : Nat} {s : State} (hunt : s.feed = .hunt n) (b : Byte) (faulted : Bool) :
    exec (.feedByte b faulted) s = .next (
      if faulted = false ∧ b = 0 then (if 3 ≤ n then s.setFeed .wait else s.setFeed (.hunt (n + 1))) else s.setFeed (.hunt 0)) := by
  show execFeedByte b faulted s = _
  have run : Config.idleRun ≤ n + 1 ↔ 3 ≤ n := by simp [Config.idleRun]
  simp only [execFeedByte, hunt, run]
  by_cases idle : faulted = false ∧ b = 0
  · obtain ⟨rfl, rfl⟩ := idle
    rw [if_neg (by decide : ¬ (false || (0 : Byte) != 0) = true), if_pos (⟨rfl, rfl⟩ : false = false ∧ (0 : Byte) = 0)]
    split_ifs <;> rfl
  · have other : (faulted || b != 0) = true := by
      rw [Bool.or_eq_true, bne_iff_ne, ← Bool.not_eq_false]
      tauto
    rw [if_pos other, if_neg idle]

theorem Frame.take_of_kind {f : Frame} (noKind : f.kind = none) (b : Byte) :
    f.take b = match kindOf b with
      | some k => .more { f with kind := some k, crc := crcByte f.crc b }
      | none => .failed := by
  simp only [Frame.take, noKind] <;> rfl

theorem Frame.take_of_length {f : Frame} {k : FeedKind} (isKind : f.kind = some k) (noLength : f.length = none) (b : Byte) :
    f.take b = if lengthAccepted k b.toNat then .more { f with length := some b, crc := crcByte f.crc b } else .failed := by
  simp only [Frame.take, isKind, noLength]

theorem Frame.take_of_payload {f : Frame} {k : FeedKind} {n : Byte} (isKind : f.kind = some k) (isLength : f.length = some n)
    (short : f.payload.length < n.toNat) (b : Byte) :
    f.take b = .more { f with payload := f.payload ++ [b], crc := crcByte f.crc b } := by
  simp only [Frame.take, isKind, isLength, if_pos short]

theorem Frame.take_of_first_check {f : Frame} {k : FeedKind} {n : Byte} (isKind : f.kind = some k) (isLength : f.length = some n)
    (full : n.toNat ≤ f.payload.length) (noCheck : f.check = none) (b : Byte) :
    f.take b = .more { f with check := some b } := by
  simp only [Frame.take, isKind, isLength, if_neg (Nat.not_lt.mpr full), noCheck]

theorem Frame.take_of_last_check {f : Frame} {k : FeedKind} {n c : Byte} (isKind : f.kind = some k) (isLength : f.length = some n)
    (full : n.toNat ≤ f.payload.length) (isCheck : f.check = some c) (b : Byte) :
    f.take b = if be16 c b = f.crc then .passed k f.payload else .failed := by
  simp only [Frame.take, isKind, isLength, if_neg (Nat.not_lt.mpr full), isCheck]

theorem exec_feedByte_of_good_check {f : Frame} {k : FeedKind} {n c b : Byte} {s : State} (receiving : s.feed = .receiving f)
    (isKind : f.kind = some k) (isLength : f.length = some n) (full : n.toNat ≤ f.payload.length) (isCheck : f.check = some c)
    (same : be16 c b = f.crc) : exec (.feedByte b false) s = framePassed k f.payload s := by
  rw [exec_feedByte_of_receiving receiving, Frame.take_of_last_check isKind isLength full isCheck, if_pos same]

theorem exec_feedByte_of_bad_check {f : Frame} {k : FeedKind} {n c b : Byte} {s : State} (receiving : s.feed = .receiving f)
    (isKind : f.kind = some k) (isLength : f.length = some n) (full : n.toNat ≤ f.payload.length) (isCheck : f.check = some c)
    (differs : ¬ be16 c b = f.crc) : exec (.feedByte b false) s = .next (feedError s) := by
  rw [exec_feedByte_of_receiving receiving, Frame.take_of_last_check isKind isLength full isCheck, if_neg differs]

/-- Settles O12: each receiver state's step, the roles of a byte in RECEIVING one by one. -/
theorem receiverTakesBytes : Obligations.ReceiverTakesBytes := by
  unfold Obligations.ReceiverTakesBytes
  intro b faulted s error low high record
  refine ⟨fun wait => exec_feedByte_of_wait wait b faulted, ?_, ?_, ?_, ?_, ?_, ?_, fun n hunt => exec_feedByte_of_hunt hunt b faulted⟩
  · rintro f receiving rfl
    exact exec_feedByte_of_fault receiving b
  · rintro f receiving rfl noKind named
    rw [exec_feedByte_of_receiving receiving, Frame.take_of_kind noKind, kindOf_eq]
    split_ifs <;> rfl
  · rintro f k receiving rfl isKind noLength
    rw [exec_feedByte_of_receiving receiving, Frame.take_of_length isKind noLength]
    have accepted : lengthAccepted k b.toNat = true ↔ low k ≤ b.toNat ∧ b.toNat ≤ high k := by
      cases k <;> simp [lengthAccepted, low, high]
    simp only [accepted]
    split_ifs <;> rfl
  · rintro f k n receiving rfl isKind isLength short
    rw [exec_feedByte_of_receiving receiving, Frame.take_of_payload isKind isLength short]
    rfl
  · rintro f k n receiving rfl isKind isLength full noCheck
    rw [exec_feedByte_of_receiving receiving, Frame.take_of_first_check isKind isLength full noCheck]
    rfl
  · rintro f k n c receiving rfl isKind isLength full isCheck
    by_cases same : be16 c b = f.crc
    · rw [if_pos same, exec_feedByte_of_good_check receiving isKind isLength full isCheck same, framePassed_eq]
      cases k <;> rfl
    · rw [if_neg same]
      exact exec_feedByte_of_bad_check receiving isKind isLength full isCheck same

/-! ### A whole frame -/

theorem feedBytes_cons (b : Byte) (rest : List Byte) {s t : State} (taken : exec (.feedByte b false) s = .next t) :
    feedBytes (b :: rest) s = feedBytes rest t := by
  rw [feedBytes, taken]

theorem feedBytes_last (b : Byte) (s : State) : feedBytes [b] s = exec (.feedByte b false) s := by
  rw [feedBytes]
  cases exec (.feedByte b false) s <;> rfl

/-- The frame in assembly after its kind, its length and some bytes of its payload. -/
def partFrame (kind : FeedKind) (n : Byte) (taken : List Byte) : Frame :=
  { kind := some kind, length := some n, payload := taken, crc := crc (kind.code :: n :: taken), check := none }

theorem crc_append (bytes : List Byte) (b : Byte) : crc (bytes ++ [b]) = crcByte (crc bytes) b := by
  simp [crc]

theorem feedBytes_payload (kind : FeedKind) (n : Byte) (taken payload rest : List Byte) (fits : taken.length + payload.length ≤ n.toNat)
    {s : State} (receiving : s.feed = .receiving (partFrame kind n taken)) :
    feedBytes (payload ++ rest) s = feedBytes rest (s.setFeed (.receiving (partFrame kind n (taken ++ payload)))) := by
  induction payload generalizing taken s with
  | nil =>
    rw [List.append_nil, List.nil_append, ← receiving]
    rfl
  | cons b payload ih =>
    rw [List.length_cons] at fits
    have step : exec (.feedByte b false) s = .next (s.setFeed (.receiving (partFrame kind n (taken ++ [b])))) := by
      have short : (partFrame kind n taken).payload.length < n.toNat := by
        show taken.length < _
        omega
      rw [exec_feedByte_of_receiving receiving, Frame.take_of_payload rfl rfl short]
      show Host.Outcome.next (s.setFeed (.receiving { partFrame kind n taken with
        payload := taken ++ [b], crc := crcByte (crc (kind.code :: n :: taken)) b })) = _
      rw [← crc_append]
      rfl
    rw [List.cons_append, feedBytes_cons b _ step, ih (taken ++ [b]) (by simp; omega) rfl, List.append_assoc]
    rfl

/-- The bytes of a passing frame, taken in WAIT. -/
theorem feedBytes_frame (kind : FeedKind) (payload : List Byte) (accepted : lengthAccepted kind payload.length = true)
    (short : payload.length < 256) {s : State} (wait : s.feed = .wait) :
    let covered := kind.code :: BitVec.ofNat 8 payload.length :: payload
    feedBytes (0xC3 :: covered ++ bytes16 (crc covered)) s = framePassed kind payload s := by
  intro covered
  have sized : (BitVec.ofNat 8 payload.length : Byte).toNat = payload.length := toNat_ofNat_length short
  have start : exec (.feedByte 0xC3 false) s = .next (s.setFeed (.receiving Frame.empty)) := exec_feedByte_of_wait wait _ _
  have named : exec (.feedByte kind.code false) (s.setFeed (.receiving Frame.empty)) =
      .next (s.setFeed (.receiving { Frame.empty with kind := some kind, crc := crc [kind.code] })) := by
    cases kind <;> rfl
  have counted : exec (.feedByte (BitVec.ofNat 8 payload.length) false)
      (s.setFeed (.receiving { Frame.empty with kind := some kind, crc := crc [kind.code] })) =
      .next (s.setFeed (.receiving (partFrame kind (BitVec.ofNat 8 payload.length) []))) := by
    rw [exec_feedByte_of_receiving rfl, Frame.take_of_length rfl rfl, sized, if_pos accepted]
    rfl
  have full : (BitVec.ofNat 8 payload.length : Byte).toNat ≤ (partFrame kind (BitVec.ofNat 8 payload.length) payload).payload.length := by
    rw [sized]
    exact Nat.le_refl _
  have first (t : State) (receiving : t.feed = .receiving (partFrame kind (BitVec.ofNat 8 payload.length) payload)) (b : Byte) :
      exec (.feedByte b false) t = .next (t.setFeed (.receiving
        { partFrame kind (BitVec.ofNat 8 payload.length) payload with check := some b })) := by
    rw [exec_feedByte_of_receiving receiving, Frame.take_of_first_check rfl rfl full rfl]
  have last (t : State) (c : Byte) (receiving : t.feed = .receiving
      { partFrame kind (BitVec.ofNat 8 payload.length) payload with check := some c }) (b : Byte) (same : be16 c b = crc covered) :
      exec (.feedByte b false) t = framePassed kind payload t :=
    exec_feedByte_of_good_check receiving rfl rfl full rfl same
  show feedBytes (_ :: _ :: _ :: (payload ++ [_, _])) s = _
  rw [feedBytes_cons _ _ start, feedBytes_cons _ _ named, feedBytes_cons _ _ counted,
    feedBytes_payload kind _ [] payload _ (by rw [sized]; simp) rfl, List.nil_append, feedBytes_cons _ _ (first _ rfl _), feedBytes_last,
    last _ _ rfl _ (be16_bytes16 _)]
  rfl

/-- Settles O13: a frame's bytes one after another, then its record by its own meaning. -/
theorem frameDeliversItsRecord : Obligations.FrameDeliversItsRecord := by
  unfold Obligations.FrameDeliversItsRecord
  intro payload s wait delivered
  have still : s.setFeed .wait = s := by
    rw [← wait]
    rfl
  have passes (kind : FeedKind) (accepted : lengthAccepted kind payload.length = true) (short : payload.length < 256) :
      delivered kind.code (parsePayload kind payload) := by
    refine (feedBytes_frame kind payload accepted short wait).trans ?_
    rw [framePassed_eq, still] <;> rfl
  refine ⟨fun long short => passes .note ?_ (by omega), fun long short => passes .separator ?_ (by omega),
    fun long short => passes .control ?_ (by omega)⟩
  all_goals simp [lengthAccepted, long, short]

end Sys2Proof.Machine
end

section
/-! SUPPORT. Bytes, checks and records written out (R1, R3, R66, section 11.3). -/

set_option Elab.async false

namespace Sys2Proof.Machine

/-- The data bits of a byte's ten levels are the byte. -/
theorem feedCommand_levels (b : Byte) (stop : Bool) :
    feedCommand [false, b.getLsbD 0, b.getLsbD 1, b.getLsbD 2, b.getLsbD 3, b.getLsbD 4, b.getLsbD 5, b.getLsbD 6, b.getLsbD 7, stop] =
      .feedByte b (!stop) := by
  have bits : BitVec.ofNat 8 ([b.getLsbD 0, b.getLsbD 1, b.getLsbD 2, b.getLsbD 3, b.getLsbD 4, b.getLsbD 5, b.getLsbD 6,
      b.getLsbD 7].foldr (fun bit n => 2 * n + bit.toNat) 0) = b := by
    decide +revert
  exact congrArg (Instr.feedByte · (!stop)) bits

theorem crcBit_eq (reg : Half) (bit : Bool) : crcBit reg bit = if reg.getLsbD 15 = bit then reg <<< 1 else (reg <<< 1) ^^^ 0x1021 := by
  simp only [crcBit, bne_iff_ne, ne_eq, ite_not]

theorem crcByte_eq (reg : Half) (b : Byte) : crcByte reg b = [7, 6, 5, 4, 3, 2, 1, 0].foldl (fun (x : Half) (k : Nat) =>
    if x.getLsbD 15 = b.getLsbD k then x <<< 1 else (x <<< 1) ^^^ 0x1021) reg := by
  simp only [crcByte, crcBit_eq]

theorem cellOf_eq (bytes : List Byte) : cellOf bytes = (crc bytes).toNat % 4096 := by
  rw [cellOf, BitVec.extractLsb'_toNat, Nat.shiftRight_zero]

/-- A SET_PARAM payload by its identifier. -/
theorem parseControl_setParam {id : Byte} {i : Instr} (v3 v2 v1 v0 : Byte) (named : parseParam 0x07 id (be32 v3 v2 v1 v0) = some i) :
    parseControl [0x07, 0x01, id, v3, v2, v1, v0] = some i :=
  parseControl_of_parseRequest (code := 0x01) named

/-- Settles O15: each record of the list read by evaluation. -/
theorem bytesWrittenOut : Obligations.BytesWrittenOut := by
  unfold Obligations.BytesWrittenOut
  refine ⟨feedCommand_levels, crcByte_eq, fun bytes => ⟨rfl, cellOf_eq bytes⟩, ?_⟩
  refine ⟨by decide +kernel, by decide +kernel, by decide +kernel, by decide +kernel, by decide +kernel, by decide +kernel, by decide +kernel,
    ?_, ?_⟩
  · intro value v sets
    have word : be32 0x01 0x02 0x03 0x04 = v := by decide
    have named {id : Byte} {i : Instr} (isNamed : parseParam 0x07 id v = some i) : sets id i :=
      parseControl_setParam _ _ _ _ (word ▸ isNamed)
    refine ⟨named rfl, named rfl, named rfl, named rfl, named rfl, named rfl, named rfl, named rfl, named rfl, named rfl, named rfl, ?_⟩
    intro g
    obtain ⟨strap, denomination, deposit, brick, low, overflow⟩ := parseParam_grouped 0x07 g v
    exact ⟨named strap, named denomination, named deposit, named brick, named low, named overflow⟩
  · decide +kernel

end Sys2Proof.Machine
end

section
/-! SUPPORT. The read point: what admissions leave of the edge unit, the deadlines due, and the two kinds of edge (R20, R24, R25, R29). -/

set_option Elab.async false

namespace Sys2Proof.Machine

/-! ### The edge unit through a jam and an admission -/

/-- The edge unit after a jam: the held edges are gone, all else of it stands (R36). -/
theorem enterJam_edge (cause : JamCause) (s : State) : (enterJam cause s).edge = { s.edge with fifo := [] } := by
  let lost := loseInDeposits (inFlightItems s) (traceLosses (inFlightItems s) (withdrawAll (inFlightItems s) (loseQueue (jamLine cause s))))
  have others : Work [.pocket, .group, .track, .deposit, .jam] s lost :=
    ((((jamLine_work cause s).trans (loseQueue_work _) : Work [.track, .jam] s _).trans (withdrawAll_work _ _) :
      Work [.pocket, .group, .track, .jam] s _).trans
      (traceLosses_work (touched := []) _ _) : Work [.pocket, .group, .track, .jam] s _).trans (loseInDeposits_work _ _)
  have reports : Work [] (loseEdges lost) (enterJam cause s) :=
    ((bump_work (touched := []) _ _).trans (emit_work (touched := []) _ _) : Work [] _ _).trans (emit_work (touched := []) _ _)
  have stands : lost.edge = s.edge := others.stands .edge
  have reported : (enterJam cause s).edge = (loseEdges lost).edge := reports.stands .edge
  rw [reported, ← stands]
  rfl

theorem handJam_position (cause : JamCause) (s : State) : (handJam cause s).edge.position = s.edge.position := by
  unfold handJam
  split
  · rfl
  · rw [enterJam_edge]

theorem enterTrack_position (i : Item) (disp : Disposition) (slot : Option SlotNo) (s : State) :
    (enterTrack i disp slot s).edge.position = s.edge.position := by
  simp only [enterTrack]
  split
  · rfl
  · exact handJam_position _ _

theorem admitUnread_position (s : State) : (admitUnread s).edge.position = s.edge.position := by
  unfold admitUnread
  split
  · rfl
  · have attributed {slot : Option SlotNo} {item : Word} {hit : Bool} : (attributeItem slot item hit (popEdge s)).edge = (popEdge s).edge :=
      (attributeItem_work slot item hit (popEdge s)).stands .edge
    rw [finishAdmission, enterTrack_position, attributed]
    rfl

theorem admitUnreads_position (n : Nat) (s : State) : (admitUnreads n s).edge.position = s.edge.position := by
  induction n generalizing s with
  | zero => rfl
  | succ n ih => exact (ih _).trans (admitUnread_position s)

theorem takeArrivalEnds_position (s : State) : (takeArrivalEnds s).edge.position = s.edge.position := by
  have missing (ended : List Entry) : Work [.track, .pocket, .group, .deposit] s (ended.foldl (fun s e => declareMissing e s) s) :=
    .foldl (fun s e => declareMissing_work e s) ended s
  unfold takeArrivalEnds
  split
  case h_2 => rw [show _ = s.edge from (missing _).stands .edge]
  case h_3 | h_4 | h_5 => exact handJam_position _ s
  all_goals rfl

/-! ### What is due (R29, R131, R137) -/

theorem dueEdges_eq_zero {now : Pos} {fifo : List HeldEdge} (none : ∀ e ∈ fifo, e.deadline ≠ now) : dueEdges now fifo = 0 := by
  have all : fifo.reverse.takeWhile (fun e => e.deadline != now) = fifo.reverse :=
    List.takeWhile_eq_self_iff.mpr fun e isIn => bne_iff_ne.mpr (none e (List.mem_reverse.mp isIn))
  rw [dueEdges, all, List.length_reverse, Nat.sub_self]

/-- Every edge up to the youngest whose deadline it is. -/
theorem dueEdges_append {now : Pos} {older younger : List HeldEdge} {e : HeldEdge} (due : e.deadline = now)
    (none : ∀ y ∈ younger, y.deadline ≠ now) : dueEdges now (older ++ e :: younger) = older.length + 1 := by
  have all : ∀ y ∈ younger.reverse, (y.deadline != now) = true := fun y isIn => bne_iff_ne.mpr (none y (List.mem_reverse.mp isIn))
  have stops : (e :: older.reverse).takeWhile (fun e => e.deadline != now) = [] := by simp [due]
  have passed : (older ++ e :: younger).reverse.takeWhile (fun e => e.deadline != now) = younger.reverse := by
    rw [List.reverse_append, List.reverse_cons, List.append_assoc, List.singleton_append, List.takeWhile_append_of_pos all, stops,
      List.append_nil]
  rw [dueEdges, passed]
  simp
  omega

/-- A divert window whose positions reached now are taken already. -/
theorem DivertWindow.reach_of_taken {w : DivertWindow} {x : Pos} (opened : w.opens = x → w.opened = true)
    (closed : w.closes = x → w.closed = true) : w.reach x = w := by
  have flag {taken : Bool} {at_ : Pos} (once : at_ = x → taken = true) : (taken || at_ == x) = taken := by
    by_cases reached : at_ = x
    · rw [once reached, Bool.true_or]
    · rw [beq_false_of_ne reached, Bool.or_false]
  rw [DivertWindow.reach, flag opened, flag closed]

theorem takeGateExpiries_of_nothing {s : State} (nothing : NothingDue s) : takeGateExpiries s = s := by
  obtain ⟨-, entries, gates⟩ := nothing
  have queue : s.track.queue.map (fun e => { e with divert := e.divert.map (·.reach s.edge.position) }) = s.track.queue := by
    refine (List.map_congr_left fun e isIn => ?_).trans (List.map_id _)
    obtain ⟨-, taken⟩ := entries e isIn
    have window : e.divert.map (·.reach s.edge.position) = e.divert := by
      cases isWindow : e.divert with
      | none => rfl
      | some w =>
        obtain ⟨opened, closed⟩ := taken w isWindow
        exact congrArg some (DivertWindow.reach_of_taken opened closed)
    rw [window]
    rfl
  rw [takeGateExpiries, queue, setQueue, ← gates]
  rfl

theorem takeArrivalEnds_of_nothing {s : State} (nothing : NothingDue s) : takeArrivalEnds s = s := by
  have ended : endedEntries s = [] :=
    List.filter_eq_nil_iff.mpr fun e isIn => by simpa using (nothing.2.1 e isIn).1
  rw [takeArrivalEnds, ended]
  cases s.line.state <;> rfl

theorem takeDeadlines_of_nothing {s : State} (nothing : NothingDue s) : takeDeadlines s = s := by
  rw [takeDeadlines, dueEdges_eq_zero nothing.1]
  rfl

/-- Settles O16: an edge on ENC takes what is outstanding, then advances the counter. -/
theorem encoderEdgeAdvances : Obligations.EncoderEdgeAdvances := by
  unfold Obligations.EncoderEdgeAdvances
  have advanced (s : State) : advance s = { s with
      edge := { s.edge with position := s.edge.position + 1, gap := s.edge.gap.map fun n => min (n + 1) 65535 }
      track := { s.track with stall := if s.track.stall.isSome then some s.track.stallTime else none } } := by
    have restarted : s.track.stall.map (fun _ => s.track.stallTime) = if s.track.stall.isSome then some s.track.stallTime else none := by
      cases s.track.stall <;> rfl
    rw [← restarted]
    rfl
  refine ⟨?_, fun s => ⟨_, rfl, ?_⟩, fun s nothing => ?_⟩
  · rintro s _ _ _ ⟨⟩ ⟨⟩ ⟨⟩
    exact congrArg Host.Outcome.next (advanced _)
  · show (takeExpiries s).edge.position + 1 = _
    rw [takeExpiries, takeArrivalEnds_position, takeDeadlines, admitUnreads_position]
    rfl
  · show Host.Outcome.next (advance (takeExpiries s)) = _
    rw [takeExpiries, takeGateExpiries_of_nothing nothing, takeDeadlines_of_nothing nothing, takeArrivalEnds_of_nothing nothing, advanced]

/-! ### Leading edges (R24, R25) -/

/-- A leading edge on a loaded geometry. -/
theorem exec_leadingEdge_of_loaded {s : State} (loaded : s.track.loaded = true) : exec .leadingEdge s = .next (
    let s1 := if s.line.state = .jammed then s else makeRoom s
    if s1.line.state = .jammed then discardEdge s1 else captureEdge s1) := by
  show Host.Outcome.next _ = _
  rw [loaded]
  rfl

/-- Settles O17: each case of a leading edge by the line state and the room in the FIFO. -/
theorem leadingEdgeCaptures : Obligations.LeadingEdgeCaptures := by
  unfold Obligations.LeadingEdgeCaptures
  intro s numbered edge
  have deadline (geo : Geometry) (x : Pos) : ahead x geo.admitLimit.toNat = x + geo.admitLimit.zeroExtend 24 := by
    rw [ahead, BitVec.ofNat_toNat]
  have captured (s : State) : captureEdge s = numbered s (s.edge.fifo ++ [edge s]) := by
    rw [captureEdge, deadline]
    rfl
  have discarded (s : State) : discardEdge s = bump .discarded (numbered s s.edge.fifo) := rfl
  refine ⟨fun unloaded => ?_, fun loaded jammed => ?_, fun loaded running room => ?_, fun loaded running full => ?_⟩
  · show Host.Outcome.next _ = _
    rw [unloaded]
    rfl
  · rw [exec_leadingEdge_of_loaded loaded]
    simp only [if_pos jammed, discarded]
  · have still : makeRoom s = s := if_neg (Nat.not_le.mpr room)
    rw [exec_leadingEdge_of_loaded loaded]
    simp only [if_neg running, still, captured]
  · have made : makeRoom s = admitUnread s := if_pos full
    intro u
    rw [exec_leadingEdge_of_loaded loaded]
    simp only [if_neg running, made, captured, discarded]
    rfl

end Sys2Proof.Machine
end

section
/-! SUPPORT. Admission without a record: the entry an item makes, its attribution, and the end of an admission (R28, R29, R129, R130). -/

set_option Elab.async false

namespace Sys2Proof.Machine

/-! ### Entries (R128, R129) -/

theorem ofNat_toNat_half (x : Half) : BitVec.ofNat 24 x.toNat = x.zeroExtend 24 := by
  rw [BitVec.ofNat_toNat]

theorem ofNat_toNat_byte (x : Byte) : BitVec.ofNat 24 x.toNat = x.zeroExtend 24 := by
  rw [BitVec.ofNat_toNat]

theorem openPosition_eq (geo : Geometry) (lead : Pos) (g : Gate) :
    openPosition geo lead g = lead + (geo.d[g.val + 1]'(by omega)).zeroExtend 24 - geo.lead.zeroExtend 24 := by
  rw [openPosition, behind, ahead, distance, ofNat_toNat_half, ofNat_toNat_byte]

theorem arrivalWindow_eq (geo : Geometry) (lead : Pos) (length : Nat) (d : Dest) :
    let distanceTo : Half := match d with
      | .runOut => geo.d[0]
      | .gated g => geo.d[g.val + 1]'(by omega)
    arrivalWindow geo lead length d =
      { first := lead + distanceTo.zeroExtend 24 - geo.tol.zeroExtend 24
        last := lead + BitVec.ofNat 24 (distanceTo.toNat + length + geo.tol.toNat) } := by
  cases d <;> simp only [arrivalWindow, behind, ahead, distance, ofNat_toNat_half, ofNat_toNat_byte]

theorem length_eq (e : HeldEdge) : e.length = e.trail.map fun p => (p - e.lead).toNat := rfl

theorem windowLength_eq (e : HeldEdge) (s : State) :
    windowLength e.length s = match e.trail with
      | some p => (p - e.lead).toNat
      | none => s.route.lengthMax := by
  rw [windowLength, length_eq]
  cases e.trail <;> rfl

/-- An entry reads the Track Monitor's settings and queue, and LENGTH_MAX. -/
theorem makeEntry_congr {s t : State} (track : t.track = { s.track with stall := t.track.stall }) (lengthMax : t.route.lengthMax = s.route.lengthMax)
    (i : Item) (disp : Disposition) (slot : Option SlotNo) : makeEntry i disp slot t = makeEntry i disp slot s := by
  have geometry : t.track.geometry = s.track.geometry := by rw [track]
  have queue : t.track.queue = s.track.queue := by rw [track]
  have traceAll : t.track.traceAll = s.track.traceAll := by rw [track]
  have traceRejects : t.track.traceRejects = s.track.traceRejects := by rw [track]
  simp only [makeEntry, windowLength, shadowPocket, traceFlag, geometry, queue, traceAll, traceRejects, lengthMax]

/-- The shadow pocket of an item, with its window (R132). -/
theorem shadowPocket_eq (e : HeldEdge) (length : Nat) (s : State) :
    let caught (before : Entry) : Option Shadow := match before.dest, before.divert with
      | .gated p, some w =>
        let d := (w.closes - (e.lead + (s.track.geometry.d[p.val + 1]'(by omega)).zeroExtend 24)).toNat
        if 0 < d ∧ d < 2 ^ 23 then some { pocket := p, window := arrivalWindow s.track.geometry e.lead length (.gated p) } else none
      | _, _ => none
    (shadowPocket e.item e.lead s).map (fun p => ({ pocket := p, window := arrivalWindow s.track.geometry e.lead length (.gated p) } : Shadow)) =
      (s.track.queue.find? fun x => x.item == e.item - 1).bind caught := by
  intro caught
  rw [shadowPocket]
  cases s.track.queue.find? fun x => x.item == e.item - 1 with
  | none => rfl
  | some before =>
    show Option.map _ _ = caught before
    simp only [caught, fwd, ahead, distance, ofNat_toNat_half]
    cases before.dest with
    | runOut => rfl
    | gated p =>
      cases before.divert with
      | none => rfl
      | some w => 
        simp only
        split <;> rfl

theorem makeEntry_eq (e : HeldEdge) (kind : ItemKind) (cls : Option NoteClass) (denom : Option Denom) (serial : Option Serial)
    (disp : Disposition) (slot : Option SlotNo) (s : State) :
    makeEntry { edge := e, kind := kind, cls := cls, denom := denom, serial := serial } disp slot s =
      admittedEntry e kind cls denom serial disp slot s := by
  let made := makeEntry { edge := e, kind := kind, cls := cls, denom := denom, serial := serial } disp slot s
  let written := admittedEntry e kind cls denom serial disp slot s
  have shadow : made.shadow = written.shadow := by
    simp only [made, written, makeEntry, admittedEntry]
    by_cases pitch : disp.reason = .pitch
    · rw [if_pos pitch, if_pos pitch, shadowPocket_eq e (windowLength e.length s) s, windowLength_eq]
      simp only [arrivalWindow_eq] <;> rfl
    · rw [if_neg pitch, if_neg pitch, Option.map_none]
  have divert : made.divert = written.divert := by
    simp only [made, written, makeEntry, admittedEntry]
    cases disp.dest with
    | runOut => rfl
    | gated g =>
      simp only [divertWindow, openPosition_eq, windowLength_eq]
      rfl
  have arrival : made.arrival = written.arrival := by
    simp only [made, makeEntry]
    rw [arrivalWindow_eq, windowLength_eq]
    rfl
  calc made = { written with shadow := made.shadow, divert := made.divert, arrival := made.arrival } := rfl
    _ = written := by rw [shadow, divert, arrival]

/-- The entry of an item admitted without a record. -/
theorem makeEntry_unread (e : HeldEdge) (s : State) :
    makeEntry (unreadItem e) (.toRunOut .unread) ((openDeposit s).map (·.slot)) s = unreadEntry e s := by
  refine (makeEntry_eq e .unread none none none _ _ s).trans ?_
  have trace : (s.track.traceAll || (s.track.traceRejects && Dest.runOut == .runOut) || false) = (s.track.traceAll || s.track.traceRejects) := by
    rw [Bool.or_false, beq_self_eq_true, Bool.and_true]
  show ({ unreadEntry e s with trace := _ } : Entry) = _
  exact congrArg (fun trace => ({ unreadEntry e s with trace := trace } : Entry)) trace

/-! ### Attribution (R158) -/

theorem attributeItem_eq (slot : Option SlotNo) (item : Word) (hit : Bool) (s : State) :
    attributeItem slot item hit s = s.setDeposit (attributedTo slot item hit s.deposit) := by
  cases slot with
  | none =>
    have untouched : attributedTo none item hit s.deposit = s.deposit := by simp [attributedTo]
    rw [untouched]
    rfl
  | some k => simp only [attributeItem, modifySlot, modifyDeposit, attributedTo, Option.some.injEq, bumpCount] <;> rfl

theorem attributedTo_openDeposit (item : Word) (s : State) :
    attributedTo ((openDeposit s).map (·.slot)) item false s.deposit = match openDeposit s with
      | none => s.deposit
      | some o => { s.deposit with deposits := s.deposit.deposits.map fun d =>
          if d.slot = o.slot then
            { d with inFlight := d.inFlight + 1, itemCount := min (d.itemCount + 1) 65535
                     firstItem := some (d.firstItem.getD item), lastItem := some item }
          else d } := by
  cases openDeposit s with
  | none => simp [attributedTo]
  | some o => simp [attributedTo]

/-! ### The end of an admission (R28, R129, R130) -/

theorem finishAdmission_eq (i : Item) (disp : Disposition) (slot : Option SlotNo) (s : State) :
    finishAdmission i disp slot s =
      enterTrack i disp slot (s.setDeposit (attributedTo slot i.edge.item disp.hit.isSome s.deposit)) := by
  rw [finishAdmission, attributeItem_eq]

/-- With room in the Track Queue the item's entry joins the tail. -/
theorem finishAdmission_of_room (i : Item) (disp : Disposition) (slot : Option SlotNo) {s : State} (room : s.track.queue.length < 32) :
    finishAdmission i disp slot s = { s with
      track := { s.track with queue := s.track.queue ++ [makeEntry i disp slot s] }
      deposit := attributedTo slot i.edge.item disp.hit.isSome s.deposit } := by
  rw [finishAdmission_eq, enterTrack]
  exact if_pos room

/-- With 32 entries the item is kept in waiting, and the line jams. -/
theorem finishAdmission_of_full (i : Item) (disp : Disposition) (slot : Option SlotNo) {s : State} (full : 32 ≤ s.track.queue.length)
    (running : s.line.state ≠ .jammed) :
    finishAdmission i disp slot s = enterJam (.trackFull i.edge.item) { s with
      track := { s.track with waiting := some (makeEntry i disp slot s) }
      deposit := attributedTo slot i.edge.item disp.hit.isSome s.deposit } := by
  rw [finishAdmission_eq, enterTrack]
  refine (if_neg (Nat.not_lt.mpr full)).trans ?_
  exact if_neg running

theorem popEdge_eq {e : HeldEdge} {rest : List HeldEdge} {s : State} (fifo : s.edge.fifo = e :: rest) :
    popEdge s = { s with edge := { s.edge with fifo := rest } } := by
  rw [popEdge, fifo]
  rfl

theorem admitUnread_of_empty {s : State} (empty : s.edge.fifo = []) : admitUnread s = s := by
  rw [admitUnread, empty]

theorem admitUnread_eq {e : HeldEdge} {rest : List HeldEdge} {s : State} (fifo : s.edge.fifo = e :: rest) :
    admitUnread s = finishAdmission (unreadItem e) (.toRunOut .unread) ((openDeposit s).map (·.slot)) (popEdge s) := by
  rw [admitUnread, fifo]
  rfl

/-- Settles O19: an UNREAD admission with room and without, and the deadlines reached. -/
theorem deadlineAdmitsUnread : Obligations.DeadlineAdmitsUnread := by
  unfold Obligations.DeadlineAdmitsUnread
  refine ⟨fun e rest s fifo room => ?_, fun e rest s fifo full running => ?_, fun n s => ⟨admitUnread_of_empty, rfl, rfl⟩,
    fun s => ⟨fun none => ?_, fun older e younger fifo due none => ?_⟩⟩
  · rw [admitUnread_eq fifo, finishAdmission_of_room _ _ _ (s := popEdge s) room, popEdge_eq fifo, ← makeEntry_unread]
    exact congrArg (fun deposit => { s with
      edge := { s.edge with fifo := rest }
      track := { s.track with queue := s.track.queue ++ [makeEntry (unreadItem e) (.toRunOut .unread) (openSlot s) s] }
      deposit := deposit }) (attributedTo_openDeposit e.item s)
  · rw [admitUnread_eq fifo, finishAdmission_of_full _ _ _ (s := popEdge s) full running, popEdge_eq fifo, ← makeEntry_unread]
    rfl
  · show Host.Outcome.next (takeDeadlines s) = _
    rw [takeDeadlines, dueEdges_eq_zero none]
    rfl
  · show Host.Outcome.next (takeDeadlines s) = _
    rw [takeDeadlines, fifo, dueEdges_append due none]

/-! ### Records sought by their sequence (R30 to R33) -/

section

variable {seq : Byte} {admitEdge : HeldEdge → State → State} {applyLate : Entry → State → State} {s : State}

theorem takeRecord_of_head {e : HeldEdge} {rest : List HeldEdge} (fifo : s.edge.fifo = e :: rest) (isSeq : e.seq = seq) :
    takeRecord seq admitEdge applyLate s = admitEdge e s := by
  have found : s.edge.fifo.findIdx? (·.seq == seq) = some 0 := by
    rw [fifo, List.findIdx?_cons, isSeq, beq_self_eq_true, if_pos rfl]
  simp only [takeRecord, found, admitUnreads, if_true]
  rw [fifo]

theorem findIdx?_append {older : List HeldEdge} {e : HeldEdge} {rest : List HeldEdge} (others : ∀ o ∈ older, o.seq ≠ seq)
    (isSeq : e.seq = seq) : (older ++ e :: rest).findIdx? (·.seq == seq) = some older.length := by
  rw [List.findIdx?_append, List.findIdx?_eq_none_iff.mpr fun o isIn => beq_false_of_ne (others o isIn),
    List.findIdx?_cons, isSeq, beq_self_eq_true, if_pos rfl]
  simp

theorem takeRecord_of_slip {older : List HeldEdge} {e : HeldEdge} {rest : List HeldEdge} (fifo : s.edge.fifo = older ++ e :: rest)
    (some : older ≠ []) (others : ∀ o ∈ older, o.seq ≠ seq) (isSeq : e.seq = seq) :
    let u := admitUnreads older.length s
    (u.edge.fifo = e :: rest → takeRecord seq admitEdge applyLate s = bump .slips (admitEdge e u)) ∧
    (u.edge.fifo = [] → takeRecord seq admitEdge applyLate s = bump .strayRecords u) := by
  have found : s.edge.fifo.findIdx? (·.seq == seq) = Option.some older.length := by rw [fifo, findIdx?_append others isSeq]
  have slips : older.length ≠ 0 := by simpa using some
  refine ⟨fun left => ?_, fun left => ?_⟩
  · simp only [takeRecord, found, left, if_neg slips]
  · simp only [takeRecord, found, left, strayRecord]

theorem takeRecord_of_unheld (unheld : ∀ e ∈ s.edge.fifo, e.seq ≠ seq) :
    (∀ e, s.track.queue.find? (·.awaits seq) = some e → takeRecord seq admitEdge applyLate s = applyLate e s) ∧
    ((∀ e ∈ s.track.queue, ¬ (e.kind = .unread ∧ e.seq = seq ∧ e.lateMark = false)) →
      takeRecord seq admitEdge applyLate s = bump .strayRecords s) := by
  have missed : s.edge.fifo.findIdx? (·.seq == seq) = none := List.findIdx?_eq_none_iff.mpr fun e isIn => beq_false_of_ne (unheld e isIn)
  refine ⟨fun e found => ?_, fun none => ?_⟩
  · simp only [takeRecord, missed, found]
  · have noEntry : s.track.queue.find? (·.awaits seq) = Option.none :=
      List.find?_eq_none.mpr fun e isIn => by simpa [Entry.awaits, and_assoc] using none e isIn
    simp only [takeRecord, missed, noEntry, strayRecord]

end

/-- Settles O20: a record matched, slipped, late or stray by its sequence. -/
theorem recordsSought : Obligations.RecordsSought := by
  unfold Obligations.RecordsSought
  refine ⟨fun r s => ⟨fun e rest fifo isSeq => ?_, fun older e rest fifo some others isSeq => ?_, fun unheld => ?_⟩,
    fun r s => ⟨fun e rest fifo isSeq => ?_, fun older e rest fifo some others isSeq => ?_, fun unheld => ?_⟩⟩
  · exact congrArg Host.Outcome.next (takeRecord_of_head fifo isSeq)
  · obtain ⟨slip, stray⟩ := takeRecord_of_slip fifo some others isSeq
    exact ⟨fun left => congrArg Host.Outcome.next (slip left), fun left => congrArg Host.Outcome.next (stray left)⟩
  · obtain ⟨late, stray⟩ := takeRecord_of_unheld unheld
    exact ⟨fun e found => congrArg Host.Outcome.next (late e found), fun none => congrArg Host.Outcome.next (stray none)⟩
  · exact congrArg Host.Outcome.next (takeRecord_of_head fifo isSeq)
  · obtain ⟨slip, stray⟩ := takeRecord_of_slip fifo some others isSeq
    exact ⟨fun left => congrArg Host.Outcome.next (slip left), fun left => congrArg Host.Outcome.next (stray left)⟩
  · obtain ⟨late, stray⟩ := takeRecord_of_unheld unheld
    exact ⟨fun e found => congrArg Host.Outcome.next (late e found), fun none => congrArg Host.Outcome.next (stray none)⟩

end Sys2Proof.Machine
end

section
/-! SUPPORT. Admission with a record: what the decision and a separator leave, and the end of the admission (R28, R54, R63, R153). -/

set_option Elab.async false

namespace Sys2Proof.Machine

/-! ### LENGTH_MAX stands (R55) -/

theorem spendQuota_lengthMax (k : ObjectNo) (item : Word) (s : State) : (spendQuota k item s).route.lengthMax = s.route.lengthMax := by
  simp only [spendQuota]
  split
  · rfl
  · split
    · rw [emit_route]
      rfl
    · rfl

theorem decideRoute_lengthMax (e : HeldEdge) (r : NoteRecord) (s : State) : (decideRoute e r s).1.route.lengthMax = s.route.lengthMax := by
  simp only [decideRoute]
  split
  · rfl
  · split
    · exact spendQuota_lengthMax _ _ s
    · split
      · rfl
      · split
        · rfl
        · exact (spendQuota_lengthMax _ _ _).trans (congrArg RouteUnit.lengthMax ((commitQuarantine_work _ s).stands .route))
    · split
      · rfl
      · split
        · exact congrArg RouteUnit.lengthMax ((overflowAction_work (touched := []) _ s).stands .route)
        · split
          · rfl
          · exact (spendQuota_lengthMax _ _ _).trans (congrArg RouteUnit.lengthMax ((commitMember_work _ _ _ _ s).stands .route))

theorem decision_lengthMax (e : HeldEdge) (r : NoteRecord) (s : State) : (decision e r s).1.route.lengthMax = s.route.lengthMax := by
  unfold decision
  split
  · rfl
  · split
    · rfl
    · split
      case h_1 => exact decideRoute_lengthMax e r s
      case h_2 serial _ =>
        split
        case h_1 s1 w found =>
          have watched : (decideWatch e serial (r.code.map (·.1)) w s1).1.route = s1.route := (decideWatch_route e _ _ w s1).stands .route
          have looked : s1.route = s.route := (lookup_found_work found).stands .route
          exact congrArg RouteUnit.lengthMax (watched.trans looked)
        case h_2 s1 missed =>
          exact (decideRoute_lengthMax e r s1).trans (congrArg RouteUnit.lengthMax ((lookup_found_work missed).stands .route))

theorem swapAtBoundary_lengthMax (cardItem : Word) (id : Option Word) (s : State) :
    (swapAtBoundary cardItem id s).route.lengthMax = s.route.lengthMax := by
  have exchanged : (exchange s).route.lengthMax = s.route.lengthMax := by simp only [exchange, State.setRoute_route]
  rw [swapAtBoundary]
  split
  · simp only [emit_route, State.setRoute_route, exchanged]
  · rfl

theorem takeSeparator_lengthMax (r : SeparatorRecord) (item : Word) (late : Bool) (s : State) :
    (takeSeparator r item late s).1.route.lengthMax = s.route.lengthMax := by
  have ended : (endOpen (openDeposit s) (!r.endFlag || late) s).route.lengthMax = s.route.lengthMax :=
    congrArg RouteUnit.lengthMax ((endOpen_route _ _ s).stands .route)
  simp only [takeSeparator, takeBoundary]
  split
  · exact congrArg RouteUnit.lengthMax ((bump_work (touched := []) _ s).stands .route)
  · split
    · exact congrArg RouteUnit.lengthMax ((loseBoundary_work _ r item s).stands .route)
    · split
      · exact congrArg RouteUnit.lengthMax ((loseBoundary_work _ r item s).stands .route)
      · split
        · exact (swapAtBoundary_lengthMax _ _ _).trans ended
        · split
          · exact (swapAtBoundary_lengthMax _ _ _).trans ended
          · exact ended

/-! ### The end of an admission, after works that leave the Track Monitor -/

/-- After a work that leaves the Track Queue and LENGTH_MAX, the entry is the one of the state before it. -/
theorem finishAdmission_after {touched : List Block} {s u : State} (work : Work touched s u) (lengthMax : u.route.lengthMax = s.route.lengthMax)
    (i : Item) (disp : Disposition) (slot : Option SlotNo) (track : apart [.track] touched = true) (jam : apart [.jam] touched = true) :
    let deposit := attributedTo slot i.edge.item disp.hit.isSome u.deposit
    (s.track.queue.length < 32 → finishAdmission i disp slot u =
      { u with track := { u.track with queue := s.track.queue ++ [makeEntry i disp slot s] }, deposit := deposit }) ∧
    (32 ≤ s.track.queue.length → s.line.state ≠ .jammed → finishAdmission i disp slot u =
      enterJam (.trackFull i.edge.item) { u with
        track := { u.track with waiting := some (makeEntry i disp slot s) }, deposit := deposit }) := by
  have sameTrack : u.track = { s.track with stall := u.track.stall } := work.stands .track track
  have queue : u.track.queue = s.track.queue := by rw [sameTrack]
  have entry : makeEntry i disp slot u = makeEntry i disp slot s := makeEntry_congr sameTrack lengthMax i disp slot
  refine ⟨fun room => ?_, fun full running => ?_⟩
  · rw [finishAdmission_of_room i disp slot (queue ▸ room), queue, entry]
  · have unjammed : u.line.state ≠ .jammed := mt (work.stands .jam jam).mp running
    rw [finishAdmission_of_full i disp slot (queue ▸ full) unjammed, entry]

theorem exec_noteRecord_of_head {e : HeldEdge} {rest : List HeldEdge} {s : State} (fifo : s.edge.fifo = e :: rest) {r : NoteRecord}
    (isSeq : e.seq = r.seq) : exec (.noteRecord r) s = .next (
      finishAdmission { edge := e, kind := .note, cls := some r.cls, denom := r.code.map (·.1), serial := r.serial }
        (decision e r (popEdge s)).2 (openSlot s) (decision e r (popEdge s)).1) := by
  have slot : openSlot (decision e r (popEdge s)).1 = openSlot s := by
    have deposit : (decision e r (popEdge s)).1.deposit = s.deposit := (decision_work e r (popEdge s)).stands .deposit
    rw [openSlot, openDeposit, deposit]
    rfl
  rw [← slot]
  exact congrArg Host.Outcome.next (takeRecord_of_head fifo isSeq)

theorem exec_separatorRecord_of_head {e : HeldEdge} {rest : List HeldEdge} {s : State} (fifo : s.edge.fifo = e :: rest)
    {r : SeparatorRecord} (isSeq : e.seq = r.seq) : exec (.separatorRecord r) s = .next (
      finishAdmission { edge := e, kind := .card, cls := none, denom := none, serial := none } (cardDisposition e s)
        (takeSeparator r e.item false (popEdge s)).2 (takeSeparator r e.item false (popEdge s)).1) :=
  congrArg Host.Outcome.next (takeRecord_of_head fifo isSeq)

/-- A matched NOTE record's admission, with room in the Track Queue and without. -/
theorem exec_noteRecord_cases {e : HeldEdge} {rest : List HeldEdge} {s : State} (fifo : s.edge.fifo = e :: rest) {r : NoteRecord}
    (isSeq : e.seq = r.seq) :
    let popped : State := { s with edge := { s.edge with fifo := rest } }
    let u := (decision e r popped).1
    let disp := (decision e r popped).2
    let slot := (openDeposit s).map (·.slot)
    let x := admittedEntry e .note (some r.cls) (r.code.map (·.1)) r.serial disp slot s
    let deposit := attributedTo slot e.item disp.hit.isSome u.deposit
    (s.track.queue.length < 32 →
      exec (.noteRecord r) s = .next { u with track := { u.track with queue := s.track.queue ++ [x] }, deposit := deposit }) ∧
    (32 ≤ s.track.queue.length → s.line.state ≠ .jammed →
      exec (.noteRecord r) s = .next (enterJam (.trackFull e.item)
        { u with track := { u.track with waiting := some x }, deposit := deposit })) := by
  intro popped u disp slot x deposit
  have entry : makeEntry { edge := e, kind := .note, cls := some r.cls, denom := r.code.map (·.1), serial := r.serial } disp slot s = x :=
    makeEntry_eq e .note (some r.cls) (r.code.map (·.1)) r.serial disp slot s
  obtain ⟨room, full⟩ := finishAdmission_after (decision_work e r popped) (decision_lengthMax e r popped)
    { edge := e, kind := .note, cls := some r.cls, denom := r.code.map (·.1), serial := r.serial } disp slot rfl rfl
  rw [exec_noteRecord_of_head fifo isSeq, popEdge_eq fifo]
  refine ⟨fun isRoom => ?_, fun isFull running => ?_⟩
  · rw [← entry]
    exact congrArg Host.Outcome.next (room isRoom)
  · rw [← entry]
    exact congrArg Host.Outcome.next (full isFull running)

/-- A matched SEPARATOR record's admission, with room in the Track Queue and without. -/
theorem exec_separatorRecord_cases {e : HeldEdge} {rest : List HeldEdge} {s : State} (fifo : s.edge.fifo = e :: rest)
    {r : SeparatorRecord} (isSeq : e.seq = r.seq) :
    let popped : State := { s with edge := { s.edge with fifo := rest } }
    let u := (takeSeparator r e.item false popped).1
    let slot := (takeSeparator r e.item false popped).2
    let x := admittedEntry e .card none none none (cardDisposition e s) slot s
    let deposit := attributedTo slot e.item false u.deposit
    (s.track.queue.length < 32 →
      exec (.separatorRecord r) s = .next { u with track := { u.track with queue := s.track.queue ++ [x] }, deposit := deposit }) ∧
    (32 ≤ s.track.queue.length → s.line.state ≠ .jammed →
      exec (.separatorRecord r) s = .next (enterJam (.trackFull e.item)
        { u with track := { u.track with waiting := some x }, deposit := deposit })) := by
  intro popped u slot x deposit
  have entry : makeEntry { edge := e, kind := .card, cls := none, denom := none, serial := none } (cardDisposition e s) slot s = x :=
    makeEntry_eq e .card none none none (cardDisposition e s) slot s
  obtain ⟨room, full⟩ := finishAdmission_after (takeSeparator_work r e.item false popped) (takeSeparator_lengthMax r e.item false popped)
    { edge := e, kind := .card, cls := none, denom := none, serial := none } (cardDisposition e s) slot rfl rfl
  rw [exec_separatorRecord_of_head fifo isSeq, popEdge_eq fifo]
  refine ⟨fun isRoom => ?_, fun isFull running => ?_⟩
  · rw [← entry]
    exact congrArg Host.Outcome.next (room isRoom)
  · rw [← entry]
    exact congrArg Host.Outcome.next (full isFull running)

theorem cardDisposition_dest (e : HeldEdge) (s : State) : (cardDisposition e s).dest = .runOut := rfl

theorem cardDisposition_reason (e : HeldEdge) (s : State) :
    (cardDisposition e s).reason = .card ∨ (cardDisposition e s).reason = .length ∨ (cardDisposition e s).reason = .pitch := by
  show (admissionFault e s).getD .card = .card ∨ (admissionFault e s).getD .card = .length ∨ (admissionFault e s).getD .card = .pitch
  simp only [admissionFault]
  split
  · exact .inr (.inl rfl)
  · split
    · exact .inr (.inr rfl)
    · exact .inl rfl

/-- Settles O21: the end of a matched record's admission, its entry read off. -/
theorem matchedRecordEntersTheQueue : Obligations.MatchedRecordEntersTheQueue := by
  unfold Obligations.MatchedRecordEntersTheQueue
  refine ⟨fun e rest s fifo room => ⟨fun r isSeq => ?_, fun r isSeq => ?_⟩,
    fun e rest s fifo => ⟨fun r isSeq => exec_noteRecord_cases fifo isSeq, fun r isSeq => exec_separatorRecord_cases fifo isSeq⟩⟩
  · have work := decision_work e r { s with edge := { s.edge with fifo := rest } }
    have edge : (decision e r _).1.edge = { s.edge with fifo := rest } := work.stands .edge
    have fifoLeft : (decision e r _).1.edge.fifo = rest := congrArg EdgeUnit.fifo edge
    have position : (decision e r _).1.edge.position = s.edge.position := (congrArg EdgeUnit.position edge).trans rfl
    exact ⟨_, _, (exec_noteRecord_cases fifo isSeq).1 room, fifoLeft, rfl, rfl, rfl, rfl, rfl, rfl, rfl, rfl, rfl,
      position, work.stands .watch, work.stands .feed⟩
  · have work := takeSeparator_work r e.item false { s with edge := { s.edge with fifo := rest } }
    have edge : (takeSeparator r e.item false _).1.edge = { s.edge with fifo := rest } := work.stands .edge
    have fifoLeft : (takeSeparator r e.item false _).1.edge.fifo = rest := congrArg EdgeUnit.fifo edge
    have position : (takeSeparator r e.item false _).1.edge.position = s.edge.position := (congrArg EdgeUnit.position edge).trans rfl
    exact ⟨_, _, (exec_separatorRecord_cases fifo isSeq).1 room, fifoLeft, rfl, rfl, rfl, rfl, rfl,
      cardDisposition_dest e s, cardDisposition_reason e s, position, work.stands .watch, work.stands .feed⟩

end Sys2Proof.Machine
end

section
/-! SUPPORT. The disposition decision check by check, and late NOTE records (R54 to R61, R32, R75). -/

set_option Elab.async false

namespace Sys2Proof.Machine

/-! ### Checks 1 and 2 (R55, R56) -/

/-- A held edge's length lies between LENGTH_MIN and LENGTH_MAX. -/
def LengthGood (e : HeldEdge) (s : State) : Prop :=
  ∃ p, e.trail = some p ∧ s.route.lengthMin ≤ (p - e.lead).toNat ∧ (p - e.lead).toNat ≤ s.route.lengthMax

/-- A held edge's gap is measured and below GAP_MIN. -/
def GapShort (e : HeldEdge) (s : State) : Prop := ∃ n, e.gap = some n ∧ n < s.track.gapMin

theorem lengthGood_iff (e : HeldEdge) (s : State) :
    (e.length.any fun n => s.route.lengthMin ≤ n && n ≤ s.route.lengthMax) = true ↔ LengthGood e s := by
  rw [LengthGood, length_eq]
  cases e.trail <;> simp

theorem gapShort_iff (e : HeldEdge) (s : State) : e.gap.any (· < s.track.gapMin) = true ↔ GapShort e s := by
  rw [GapShort]
  cases e.gap <;> simp

theorem admissionFault_of_bad_length {e : HeldEdge} {s : State} (bad : ¬ LengthGood e s) : admissionFault e s = some .length := by
  rw [← lengthGood_iff, Bool.not_eq_true] at bad
  simp only [admissionFault, bad, Bool.not_false, if_true]

theorem admissionFault_of_gapShort {e : HeldEdge} {s : State} (good : LengthGood e s) (short : GapShort e s) :
    admissionFault e s = some .pitch := by
  rw [← lengthGood_iff] at good
  rw [← gapShort_iff] at short
  simp only [admissionFault, good, short, Bool.not_true, Bool.false_eq_true, if_false, if_true]

theorem admissionFault_of_good {e : HeldEdge} {s : State} (good : LengthGood e s) (wide : ¬ GapShort e s) : admissionFault e s = none := by
  rw [← lengthGood_iff] at good
  rw [← gapShort_iff, Bool.not_eq_true] at wide
  simp only [admissionFault, good, wide, Bool.not_true, Bool.false_eq_true, if_false]

theorem admissionFault_eq_none_iff (e : HeldEdge) (s : State) : admissionFault e s = none ↔ LengthGood e s ∧ ¬ GapShort e s := by
  refine ⟨fun none => ?_, fun ⟨good, wide⟩ => admissionFault_of_good good wide⟩
  by_cases good : LengthGood e s
  · refine ⟨good, fun short => ?_⟩
    cases none.symm.trans (admissionFault_of_gapShort good short)
  · cases none.symm.trans (admissionFault_of_bad_length good)

theorem decision_of_fault {e : HeldEdge} {s : State} {reason : Reason} (fault : admissionFault e s = some reason) (r : NoteRecord) :
    decision e r s = (s, .toRunOut reason) ∧ cardDisposition e s = .toRunOut reason := by
  rw [decision, cardDisposition, fault]
  exact ⟨rfl, rfl⟩

theorem decision_of_noDeposit {e : HeldEdge} {s : State} (passed : admissionFault e s = none) (required : s.deposit.requireDeposit = true)
    (none : openDeposit s = none) (r : NoteRecord) : decision e r s = (s, .toRunOut .noDeposit) := by
  rw [decision, passed, required, none]
  rfl

/-- Past checks 1 and 2, a note is sought in the watch list by its serial. -/
theorem decision_of_passed {e : HeldEdge} {s : State} (passed : admissionFault e s = none)
    (held : s.deposit.requireDeposit = true → (openDeposit s).isSome) (r : NoteRecord) :
    (r.serial = none → decision e r s = decideRoute e r s) ∧
    (∀ serial s1, r.serial = some serial → lookup serial (r.code.map (·.1)) s = (s1, none) → decision e r s = decideRoute e r s1) ∧
    (∀ serial s1 w, r.serial = some serial → lookup serial (r.code.map (·.1)) s = (s1, some w) →
      decision e r s = decideWatch e serial (r.code.map (·.1)) w s1) := by
  have deposit : ¬ (s.deposit.requireDeposit && (openDeposit s).isNone) = true := by
    rw [Bool.and_eq_true, not_and, Bool.not_eq_true, Option.isNone_eq_false_iff]
    exact held
  refine ⟨fun noSerial => ?_, fun serial s1 isSerial missed => ?_, fun serial s1 w isSerial found => ?_⟩
  · simp only [decision, passed, if_neg deposit, noSerial]
  · simp only [decision, passed, if_neg deposit, isSerial, missed]
  · simp only [decision, passed, if_neg deposit, isSerial, found]

/-! ### The timing check (R60) and the quarantine pocket (R57, R59) -/

theorem tooLate_iff (e : HeldEdge) (g : Gate) (s : State) : tooLate e g s = true ↔ (s.edge.position -
    (e.lead + (s.track.geometry.d[g.val + 1]'(by omega)).zeroExtend 24 - s.track.geometry.lead.zeroExtend 24)).toNat < 2 ^ 23 := by
  rw [tooLate, reached, openPosition_eq, fwd, decide_eq_true_eq]

theorem quarantineOpen_eq_none {s : State} (full : ∀ q, s.pocket.quarantine = some q → (pocketAt q s).state = .full) :
    quarantineOpen s = none := by
  rw [quarantineOpen]
  cases isQuarantine : s.pocket.quarantine with
  | none => rfl
  | some q => simp [full q isQuarantine]

theorem quarantineOpen_of_open {s : State} {q : Gate} (isQuarantine : s.pocket.quarantine = some q) (notFull : (pocketAt q s).state ≠ .full) :
    quarantineOpen s = some q := by
  rw [quarantineOpen, isQuarantine]
  simp [notFull]

theorem tooLate_congr {s t : State} (edge : t.edge = s.edge) (track : t.track = { s.track with stall := t.track.stall }) (e : HeldEdge)
    (g : Gate) : tooLate e g t = tooLate e g s := by
  have geometry : t.track.geometry = s.track.geometry := by rw [track]
  rw [tooLate, tooLate, geometry, edge]

theorem quarantineOpen_congr {s t : State} (pocket : t.pocket = s.pocket) : quarantineOpen t = quarantineOpen s := by
  simp only [quarantineOpen, pocketAt, pocket]

/-- The three ends of a decision that hit a watch entry. -/
theorem decideWatch_cases (e : HeldEdge) (serial : Serial) (denom : Option Denom) (w : WatchEntry) (s : State) :
    let report (reason : Reason) (d : Dest) : Report := watchHitReport e.item ((openDeposit s).map (·.id)) serial denom w reason d
    let out (d : Dest) (reason : Reason) : Disposition :=
      { dest := d, reason := reason, route := none, routeTrace := false, hit := some w }
    (quarantineOpen s = none → decideWatch e serial denom w s = (emit (report .watchUnheld .runOut) s, out .runOut .watchUnheld)) ∧
    (∀ q, quarantineOpen s = some q →
      (tooLate e q s = true → decideWatch e serial denom w s = (emit (report .late .runOut) s, out .runOut .late)) ∧
      (¬ tooLate e q s = true → decideWatch e serial denom w s =
        (emit (report .watch (.gated q)) (commitQuarantine q s), out (.gated q) .watch))) := by
  intro report out
  refine ⟨fun none => ?_, fun q isOpen => ⟨fun late => ?_, fun inTime => ?_⟩⟩
  · simp only [decideWatch, none]
    rfl
  · simp only [decideWatch, isOpen, if_pos late]
    rfl
  · have deposit : (commitQuarantine q s).deposit = s.deposit := (commitQuarantine_work q s).stands .deposit
    have opened : openDeposit (commitQuarantine q s) = openDeposit s := by rw [openDeposit, openDeposit, deposit]
    simp only [decideWatch, isOpen, if_neg inTime, opened]
    rfl

/-- Settles O22: the checks in their order. -/
theorem firstThreeChecks : Obligations.FirstThreeChecks := by
  unfold Obligations.FirstThreeChecks
  refine ⟨fun e r s => ⟨fun bad => decision_of_fault (admissionFault_of_bad_length bad) r,
      fun good short => decision_of_fault (admissionFault_of_gapShort good short) r, fun good wide => ?_,
      fun good wide required none => decision_of_noDeposit (admissionFault_of_good good wide) required none r,
      admissionFault_eq_none_iff e s⟩,
    fun e r s passed held => ?_, fun e r serial w s s1 passed held isSerial found => ?_⟩
  · rw [cardDisposition, admissionFault_of_good good wide]
    rfl
  · obtain ⟨noSerial, missed, -⟩ := decision_of_passed passed held r
    exact ⟨noSerial, missed⟩
  · obtain ⟨-, -, hit⟩ := decision_of_passed passed held r
    have looked := lookup_found_work found
    obtain ⟨unheld, isOpen⟩ := decideWatch_cases e serial (r.code.map (·.1)) w s1
    have quarantine : quarantineOpen s1 = quarantineOpen s := quarantineOpen_congr (looked.stands .pocket)
    have late (q : Gate) : tooLate e q s1 = tooLate e q s := tooLate_congr (looked.stands .edge) (looked.stands .track) e q
    intro id report out geo isLate
    refine ⟨fun full => ?_, fun q isQuarantine notFull => ⟨fun reached => ?_, fun inTime => ?_⟩⟩
    · rw [hit serial s1 w isSerial found]
      exact unheld (quarantine.trans (quarantineOpen_eq_none full))
    · rw [hit serial s1 w isSerial found]
      exact (isOpen q (quarantine.trans (quarantineOpen_of_open isQuarantine notFull))).1 ((late q).trans ((tooLate_iff e q s).mpr reached))
    · rw [hit serial s1 w isSerial found]
      refine (isOpen q (quarantine.trans (quarantineOpen_of_open isQuarantine notFull))).2 fun reached => inTime ?_
      exact (tooLate_iff e q s).mp ((late q).symm.trans reached)

/-- Settles O23: the winner's target, each by the cases of its checks. -/
theorem routeDecides : Obligations.RouteDecides := by
  unfold Obligations.RouteDecides
  intro e r s denom geo late
  refine ⟨fun none => ?_, fun k isWinner => ⟨fun target => ?_, fun target full => ?_, fun q target isQuarantine notFull => ⟨fun reached => ?_,
    fun inTime => ?_⟩, fun g target empty => ?_, fun g target defined noPlace => ?_, fun g p target defined placed reached => ?_,
    fun g p target defined placed inTime => ?_⟩⟩
  · simp only [decideRoute, none]
    rfl
  · simp only [decideRoute, isWinner, target]
  · simp only [decideRoute, isWinner, target, quarantineOpen_eq_none full]
  · simp only [decideRoute, isWinner, target, quarantineOpen_of_open isQuarantine notFull, if_pos ((tooLate_iff e q s).mpr reached)]
  · simp only [decideRoute, isWinner, target, quarantineOpen_of_open isQuarantine notFull, if_neg (mt (tooLate_iff e q s).mp inTime)]
  · simp only [decideRoute, isWinner, target, if_pos empty]
  · simp only [decideRoute, isWinner, target, if_neg defined, denom] at noPlace ⊢
    rw [noPlace]
    simp only [overflowAction]
    cases (groupAt g s).overflow <;> rfl
  · simp only [decideRoute, isWinner, target, if_neg defined, denom] at placed ⊢
    rw [placed]
    simp only [if_pos ((tooLate_iff e p s).mpr reached)]
  · simp only [decideRoute, isWinner, target, if_neg defined, denom] at placed ⊢
    rw [placed]
    simp only [if_neg (mt (tooLate_iff e p s).mp inTime)]

end Sys2Proof.Machine
end

section
/-! SUPPORT. Late NOTE records: the entry they change and the watch hit they report (R32, R75). -/

set_option Elab.async false

namespace Sys2Proof.Machine

theorem updateFirst_append {α : Type} {p : α → Bool} {f : α → α} {before after : List α} {x : α} (others : ∀ y ∈ before, p y = false)
    (holds : p x = true) : updateFirst p f (before ++ x :: after) = before ++ f x :: after := by
  induction before with
  | nil => rw [List.nil_append, updateFirst, if_pos holds, List.nil_append]
  | cons y before ih =>
    rw [List.cons_append, updateFirst, if_neg (by rw [others y List.mem_cons_self]; exact Bool.false_ne_true),
      ih fun z isIn => others z (List.mem_cons_of_mem y isIn), List.cons_append]

theorem awaits_iff (seq : Byte) (e : Entry) : e.awaits seq = true ↔ e.kind = .unread ∧ e.seq = seq ∧ e.lateMark = false := by
  simp [Entry.awaits, and_assoc]

section

variable {r : NoteRecord} {before after : List Entry} {e : Entry} {s : State}

/-- The Track Queue with the waiting entry's late record taken. -/
def lateTaken (before : List Entry) (e : Entry) (after : List Entry) (r : NoteRecord) (caseRef : Option Word) : List Entry :=
  before ++ e.takeLate (some r.cls) (r.code.map (·.1)) r.serial caseRef :: after

theorem updateAwaiting_late (queue : s.track.queue = before ++ e :: after) (others : ∀ x ∈ before, x.awaits r.seq = false)
    (waits : e.awaits r.seq = true) (caseRef : Option Word) :
    updateAwaiting r.seq (·.takeLate (some r.cls) (r.code.map (·.1)) r.serial caseRef) s =
      { s with track := { s.track with queue := lateTaken before e after r caseRef } } := by
  rw [updateAwaiting, queue, updateFirst_append others waits]
  rfl

/-- A watch hit counted in the deposit of a slot. -/
def hitCounted (slot : Option SlotNo) (u : DepositUnit) : DepositUnit :=
  { u with deposits := u.deposits.map fun d => if some d.slot = slot then { d with watchHits := min (d.watchHits + 1) 65535 } else d }

theorem countWatchHit_eq (slot : Option SlotNo) (s : State) : countWatchHit slot s = s.setDeposit (hitCounted slot s.deposit) := by
  cases slot with
  | none =>
    have untouched : hitCounted none s.deposit = s.deposit := by simp [hitCounted]
    rw [untouched]
    rfl
  | some k => simp only [countWatchHit, modifySlot, modifyDeposit, hitCounted, Option.some.injEq, bumpCount] <;> rfl

/-- The id of a slot's deposit does not change with its counts. -/
theorem depositId_hitCounted (slot : Option SlotNo) {s t : State} (counted : t.deposit = hitCounted slot s.deposit) (k : Option SlotNo) :
    depositId k t = depositId k s := by
  cases k with
  | none => rfl
  | some k =>
    have same (d : Deposit) : (if some d.slot = slot then { d with watchHits := min (d.watchHits + 1) 65535 } else d).slot = d.slot := by
      split <;> rfl
    simp only [depositId, Option.bind_some, depositAt, counted, hitCounted, List.find?_map, Option.map_map, Function.comp_def, same]
    congr 1
    funext d
    split <;> rfl

theorem applyLateNote_of_no_serial (queue : s.track.queue = before ++ e :: after) (others : ∀ x ∈ before, x.awaits r.seq = false)
    (waits : e.awaits r.seq = true) (noSerial : r.serial = none) :
    applyLateNote e r s = { s with track := { s.track with queue := lateTaken before e after r none } } := by
  rw [← updateAwaiting_late queue others waits none]
  simp only [applyLateNote, noSerial]

theorem applyLateNote_of_miss {serial : Serial} {s1 : State} (queue : s.track.queue = before ++ e :: after)
    (others : ∀ x ∈ before, x.awaits r.seq = false) (waits : e.awaits r.seq = true) (isSerial : r.serial = some serial)
    (missed : lookup serial (r.code.map (·.1)) s = (s1, none)) :
    applyLateNote e r s = { s1 with track := { s1.track with queue := lateTaken before e after r none } } := by
  have track : s1.track = { s.track with stall := s1.track.stall } := (lookup_found_work missed).stands .track
  have queue1 : s1.track.queue = before ++ e :: after := by rw [track, queue]
  rw [← updateAwaiting_late queue1 others waits none]
  simp only [applyLateNote, isSerial, missed]

theorem applyLateNote_of_hit {serial : Serial} {s1 : State} {w : WatchEntry} (queue : s.track.queue = before ++ e :: after)
    (others : ∀ x ∈ before, x.awaits r.seq = false) (waits : e.awaits r.seq = true) (isSerial : r.serial = some serial)
    (found : lookup serial (r.code.map (·.1)) s = (s1, some w)) :
    applyLateNote e r s = emit (watchHitReport e.item (depositId e.slot s) serial (r.code.map (·.1)) w .lateRecord .runOut)
      { s1 with
        track := { s1.track with queue := lateTaken before e after r (some w.caseRef) }
        deposit := hitCounted e.slot s1.deposit } := by
  have looked := lookup_found_work found
  have track : s1.track = { s.track with stall := s1.track.stall } := looked.stands .track
  have deposit : s1.deposit = s.deposit := looked.stands .deposit
  have queue1 : s1.track.queue = before ++ e :: after := by rw [track, queue]
  have counted : countWatchHit e.slot (updateAwaiting r.seq (·.takeLate (some r.cls) (r.code.map (·.1)) r.serial (some w.caseRef)) s1) =
      { s1 with
        track := { s1.track with queue := lateTaken before e after r (some w.caseRef) }
        deposit := hitCounted e.slot s1.deposit } := by
    rw [countWatchHit_eq, updateAwaiting_late queue1 others waits]
    rfl
  have id : depositId e.slot { s1 with
      track := { s1.track with queue := lateTaken before e after r (some w.caseRef) }
      deposit := hitCounted e.slot s1.deposit } = depositId e.slot s :=
    depositId_hitCounted e.slot (show hitCounted e.slot s1.deposit = hitCounted e.slot s.deposit by rw [deposit]) e.slot
  rw [isSerial] at counted
  simp only [applyLateNote, isSerial, found, counted, id]

end

/-- Settles O24: the waiting entry takes its record, by the want of a serial, a miss and a hit. -/
theorem lateNoteRecordApplied : Obligations.LateNoteRecordApplied := by
  unfold Obligations.LateNoteRecordApplied
  intro r before after e s unheld queue others kind seq mark
  have waits : e.awaits r.seq = true := (awaits_iff r.seq e).mpr ⟨kind, seq, mark⟩
  have otherwise : ∀ x ∈ before, x.awaits r.seq = false := fun x isIn =>
    Bool.eq_false_iff.mpr fun waiting => others x isIn ((awaits_iff r.seq x).mp waiting)
  have found : s.track.queue.find? (·.awaits r.seq) = some e := by
    rw [queue, List.find?_append, List.find?_eq_none.mpr fun x isIn => by rw [otherwise x isIn]; exact Bool.false_ne_true]
    simp [waits]
  have applied : exec (.noteRecord r) s = .next (applyLateNote e r s) :=
    congrArg Host.Outcome.next ((takeRecord_of_unheld unheld).1 e found)
  have work := applyLateNote_work e r s
  have changed : ∃ caseRef, (applyLateNote e r s).track.queue = lateTaken before e after r caseRef ∧
      (applyLateNote e r s).track.gates = s.track.gates := by
    cases isSerial : r.serial with
    | none =>
      rw [applyLateNote_of_no_serial queue otherwise waits isSerial]
      exact ⟨_, rfl, rfl⟩
    | some serial =>
      rcases looked : lookup serial (r.code.map (·.1)) s with ⟨s1, _ | w⟩
      · have track : s1.track = { s.track with stall := s1.track.stall } := (lookup_found_work looked).stands .track
        rw [applyLateNote_of_miss queue otherwise waits isSerial looked]
        exact ⟨_, rfl, (congrArg TrackUnit.gates track).trans rfl⟩
      · have track : s1.track = { s.track with stall := s1.track.stall } := (lookup_found_work looked).stands .track
        rw [applyLateNote_of_hit queue otherwise waits isSerial looked]
        refine ⟨_, emit_track_queue _ _, ?_⟩
        rw [emit_track_gates]
        exact (congrArg TrackUnit.gates track).trans rfl
  obtain ⟨caseRef, taken, gates⟩ := changed
  refine ⟨_, _, applied, taken, rfl, work.stands .edge, work.stands .route, work.stands .pocket, work.stands .group, work.stands .watch,
    gates, fun noSerial => ?_, fun serial s1 isSerial missed => ?_, fun serial s1 w isSerial found => ?_⟩
  · rw [applied, applyLateNote_of_no_serial queue otherwise waits noSerial]
    rfl
  · rw [applied, applyLateNote_of_miss queue otherwise waits isSerial missed]
    rfl
  · rw [applied, applyLateNote_of_hit queue otherwise waits isSerial found]
    rfl

end Sys2Proof.Machine
end

section
/-! SUPPORT. The route table: matching, quotas, the exchange and ROUTE_WRITE (R42, R45, R47, R48, R49, R51). -/

set_option Elab.async false

namespace Sys2Proof.Machine

/-! ### Matching (R45) -/

/-- A value agrees with a key in every masked bit. -/
def Agree {w : Nat} (mask value v : BitVec w) : Prop := ∀ i < w, mask.getLsbD i = true → v.getLsbD i = value.getLsbD i

theorem agree_iff {w : Nat} (mask value v : BitVec w) : (v ^^^ value) &&& mask = 0 ↔ Agree mask value v := by
  have bit (i : Nat) : ((v ^^^ value) &&& mask).getLsbD i = false ↔ (mask.getLsbD i = true → v.getLsbD i = value.getLsbD i) := by
    rw [BitVec.getLsbD_and, BitVec.getLsbD_xor]
    cases mask.getLsbD i <;> cases v.getLsbD i <;> cases value.getLsbD i <;> decide
  constructor
  · intro zero i _
    rw [← bit, zero]
    exact BitVec.getLsbD_zero
  · intro agree
    refine BitVec.eq_of_getLsbD_eq fun i inRange => ?_
    rw [(bit i).mpr (agree i inRange)]
    exact BitVec.getLsbD_zero.symm

theorem maskAdmits_iff {w : Nat} (mask value : BitVec w) (v : Option (BitVec w)) :
    maskAdmits mask value v = true ↔ mask = 0 ∨ ∃ x, v = some x ∧ Agree mask value x := by
  rw [maskAdmits, Bool.or_eq_true, beq_iff_eq, Option.any_eq_true]
  simp only [beq_iff_eq, agree_iff]

theorem kindAdmits_iff (set : BitVec 4) (d : Option Deposit) : kindAdmits set (d.map (·.kind)) = true ↔
    (∃ o, d = some o ∧ set.getLsbD o.kind.val = true) ∨ (d = none ∧ set = 15) := by
  cases d <;> simp [kindAdmits]

theorem admits_iff (o : RouteObject) (r : NoteRecord) (d : Option Deposit) : o.admits r (d.map (·.kind)) = true ↔
    o.classSet.getLsbD r.cls.code.toNat = true ∧
    (o.denomMask = 0 ∨ ∃ x y, r.code = some (x, y) ∧ Agree o.denomMask o.denomValue x) ∧
    (o.seriesMask = 0 ∨ ∃ x y, r.code = some (x, y) ∧ Agree o.seriesMask o.seriesValue y) ∧
    o.fitnessSet.getLsbD r.fitness.val = true ∧ o.orientSet.getLsbD r.orientation.val = true ∧
    ((∃ k, d = some k ∧ o.kindSet.getLsbD k.kind.val = true) ∨ (d = none ∧ o.kindSet = 15)) := by
  have denomination : (∃ x, r.code.map (·.1) = some x ∧ Agree o.denomMask o.denomValue x) ↔
      ∃ x y, r.code = some (x, y) ∧ Agree o.denomMask o.denomValue x := by
    obtain _ | ⟨x, y⟩ := r.code <;> simp
  have series : (∃ y, r.code.map (·.2) = some y ∧ Agree o.seriesMask o.seriesValue y) ↔
      ∃ x y, r.code = some (x, y) ∧ Agree o.seriesMask o.seriesValue y := by
    obtain _ | ⟨x, y⟩ := r.code <;> simp
  simp only [RouteObject.admits, Bool.and_eq_true, maskAdmits_iff, kindAdmits_iff, denomination, series, and_assoc]

/-- A mask of every bit leaves the value alone. -/
theorem eq_of_agree_all {w : Nat} {value v : BitVec w} (agree : Agree (BitVec.allOnes w) value v) : v = value :=
  BitVec.eq_of_getLsbD_eq fun i inRange => agree i inRange (by simp [inRange])

/-- Settles O25: each key field by the value it admits. -/
theorem matchingAsKeyed : Obligations.MatchingAsKeyed := by
  unfold Obligations.MatchingAsKeyed
  intro o r s agree
  refine ⟨admits_iff o r (openDeposit s), fun admitted noCode => ?_, fun allBits admitted => ?_⟩
  · obtain ⟨-, denomination, series, -⟩ := (admits_iff o r _).mp admitted
    rw [noCode] at denomination series
    refine ⟨denomination.resolve_right ?_, series.resolve_right ?_⟩
    · rintro ⟨x, y, isCode, -⟩
      cases isCode
    · rintro ⟨x, y, isCode, -⟩
      cases isCode
  · obtain ⟨-, denomination, -⟩ := (admits_iff o r _).mp admitted
    rw [allBits] at denomination
    obtain ⟨x, y, isCode, agrees⟩ := denomination.resolve_left (by decide)
    exact ⟨y, by rw [isCode, eq_of_agree_all agrees]⟩

/-! ### Quotas (R47, R48) -/

/-- Settles O27: the winner's quota by what is left of it. -/
theorem quotaSpent : Obligations.QuotaSpent := by
  unfold Obligations.QuotaSpent
  intro k item s
  refine ⟨fun none => ?_, fun p isPreset left => ?_, fun p isPreset last => ?_⟩
  · simp only [spendQuota, none]
  · have more : ¬ (objectAt k s).remaining - 1 = 0 := by omega
    simp only [spendQuota, isPreset, if_neg more]
    rfl
  · have spent : (objectAt k s).remaining - 1 = 0 := by omega
    simp only [spendQuota, isPreset, if_pos spent]
    rfl

/-! ### The exchange and ROUTE_SWAP (R49, R51) -/

theorem objectAt_exchange (k : ObjectNo) (s : State) : objectAt k (exchange s) =
    if s.route.standby.contains k then (objectAt k s).armed
    else if s.route.active.contains k then (objectAt k s).retired
    else objectAt k s := by
  simp only [objectAt, exchange, State.setRoute_route, Fin.getElem_fin, Vector.getElem_ofFn]

theorem exchange_answer (tag code : Byte) (detail : Detail) (s : State) :
    (exchange (answer tag code detail s)).route = (exchange s).route := by
  simp only [exchange, answer_route, State.setRoute_route]

theorem exec_routeSwap (tag : Byte) (s : State) : exec (.routeSwap tag) s =
    .next (request tag 0x13 [(s.route.swapPending, .pending)] .none (swap (s.line.state == .idle)) s) := rfl

/-- Settles O28: an object's part in the exchange by the list it is in; ROUTE_SWAP by the pending flag and the line state. -/
theorem routeSwapTaken : Obligations.RouteSwapTaken := by
  unfold Obligations.RouteSwapTaken
  refine ⟨fun s lists => ⟨rfl, rfl, fun k standby => ?_, fun k active => ?_, fun k notActive notStandby => ?_, rfl⟩, fun tag s =>
    ⟨fun pending => ?_, fun clear idle => ?_, fun clear busy => ?_⟩⟩
  · rw [objectAt_exchange, if_pos (List.contains_iff_mem.mpr standby)]
    rfl
  · have notStandby : ¬ s.route.standby.contains k = true := fun standby =>
      (List.nodup_append.mp lists).2.2 k active k (List.contains_iff_mem.mp standby) rfl
    rw [objectAt_exchange, if_neg notStandby, if_pos (List.contains_iff_mem.mpr active)]
    rfl
  · rw [objectAt_exchange, if_neg (mt List.contains_iff_mem.mp notStandby), if_neg (mt List.contains_iff_mem.mp notActive)]
  · rw [exec_routeSwap, request_of_refusal (by rw [firstRefusal_cons, pending]; rfl)]
  · rw [exec_routeSwap, request_of_pass (by rw [firstRefusal_cons, clear]; rfl), idle]
    have report : routesReport none none (exchange (answer tag 0x13 .none s)) =
        .routes { cardItem := none, depositId := none, active := s.route.standby, standby := s.route.active } := by
      rw [routesReport, exchange_answer]
      rfl
    intro u
    rw [← report]
    rfl
  · rw [exec_routeSwap, request_of_pass (by rw [firstRefusal_cons, clear]; rfl)]
    have other : (s.line.state == .idle) = false := beq_false_of_ne busy
    rw [other, swap, if_neg Bool.false_ne_true, answer_route]
    rfl

/-! ### ROUTE_WRITE (R42) -/

/-- The values of a ROUTE_WRITE that R42 and R202 refuse. -/
def RouteFaulty (a : RouteArgs) : Prop :=
  15 < a.classSet.toNat ∨ 31 < a.denomValue.toNat ∨ 31 < a.denomMask.toNat ∨ 15 < a.kindSet.toNat ∨
    a.target.toNat / 64 = 3 ∨ (a.target.toNat / 64 = 0 ∧ 7 < a.target.toNat % 64) ∨ 3 < a.priority.toNat ∨
    (a.options.getLsbD 0 = true ∧ a.quota = 0)

/-- A target byte by its type and group number. -/
theorem targetOf_eq (b : Byte) : targetOf b =
    if b.toNat / 64 = 0 then (if b.toNat % 64 ≤ 7 then some (.group (Fin.ofNat 8 b.toNat)) else none)
    else if b.toNat / 64 = 1 then some .quarantine
    else if b.toNat / 64 = 2 then some .runOut
    else none := by
  decide +revert

theorem targetOf_eq_none_iff (b : Byte) : targetOf b = none ↔ b.toNat / 64 = 3 ∨ (b.toNat / 64 = 0 ∧ 7 < b.toNat % 64) := by
  have small := b.isLt
  rw [targetOf_eq]
  split_ifs <;> simp <;> omega

theorem routeFaulty_iff (a : RouteArgs) : routeFaulty a = true ↔ RouteFaulty a := by
  simp only [routeFaulty, RouteFaulty, quotaPresent, Bool.or_eq_true, Bool.and_eq_true, decide_eq_true_eq, beq_iff_eq,
    Option.isNone_iff_eq_none, targetOf_eq_none_iff, or_assoc]

theorem targetOf_of_sound {a : RouteArgs} (sound : ¬ RouteFaulty a) : (targetOf a.target).getD .runOut =
    if a.target.toNat / 64 = 0 then .group (Fin.ofNat 8 a.target.toNat)
    else if a.target.toNat / 64 = 1 then .quarantine
    else .runOut := by
  have group : a.target.toNat / 64 = 0 → a.target.toNat % 64 ≤ 7 := fun isGroup =>
    Nat.le_of_not_lt fun above => sound (by simp [RouteFaulty, isGroup, above])
  rw [targetOf_eq]
  by_cases isGroup : a.target.toNat / 64 = 0
  · rw [if_pos isGroup, if_pos isGroup, if_pos (group isGroup)]
    rfl
  · rw [if_neg isGroup, if_neg isGroup]
    split_ifs <;> rfl

/-- The checks of a ROUTE_WRITE on the object it names (R42). -/
def writeChecks (k : ObjectNo) (s : State) : List (Bool × RefusalReason) :=
  [(s.route.active.contains k && s.line.state != .idle, .state), (s.route.standby.contains k && s.route.swapPending, .pending)]

theorem exec_routeWrite (tag index : Byte) (a : RouteArgs) (s : State) : exec (.routeWrite tag index a) s =
    .next (request tag 0x10 (objectChecks index (routeFaulty a) fun k => writeChecks k s) .none (onObject index (writeObject a)) s) := rfl

theorem exec_routeWrite_of_range {index : Byte} {a : RouteArgs} (outOfRange : 47 < index.toNat ∨ RouteFaulty a) (tag : Byte) (s : State) :
    exec (.routeWrite tag index a) s = .next (refuse tag 0x10 .range s) := by
  rw [exec_routeWrite, request_of_refusal (firstRefusal_objectChecks_of_range (outOfRange.imp_right (routeFaulty_iff a).mpr) _)]

theorem exec_routeWrite_of_named {index : Byte} {k : ObjectNo} (named : index.toNat = k) {a : RouteArgs} (sound : ¬ RouteFaulty a) (tag : Byte)
    (s : State) : exec (.routeWrite tag index a) s = .next (request tag 0x10 (writeChecks k s) .none (writeObject a k) s) := by
  rw [exec_routeWrite, request_on_named named (Bool.eq_false_iff.mpr (mt (routeFaulty_iff a).mp sound))]

theorem written_armed (o : RouteObject) (a : RouteArgs) (active : Bool) :
    (if active then (o.written a).armed else o.written a) =
      { o.written a with
        remaining := if active then (if quotaPresent a then some a.quota.toNat else none).getD 0 else o.remaining
        spent := if active then false else o.spent } := by
  cases active <;> rfl

/-- Settles O29: the checks in their order, then the object replaced. -/
theorem routeWriteReplaces : Obligations.RouteWriteReplaces := by
  unfold Obligations.RouteWriteReplaces
  intro tag index a s faulty target
  refine ⟨fun outOfRange => exec_routeWrite_of_range outOfRange tag s, fun k named sound => ?_⟩
  intro active standby
  have checks : writeChecks k s = [(active && s.line.state != .idle, .state), (standby && s.route.swapPending, .pending)] := rfl
  rw [exec_routeWrite_of_named named sound, checks]
  have stateCheck : (active && s.line.state != .idle) = true ↔ active = true ∧ s.line.state ≠ .idle := by simp
  have pendingCheck : (standby && s.route.swapPending) = true ↔ standby = true ∧ s.route.swapPending = true := by simp
  refine ⟨fun isActive busy => ?_, fun passed isStandby isPending => ?_, fun passed notPending => ?_⟩
  · rw [request_of_refusal (by rw [firstRefusal_cons, stateCheck.mpr ⟨isActive, busy⟩]; rfl)]
  · rw [request_of_refusal (by
      rw [firstRefusal_cons, firstRefusal_cons, if_neg (mt stateCheck.mp passed), pendingCheck.mpr ⟨isStandby, isPending⟩]; rfl)]
  · rw [request_of_pass (by
      rw [firstRefusal_cons, firstRefusal_cons, if_neg (mt stateCheck.mp passed), if_neg (mt pendingCheck.mp notPending)]; rfl)]
    intro o preset written u
    have isTarget : (targetOf a.target).getD .runOut = target := targetOf_of_sound sound
    have isWritten : (if (answer tag 0x10 .none s).route.active.contains k then (o.written a).armed else o.written a) = written := by
      rw [answer_route, written_armed, RouteObject.written, isTarget]
      rfl
    rw [writeObject, objectAt_answer, isWritten, putObject, answer_route]
    rfl

end Sys2Proof.Machine
end

section
/-! SUPPORT. WATCH_ADD, and the parameters of the line and of a group (R19, R68, R107, section 11.6). -/

set_option Elab.async false

namespace Sys2Proof.Machine

/-! ### WATCH_ADD (R68) -/

/-- The checks of a WATCH_ADD, in their order. -/
def addChecks (denom : Byte) (serial : List Byte) (s : State) : List (Bool × RefusalReason) :=
  [(serialFormatFaulty serial, .format), (serialLengthFaulty serial || denomFaulty denom, .range),
   (watched serial (denomOfByte denom) s, .duplicate), (Config.watchCapacity ≤ s.watch.list.length, .full),
   (s.watch.index.read (cellOf serial) == 255, .full)]

theorem exec_watchAdd (tag denom : Byte) (caseRef : Word) (serial : List Byte) (s : State) : exec (.watchAdd tag denom caseRef serial) s =
    .next (request tag 0x20 (addChecks denom serial s) (.entries (s.watch.list.length + 1))
      (addWatch { serial := serial, denom := denomOfByte denom, caseRef := caseRef }) s) := rfl

theorem exec_watchAdd_of_refusal {denom : Byte} {serial : List Byte} {s : State} {reason : RefusalReason}
    (refused : firstRefusal (addChecks denom serial s) = some reason) (tag : Byte) (caseRef : Word) :
    exec (.watchAdd tag denom caseRef serial) s = .next (refuse tag 0x20 reason s) := by
  rw [exec_watchAdd, request_of_refusal refused]

theorem exec_watchAdd_of_pass {denom : Byte} {serial : List Byte} {s : State} (passed : firstRefusal (addChecks denom serial s) = none)
    (tag : Byte) (caseRef : Word) : exec (.watchAdd tag denom caseRef serial) s =
      .next { answer tag 0x20 (.entries (s.watch.list.length + 1)) s with watch :=
        { list := s.watch.list ++ [{ serial := serial, denom := denomOfByte denom, caseRef := caseRef }]
          index := s.watch.index.write (cellOf serial) (s.watch.index.read (cellOf serial) + 1) } } := by
  rw [exec_watchAdd, request_of_pass passed, addWatch, answer_watch]
  rfl

/-- Settles O32: the checks in their order, then the entry at the tail and its cell. -/
theorem watchAddKeepsTheIndex : Obligations.WatchAddKeepsTheIndex := by
  unfold Obligations.WatchAddKeepsTheIndex
  intro tag denom caseRef serial s d characters faulty held run
  have format : serialFormatFaulty serial = false ↔ characters := serialFormatFaulty_eq_false_iff serial
  have range : (serialLengthFaulty serial || denomFaulty denom) = true ↔ faulty := watchRange_iff serial denom
  have duplicate : watched serial (denomOfByte denom) s = true ↔ held := by
    rw [watched_iff]
    simp only [WatchEntry.named_iff, denomOfByte_eq, held, d]
  have bad (outside : ¬ characters) : serialFormatFaulty serial = true := by
    rw [← format, Bool.not_eq_false] at outside
    exact outside
  refine ⟨fun outside => ?_, fun outside => ?_, fun inside isFaulty => ?_, fun inside sound isHeld => ?_, fun inside sound new full => ?_,
    fun inside sound new room notFull => ?_⟩
  · exact exec_watchAdd_of_refusal (by rw [addChecks, firstRefusal_cons, bad outside]; rfl) tag caseRef
  · rw [exec_watchRemove, request_of_refusal (by rw [removeChecks, firstRefusal_cons, bad outside]; rfl)]
  · exact exec_watchAdd_of_refusal (by simp [addChecks, format.mpr inside, range.mpr isFaulty]) tag caseRef
  · exact exec_watchAdd_of_refusal (by simp [addChecks, format.mpr inside, mt range.mp sound, duplicate.mpr isHeld]) tag caseRef
  · refine exec_watchAdd_of_refusal ?_ tag caseRef
    by_cases many : 256 ≤ s.watch.list.length
    · simp [addChecks, format.mpr inside, mt range.mp sound, mt duplicate.mp new, Config.watchCapacity, many]
    · simp [addChecks, format.mpr inside, mt range.mp sound, mt duplicate.mp new, full.resolve_left many]
  · have few : decide (Config.watchCapacity ≤ s.watch.list.length) = false := decide_eq_false (Nat.not_le.mpr room)
    have cell : (s.watch.index.read (cellOf serial) == 255) = false := beq_false_of_ne notFull
    refine exec_watchAdd_of_pass ?_ tag caseRef
    simp only [addChecks, firstRefusal_cons, format.mpr inside, mt range.mp sound, mt duplicate.mp new, few, cell, Bool.false_eq_true,
      if_false, firstRefusal_nil]

/-! ### SET_PARAM (R17, R19) -/

/-- A SET_PARAM with one check, of a range: written where the check passes. -/
theorem setParam_of_range {bad : Bool} {good : Prop} [Decidable good] (isGood : bad = false ↔ good) (tag : Byte) (write : State → State)
    (s : State) : setParam tag [(bad, .range)] write s =
      if good then write (answer tag 0x01 .none s) else refuse tag 0x01 .range s := by
  rw [setParam]
  by_cases passed : good
  · rw [if_pos passed, request_of_pass (by rw [firstRefusal_cons, isGood.mpr passed]; rfl)]
  · rw [if_neg passed, request_of_refusal (by rw [firstRefusal_cons, Bool.eq_true_of_not_eq_false (mt isGood.mp passed)]; rfl)]

theorem outside_eq_false_iff (low high : Nat) (v : Word) : outside low high v = false ↔ low ≤ v.toNat ∧ v.toNat ≤ high := by
  simp [outside]

theorem beq_one_eq (v : Word) : (v == 1) = (v.toNat == 1) := by
  rw [Bool.eq_iff_iff, beq_iff_eq, beq_iff_eq, BitVec.toNat_eq]
  rfl

theorem beq_zero_eq_true_iff (v : Word) : (v == 0) = true ↔ v.toNat = 0 := by
  rw [beq_iff_eq, BitVec.toNat_eq]
  rfl

/-- A flag's values. -/
theorem outside_flag (v : Word) : outside 0 1 v = false ↔ v.toNat ≤ 1 := by simp [outside]

/-- Settles O34: each parameter's range, and the field it writes. -/
theorem lineParametersWritten : Obligations.LineParametersWritten := by
  unfold Obligations.LineParametersWritten
  intro tag v s n u refused
  have wrote {bad : Bool} {good : Prop} [Decidable good] (isGood : bad = false ↔ good) (write : State → State) :
      Host.Outcome.next (setParam tag [(bad, .range)] write s) = (.next (if good then write u else refused) : Result) :=
    congrArg Host.Outcome.next (setParam_of_range isGood tag write s)
  have route : u.route = s.route := answer_route _ _ _ _
  have deposit : u.deposit = s.deposit := answer_deposit _ _ _ _
  refine ⟨?_, ?_, ?_, ?_, ?_, ?_, ?_, ?_, ?_⟩
  · rw [← route]
    refine wrote ?_ _
    rw [Bool.or_eq_false_iff, outside_eq_false_iff, decide_eq_false_iff_not, Nat.not_lt, and_assoc, route]
  · rw [← route]
    refine wrote ?_ _
    rw [Bool.or_eq_false_iff, outside_eq_false_iff, decide_eq_false_iff_not, Nat.not_lt, and_assoc, route]
  · rw [← deposit, ← beq_one_eq]
    exact wrote (outside_flag v) _
  · refine wrote ?_ _
    rw [Bool.or_eq_false_iff, outside_eq_false_iff, Bool.and_eq_false_imp]
    simp [n]
  · exact wrote (outside_eq_false_iff 10 2000 v) _
  · exact wrote (outside_eq_false_iff 100 5000 v) _
  · rw [← beq_one_eq]
    exact wrote (outside_flag v) _
  · rw [← beq_one_eq]
    exact wrote (outside_flag v) _
  · have mask : BitVec.ofNat 26 n = v.extractLsb' 0 26 := by
      refine BitVec.eq_of_toNat_eq ?_
      rw [BitVec.toNat_ofNat, BitVec.extractLsb'_toNat, Nat.shiftRight_zero]
    rw [mask]
    refine wrote ?_ _
    rw [outside_eq_false_iff]
    simp only [n, Nat.zero_le, true_and]
    omega

/-! ### Parameters of a group (R107) -/

theorem modifyGroup_answer (g : GroupNo) (f : GroupRec → GroupRec) (tag code : Byte) (detail : Detail) (s : State) :
    modifyGroup g f (answer tag code detail s) =
      { answer tag code detail s with group := { s.group with groups := s.group.groups.set g (f (groupAt g s)) } } := by
  rw [modifyGroup, putGroup, groupAt, answer_group]
  rfl

theorem accumulating_iff (g : GroupNo) (s : State) :
    accumulating g s = true ↔ ∃ (i : Fin 16) (a : Accumulator), s.group.accs[i] = some a ∧ a.group = g := by
  rw [accumulating, List.any_eq_true]
  constructor
  · rintro ⟨entry, isIn, keyed⟩
    obtain ⟨i, inRange, rfl⟩ := List.getElem_of_mem isIn
    rw [Vector.length_toList] at inRange
    obtain ⟨a, isEntry, isGroup⟩ := Option.any_eq_true _ _ |>.mp keyed
    exact ⟨⟨i, inRange⟩, a, by simpa using isEntry, beq_iff_eq.mp isGroup⟩
  · rintro ⟨i, a, isEntry, isGroup⟩
    refine ⟨some a, ?_, by simp [isGroup]⟩
    rw [← isEntry]
    simp

theorem openCount_congr {k : GroupNo} {s t : State} (members : (groupAt k t).members = (groupAt k s).members) (pocket : t.pocket = s.pocket) :
    openCount k t = openCount k s := by
  simp only [openCount, members, pocketAt, pocket]

/-- The count above which the low warning is armed: the OPEN enabled members. -/
theorem setArm_modifyGroup (g : GroupNo) (low : Nat) (tag code : Byte) (detail : Detail) (s : State) :
    setArm g (modifyGroup g (fun r => { r with lowThreshold := low }) (answer tag code detail s)) =
      { answer tag code detail s with group := { s.group with
          groups := s.group.groups.set g { groupAt g s with lowThreshold := low, armed := decide (low < openCount g s) } } } := by
  have members : (groupAt g (modifyGroup g (fun r => { r with lowThreshold := low }) (answer tag code detail s))).members =
      (groupAt g s).members := by
    rw [modifyGroup, groupAt_putGroup, if_pos rfl, groupAt, answer_group]
    rfl
  have count : openCount g (modifyGroup g (fun r => { r with lowThreshold := low }) (answer tag code detail s)) = openCount g s :=
    openCount_congr members (answer_pocket _ _ _ _)
  rw [setArm, count, modifyGroup_answer]
  simp only [putGroup, groupAt, State.setGroup, Fin.getElem_fin, Vector.getElem_set_self, Vector.set_set]

/-- Settles O35: each parameter's range, and the field and the cause it writes. -/
theorem groupParametersWritten : Obligations.GroupParametersWritten := by
  unfold Obligations.GroupParametersWritten
  intro tag g v s n u refused put freed open_
  have wrote {bad : Bool} {good : Prop} [Decidable good] (isGood : bad = false ↔ good) (write : State → State) :
      Host.Outcome.next (setParam tag [(bad, .range)] write s) = (.next (if good then write u else refused .range) : Result) :=
    congrArg Host.Outcome.next (setParam_of_range isGood tag write s)
  have modified (f : GroupRec → GroupRec) : modifyGroup g f u = put (f (groupAt g s)) := modifyGroup_answer g f _ _ _ s
  have ended (t : State) : endCause (.groupFull g) t = freed t := rfl
  refine ⟨?_, ?_, ?_, ?_, ?_, ?_, ?_, ?_⟩
  · rw [← modified fun r => { r with strap := n }]
    exact wrote (outside_eq_false_iff 1 200 v) _
  · rw [← ended, ← modified fun r => { r with denomPure := n == 1 }, ← beq_one_eq]
    exact wrote (outside_flag v) _
  · rw [← ended, ← modified fun r => { r with depositPure := n == 1 }, ← beq_one_eq]
    exact wrote (outside_flag v) _
  · intro bad
    have refusal : firstRefusal [(outside 0 20 v || v == 1, .range), (accumulating g s, .state)] = some .range := by
      have faulty : (outside 0 20 v || v == 1) = true := by
        rw [Bool.or_eq_true, beq_one_eq]
        refine bad.imp (fun above => ?_) beq_iff_eq.mpr
        simp [outside, above, n] at above ⊢
      rw [firstRefusal_cons, faulty]
      rfl
    exact congrArg Host.Outcome.next (request_of_refusal refusal _ _ _ _ s)
  · intro small notOne used
    have sound : (outside 0 20 v || v == 1) = false := by
      rw [Bool.or_eq_false_iff, outside_eq_false_iff, beq_one_eq]
      exact ⟨⟨Nat.zero_le _, small⟩, beq_false_of_ne notOne⟩
    have refusal : firstRefusal [(outside 0 20 v || v == 1, .range), (accumulating g s, .state)] = some .state := by
      rw [firstRefusal_cons, sound, firstRefusal_cons, (accumulating_iff g s).mpr used]
      rfl
    exact congrArg Host.Outcome.next (request_of_refusal refusal _ _ _ _ s)
  · intro small notOne unused
    have sound : (outside 0 20 v || v == 1) = false := by
      rw [Bool.or_eq_false_iff, outside_eq_false_iff, beq_one_eq]
      exact ⟨⟨Nat.zero_le _, small⟩, beq_false_of_ne notOne⟩
    have free : accumulating g s = false := by
      rw [← Bool.not_eq_true, accumulating_iff]
      rintro ⟨i, a, isEntry, isGroup⟩
      exact unused i a isEntry isGroup
    have pass : firstRefusal [(outside 0 20 v || v == 1, .range), (accumulating g s, .state)] = none := by
      rw [firstRefusal_cons, sound, firstRefusal_cons, free]
      rfl
    rw [← modified fun r => { r with brickSize := n }]
    exact congrArg Host.Outcome.next (request_of_pass pass _ _ _ _ s)
  · have armed : setArm g (modifyGroup g (fun r => { r with lowThreshold := n }) u) =
        put { groupAt g s with lowThreshold := n, armed := decide (n < open_) } := setArm_modifyGroup g n _ _ _ s
    rw [← armed]
    refine wrote ?_ _
    rw [outside_eq_false_iff]
    simp [n]
  · refine (wrote (outside_flag v) _).trans (congrArg Host.Outcome.next ?_)
    by_cases zero : n = 0
    · have isZero : (v == 0) = true := (beq_zero_eq_true_iff v).mpr zero
      have small : v.toNat ≤ 1 := by omega
      rw [if_pos small, if_pos zero, ← modified fun r => { r with overflow := .runOut }, ← ended]
      simp only [isZero, if_true]
    · have notZero : (v == 0) = false := Bool.eq_false_iff.mpr (mt (beq_zero_eq_true_iff v).mp zero)
      rw [if_neg zero]
      by_cases one : n = 1
      · have small : v.toNat ≤ 1 := by omega
        rw [if_pos small, if_pos one, ← modified fun r => { r with overflow := .halt }]
        simp only [notZero, Bool.false_eq_true, if_false]
      · have large : ¬ v.toNat ≤ 1 := by omega
        rw [if_neg large, if_neg one]

end Sys2Proof.Machine
end

section
/-! SUPPORT. The quarantine pocket selected, limited and released (R95, R96, R98). -/

set_option Elab.async false

namespace Sys2Proof.Machine

/-! ### QUARANTINE_POCKET (R95) -/

/-- Whether the quarantine pocket holds anything. -/
def quarantineHeld (s : State) : Bool := s.pocket.quarantine.any fun q => 0 < (pocketAt q s).committed || s.pocket.manifest != []

/-- The checks of a QUARANTINE_POCKET. -/
def selectChecks (v : Word) (new : Option Gate) (s : State) : List (Bool × RefusalReason) :=
  [(outside 0 15 v, .range), (s.line.state != .idle, .state), (new.any fun g => (groupOf g s).isSome, .duplicate),
   (new != s.pocket.quarantine && quarantineHeld s, .state)]

theorem exec_setParamQuarantinePocket (tag : Byte) (v : Word) (s : State) : exec (.setParamQuarantinePocket tag v) s =
    .next (request tag 0x01 (selectChecks v (gateOfByte (v.extractLsb' 0 8)) s) .none
      (selectQuarantine (gateOfByte (v.extractLsb' 0 8))) s) := rfl

theorem gateOfByte_of_value {v : Word} {new : Option Gate} (named : v.toNat = (new.map fun g => g.val + 1).getD 0) :
    gateOfByte (v.extractLsb' 0 8) = new := by
  have low : (v.extractLsb' 0 8).toNat = v.toNat % 256 := by rw [BitVec.extractLsb'_toNat, Nat.shiftRight_zero]
  cases new with
  | none =>
    have zero : v.toNat = 0 := named
    rw [gateOfByte, dif_neg (by rw [low]; omega)]
  | some g =>
    have value : v.toNat = g.val + 1 := named
    have small := g.isLt
    rw [gateOfByte, dif_pos (by rw [low]; omega)]
    refine congrArg some (Fin.ext ?_)
    show (v.extractLsb' 0 8).toNat - 1 = g.val
    rw [low]
    omega

theorem value_le_of_named {v : Word} {new : Option Gate} (named : v.toNat = (new.map fun g => g.val + 1).getD 0) : v.toNat ≤ 15 := by
  cases new with
  | none => exact named.trans_le (Nat.zero_le _)
  | some g =>
    have value : v.toNat = g.val + 1 := named
    have small := g.isLt
    omega

theorem outside_of_above {v : Word} {high : Nat} (above : high < v.toNat) : outside 0 high v = true := by simp [outside, above]

theorem outside_of_within {v : Word} {high : Nat} (small : v.toNat ≤ high) : outside 0 high v = false :=
  (outside_eq_false_iff 0 high v).mpr ⟨Nat.zero_le _, small⟩

theorem quarantineHeld_eq_false_iff (s : State) : quarantineHeld s = false ↔
    ∀ q, s.pocket.quarantine = some q → (pocketAt q s).committed = 0 ∧ s.pocket.manifest = [] := by
  rw [quarantineHeld]
  cases s.pocket.quarantine <;> simp

theorem pocketAt_answer (g : Gate) (tag code : Byte) (detail : Detail) (s : State) : pocketAt g (answer tag code detail s) = pocketAt g s := by
  rw [pocketAt, answer_pocket]
  rfl

/-- Settles O36: the checks in their order, then the former and the new quarantine pocket's records. -/
theorem quarantinePocketSelected : Obligations.QuarantinePocketSelected := by
  unfold Obligations.QuarantinePocketSelected
  intro tag v s run u refused
  refine ⟨fun above => ?_, fun small busy => ?_, fun new named idle => ⟨?_, fun free => ⟨fun same => ?_, fun q isQ changed held => ?_,
    fun changed empty => ?_⟩⟩⟩
  · refine congrArg Host.Outcome.next (request_of_refusal ?_ _ _ _ _ s)
    rw [firstRefusal_cons, outside_of_above above]
    rfl
  · refine congrArg Host.Outcome.next (request_of_refusal ?_ _ _ _ _ s)
    rw [firstRefusal_cons, outside_of_within small, firstRefusal_cons, bne_iff_ne.mpr busy]
    rfl
  all_goals
    have isNew := gateOfByte_of_value named
    have small := outside_of_within (value_le_of_named named)
    have isIdle : (s.line.state != .idle) = false := by rw [idle]; rfl
  · rintro ⟨g, k, rfl, isMember⟩
    refine congrArg Host.Outcome.next (request_of_refusal ?_ _ _ _ _ s)
    rw [isNew, small, isIdle]
    simp [isMember]
  all_goals
    have isFree : (new.any fun g => (groupOf g s).isSome) = false := by
      cases isGate : new with
      | none => rfl
      | some g => simp [free g isGate]
  · have unchanged : (new != s.pocket.quarantine) = false := bne_eq_false_iff_eq.mpr same
    have passed : firstRefusal (selectChecks v new s) = none := by
      simp only [selectChecks, firstRefusal_cons, small, isIdle, isFree, unchanged, Bool.false_and, Bool.false_eq_true, if_false,
        firstRefusal_nil]
    refine (exec_setParamQuarantinePocket tag v s).trans (congrArg Host.Outcome.next ?_)
    rw [isNew, request_of_pass passed, selectQuarantine, answer_pocket, if_pos same]
  · have isHeld : quarantineHeld s = true := by
      rw [← Bool.not_eq_false, quarantineHeld_eq_false_iff]
      intro empty
      obtain ⟨none, noManifest⟩ := empty q isQ
      exact held.elim (fun some => by omega) fun some => some noManifest
    have other : (new != s.pocket.quarantine) = true := bne_iff_ne.mpr (isQ ▸ changed)
    have refusal : firstRefusal (selectChecks v new s) = some .state := by
      simp only [selectChecks, firstRefusal_cons, small, isIdle, isFree, other, isHeld, Bool.and_self, Bool.false_eq_true, if_false, if_true]
    refine (exec_setParamQuarantinePocket tag v s).trans (congrArg Host.Outcome.next ?_)
    rw [isNew, request_of_refusal refusal]
  · have passed : firstRefusal (selectChecks v new s) = none := by
      simp only [selectChecks, firstRefusal_cons, small, isIdle, isFree, (quarantineHeld_eq_false_iff s).mpr empty, Bool.and_false,
        Bool.false_eq_true, if_false, firstRefusal_nil]
    have quarantine : u.pocket.quarantine = s.pocket.quarantine := by rw [answer_pocket]
    have changed' : new ≠ u.pocket.quarantine := quarantine ▸ changed
    have unit := selectQuarantine_eq changed'
    have record := pocketAt_selectQuarantine changed'
    have selected : run = .next (selectQuarantine new u) := by
      refine (exec_setParamQuarantinePocket tag v s).trans (congrArg Host.Outcome.next ?_)
      rw [isNew, request_of_pass passed]
    simp only [u, quarantine, pocketAt_answer, answer_pocket] at unit record
    generalize selectQuarantine new u = t at unit record selected
    have pocket : t.pocket = { s.pocket with pockets := t.pocket.pockets, quarantine := new, manifest := [] } := by rw [unit]; rfl
    refine ⟨t, selected, by rw [pocket]; exact unit, by rw [pocket], by rw [pocket], pocket, fun q isQ => ?_, fun q isQ => ?_,
      fun g notOld notNew => ?_⟩
    · rw [record, if_neg fun isNew => changed (isNew.trans isQ.symm), if_pos isQ]
    · rw [record, if_pos isQ]
    · rw [record, if_neg notNew, if_neg notOld]

/-! ### QUARANTINE_LIMIT (R96) -/

/-- The quarantine limit written, the pocket's state not yet. -/
def limited (limit : Nat) (s : State) : State := s.setPocket { s.pocket with limit := limit }

theorem setQuarantineLimit_of_none {s : State} (none : s.pocket.quarantine = none) (limit : Nat) :
    setQuarantineLimit limit s = limited limit s := by
  simp only [setQuarantineLimit]
  split
  next => rfl
  next q isQ => cases none.symm.trans isQ

theorem setQuarantineLimit_of_some {s : State} {q : Gate} (isQ : s.pocket.quarantine = some q) (limit : Nat) :
    setQuarantineLimit limit s =
      if (pocketAt q s).state = .openState ∧ (pocketAt q s).committed = limit then
        raiseCause .quarantineFull (putPocket q { pocketAt q s with state := .full } (limited limit s))
      else if (pocketAt q s).state = .full ∧ (pocketAt q s).committed < limit then
        endCause .quarantineFull (putPocket q { pocketAt q s with state := .openState } (limited limit s))
      else limited limit s := by
  simp only [setQuarantineLimit]
  split
  next none => cases none.symm.trans isQ
  next q' isQ' =>
    obtain rfl := Option.some.inj (isQ.symm.trans isQ')
    rfl

theorem setQuarantineLimit_of_reached {s : State} {q : Gate} {limit : Nat} (isQ : s.pocket.quarantine = some q)
    (isOpen : (pocketAt q s).state = .openState) (reached : (pocketAt q s).committed = limit) :
    setQuarantineLimit limit s = raiseCause .quarantineFull (putPocket q { pocketAt q s with state := .full } (limited limit s)) := by
  rw [setQuarantineLimit_of_some isQ, if_pos ⟨isOpen, reached⟩]

theorem setQuarantineLimit_of_raised {s : State} {q : Gate} {limit : Nat} (isQ : s.pocket.quarantine = some q)
    (isFull : (pocketAt q s).state = .full) (below : (pocketAt q s).committed < limit) :
    setQuarantineLimit limit s = endCause .quarantineFull (putPocket q { pocketAt q s with state := .openState } (limited limit s)) := by
  have notOpen : ¬ ((pocketAt q s).state = .openState ∧ (pocketAt q s).committed = limit) := by simp [isFull]
  rw [setQuarantineLimit_of_some isQ, if_neg notOpen, if_pos ⟨isFull, below⟩]

theorem setQuarantineLimit_of_same {s : State} {q : Gate} {limit : Nat} (isQ : s.pocket.quarantine = some q)
    (same : (pocketAt q s).committed = limit ∧ (pocketAt q s).state = .full ∨
      (pocketAt q s).committed < limit ∧ (pocketAt q s).state = .openState) : setQuarantineLimit limit s = limited limit s := by
  have notReached : ¬ ((pocketAt q s).state = .openState ∧ (pocketAt q s).committed = limit) := by
    obtain ⟨-, isFull⟩ | ⟨below, -⟩ := same
    · simp [isFull]
    · omega
  have notRaised : ¬ ((pocketAt q s).state = .full ∧ (pocketAt q s).committed < limit) := by
    obtain ⟨reached, -⟩ | ⟨-, isOpen⟩ := same
    · omega
    · simp [isOpen]
  rw [setQuarantineLimit_of_some isQ, if_neg notReached, if_neg notRaised]

/-- Whether a limit lies below the quarantine pocket's committed count. -/
def belowCommitted (v : Word) (s : State) : Bool := s.pocket.quarantine.any fun q => v.toNat < (pocketAt q s).committed

theorem exec_setParamQuarantineLimit (tag : Byte) (v : Word) (s : State) : exec (.setParamQuarantineLimit tag v) s =
    .next (setParam tag [(outside 1 64 v || belowCommitted v s, .range)] (setQuarantineLimit v.toNat) s) := rfl

theorem exec_setParamQuarantineLimit_of_refused {v : Word} {s : State}
    (bad : (v.toNat < 1 ∨ 64 < v.toNat) ∨ belowCommitted v s = true) (tag : Byte) :
    exec (.setParamQuarantineLimit tag v) s = .next (refuse tag 0x01 .range s) := by
  have faulty : (outside 1 64 v || belowCommitted v s) = true := by
    rw [Bool.or_eq_true]
    exact bad.imp_left (by simp [outside])
  rw [exec_setParamQuarantineLimit, setParam, request_of_refusal (by rw [firstRefusal_cons, faulty]; rfl)]

theorem exec_setParamQuarantineLimit_of_passed {v : Word} {s : State} (low : 1 ≤ v.toNat) (high : v.toNat ≤ 64)
    (sound : belowCommitted v s = false) (tag : Byte) :
    exec (.setParamQuarantineLimit tag v) s = .next (setQuarantineLimit v.toNat (answer tag 0x01 .none s)) := by
  have passed : (outside 1 64 v || belowCommitted v s) = false := by
    rw [Bool.or_eq_false_iff, outside_eq_false_iff]
    exact ⟨⟨low, high⟩, sound⟩
  rw [exec_setParamQuarantineLimit, setParam, request_of_pass (by rw [firstRefusal_cons, passed]; rfl)]

/-! ### QUARANTINE_RELEASE (R98) -/

theorem exec_quarantineRelease_of_none {s : State} (none : s.pocket.quarantine = none) (tag : Byte) :
    exec (.quarantineRelease tag) s = .next (refuse tag 0x38 .notFound s) := by
  show execQuarantineRelease tag s = _
  simp only [execQuarantineRelease, none]
  rfl

theorem exec_quarantineRelease_of_some {s : State} {q : Gate} (isQ : s.pocket.quarantine = some q) (tag : Byte) :
    exec (.quarantineRelease tag) s =
      .next (request tag 0x38 [(0 < (pocketAt q s).inFlight, .state)] .none (emptyQuarantine q true) s) := by
  show execQuarantineRelease tag s = _
  simp only [execQuarantineRelease, isQ]

/-- The quarantine pocket emptied: its report, its record, its manifest, and QUARANTINE_FULL where it was FULL. -/
theorem emptyQuarantine_eq (q : Gate) (released : Bool) (s : State) :
    let r := pocketAt q s
    let w := emit (.quarantine { pocket := q, released := released, count := r.confirmed, manifest := s.pocket.manifest
                                 recount := r.recount, limit := s.pocket.limit }) s
    let t : State := { w with pocket := { s.pocket with
      manifest := [], pockets := s.pocket.pockets.set q { r with committed := 0, confirmed := 0, recount := false, state := .openState } } }
    emptyQuarantine q released s = if r.state = .full then endCause .quarantineFull t else t := by
  intro r w t
  have pocket : w.pocket = s.pocket := emit_pocket _ _
  have emptied : (putPocket q { r with committed := 0, confirmed := 0, recount := false, state := .openState } w).setPocket
      { (putPocket q { r with committed := 0, confirmed := 0, recount := false, state := .openState } w).pocket with manifest := [] } = t := by
    rw [putPocket, pocket]
    rfl
  rw [← emptied]
  rfl

/-- Settles O37: the limit by the committed count and the pocket's state; the release by its two checks. -/
theorem quarantineLimitAndRelease : Obligations.QuarantineLimitAndRelease := by
  unfold Obligations.QuarantineLimitAndRelease
  intro tag v s n run u lim put freed
  have quarantine : u.pocket.quarantine = s.pocket.quarantine := by rw [answer_pocket]
  have record (q : Gate) : pocketAt q u = pocketAt q s := pocketAt_answer q _ _ _ s
  refine ⟨fun bad => exec_setParamQuarantineLimit_of_refused (.inl bad) tag, fun low high none => ?_, fun q low high isQ => ?_,
    fun none => exec_quarantineRelease_of_none none tag, fun q isQ => ?_⟩
  · have sound : belowCommitted v s = false := by rw [belowCommitted, none]; rfl
    exact (exec_setParamQuarantineLimit_of_passed low high sound tag).trans
      (congrArg Host.Outcome.next (setQuarantineLimit_of_none (quarantine.trans none) n))
  · intro r
    have isQ' := quarantine.trans isQ
    have passes (within : r.committed ≤ n) : run = .next (setQuarantineLimit n u) := by
      refine exec_setParamQuarantineLimit_of_passed low high ?_ tag
      rw [belowCommitted, isQ]
      exact decide_eq_false (Nat.not_lt.mpr within)
    refine ⟨fun below => exec_setParamQuarantineLimit_of_refused (.inr ?_) tag, fun reached isOpen => ?_, fun below isFull => ?_,
      fun same => ?_⟩
    · rw [belowCommitted, isQ]
      exact decide_eq_true below
    · rw [passes (Nat.le_of_eq reached), setQuarantineLimit_of_reached isQ' (by rw [record]; exact isOpen) (by rw [record]; exact reached),
        record]
      rfl
    · rw [passes (Nat.le_of_lt below), setQuarantineLimit_of_raised isQ' (by rw [record]; exact isFull) (by rw [record]; exact below), record]
      rfl
    · have within : r.committed ≤ n := same.elim (fun ⟨reached, _⟩ => Nat.le_of_eq reached) fun ⟨below, _⟩ => Nat.le_of_lt below
      rw [passes within, setQuarantineLimit_of_same isQ' (by rw [record]; exact same)]
      rfl
  · intro r
    refine ⟨fun flying => ?_, fun grounded => ?_⟩
    · have inFlight : decide (0 < (pocketAt q s).inFlight) = true := decide_eq_true (Nat.sub_pos_of_lt flying)
      rw [exec_quarantineRelease_of_some isQ, request_of_refusal (by rw [firstRefusal_cons, inFlight]; rfl)]
    · have inFlight : decide (0 < (pocketAt q s).inFlight) = false := by
        refine decide_eq_false ?_
        show ¬ 0 < r.committed - r.confirmed
        omega
      rw [exec_quarantineRelease_of_some isQ, request_of_pass (by rw [firstRefusal_cons, inFlight]; rfl), emptyQuarantine_eq,
        pocketAt_answer, answer_pocket]
      rfl

end Sys2Proof.Machine
end

section
/-! SUPPORT. Groups defined, pockets enabled, the count of OPEN members taken again (R108, R111 to R114). -/

set_option Elab.async false

namespace Sys2Proof.Machine

/-! ### GROUP_DEFINE (R108) -/

theorem groupOfByte_of_named {b : Byte} {k : GroupNo} (named : b.toNat = k) : groupOfByte b = some k := by
  have small : b.toNat < 8 := named ▸ k.isLt
  rw [groupOfByte, dif_pos small]
  exact congrArg some (Fin.ext named)

theorem groupOfByte_of_above {b : Byte} (above : 7 < b.toNat) : groupOfByte b = none := by
  rw [groupOfByte, dif_neg (by omega)]

theorem exists_groupOfByte {b : Byte} (small : b.toNat ≤ 7) : ∃ k : GroupNo, b.toNat = k :=
  ⟨⟨b.toNat, by omega⟩, rfl⟩

theorem gateOfByte_of_named {b : Byte} {g : Gate} (named : b.toNat = g.val + 1) : gateOfByte b = some g := by
  have small := g.isLt
  rw [gateOfByte, dif_pos (by omega)]
  exact congrArg some (Fin.ext (by simp only; omega))

theorem gateOfByte_of_outside {b : Byte} (outside : b = 0 ∨ 15 < b.toNat) : gateOfByte b = none := by
  rw [gateOfByte, dif_neg]
  rintro ⟨low, high⟩
  obtain rfl | above := outside
  · exact absurd low (by decide)
  · omega

theorem gatesOfBytes_of_named : ∀ {bytes : List Byte} {gates : List Gate}, bytes.map (·.toNat) = gates.map (fun g => g.val + 1) →
    gatesOfBytes bytes = some gates
  | [], [], _ => rfl
  | [], _ :: _, named => by simp at named
  | _ :: _, [], named => by simp at named
  | b :: bytes, g :: gates, named => by
    obtain ⟨head, rest⟩ := List.cons.inj named
    have tail : bytes.mapM gateOfByte = some gates := gatesOfBytes_of_named rest
    simp [gatesOfBytes, gateOfByte_of_named head, tail]

theorem named_of_gateOfByte {b : Byte} {g : Gate} (isGate : gateOfByte b = some g) : b.toNat = g.val + 1 := by
  rw [gateOfByte] at isGate
  split at isGate
  next inRange =>
    have same := Option.some.inj isGate
    rw [← same]
    simp only
    omega
  next => cases isGate

theorem named_of_gatesOfBytes : ∀ {bytes : List Byte} {gates : List Gate}, gatesOfBytes bytes = some gates →
    bytes.map (·.toNat) = gates.map (fun g => g.val + 1)
  | [], gates, isGates => by
    cases isGates
    rfl
  | b :: bytes, gates, isGates => by
    obtain ⟨g, isGate, rest, isRest, rfl⟩ : ∃ g, gateOfByte b = some g ∧ ∃ rest, bytes.mapM gateOfByte = some rest ∧ g :: rest = gates := by
      simpa [gatesOfBytes, Option.bind_eq_some_iff] using isGates
    simp [named_of_gateOfByte isGate, named_of_gatesOfBytes isRest]

theorem exec_groupDefine_of_unread {group : Byte} {pockets : List Byte} (unread : groupOfByte group = none ∨ gatesOfBytes pockets = none)
    (tag : Byte) (s : State) : exec (.groupDefine tag group pockets) s = .next (refuse tag 0x30 .range s) := by
  show execGroupDefine tag group pockets s = _
  unfold execGroupDefine
  split
  next k gates isGroup isGates => simp [isGroup, isGates] at unread
  next => rfl

theorem exec_groupDefine_of_read {group : Byte} {pockets : List Byte} {k : GroupNo} {gates : List Gate} (isGroup : groupOfByte group = some k)
    (isGates : gatesOfBytes pockets = some gates) (tag : Byte) (s : State) :
    exec (.groupDefine tag group pockets) s = .next (request tag 0x30 (defineChecks k gates s) .none (defineGroup k gates) s) := by
  show execGroupDefine tag group pockets s = _
  simp only [execGroupDefine, isGroup, isGates]

/-- The member count and the repetition of a GROUP_DEFINE that is refused RANGE with its bytes read. -/
theorem nodup_of_named {bytes : List Byte} {gates : List Gate} (named : bytes.map (·.toNat) = gates.map (fun g => g.val + 1)) :
    gates.Nodup ↔ bytes.Nodup := by
  have one : (gates.map fun g => g.val + 1).Nodup ↔ gates.Nodup :=
    List.nodup_map_iff fun a b same => Fin.ext (Nat.succ.inj same)
  have two : (bytes.map (·.toNat)).Nodup ↔ bytes.Nodup := List.nodup_map_iff fun a b same => BitVec.eq_of_toNat_eq same
  rw [← one, ← two, named]

theorem putGroup_putGroup (k : GroupNo) (r r' : GroupRec) (s : State) : putGroup k r (putGroup k r' s) = putGroup k r s := by
  simp only [putGroup, State.setGroup_group, State.setGroup_setGroup, Vector.set_set]

/-- A group's OPEN enabled members after its definition are the enabled pockets listed. -/
theorem openCount_definePockets (k : GroupNo) (gates : List Gate) (s : State) (r : GroupRec) (members : r.members = gates) :
    openCount k (putGroup k r (definePockets k gates s)) = gates.countP fun g => (pocketAt g s).enabled := by
  rw [openCount, groupAt_putGroup, if_pos rfl, members]
  refine List.countP_congr fun g inGates => ?_
  have record : pocketAt g (putGroup k r (definePockets k gates s)) = PocketRec.fresh .openState (pocketAt g s).enabled := by
    refine (pocketAt_definePockets k gates g s).trans ?_
    rw [if_pos inGates]
  rw [record]
  simp [PocketRec.fresh]

/-- Settles O39: the five checks in their order, then the definition's records. -/
theorem groupDefined : Obligations.GroupDefined := by
  unfold Obligations.GroupDefined
  intro tag group pockets s run refused
  refine ⟨fun bad => ?_, fun k gates isGroup named few once => ?_⟩
  · cases isGroup : groupOfByte group with
    | none => exact exec_groupDefine_of_unread (.inl isGroup) tag s
    | some k =>
      cases isGates : gatesOfBytes pockets with
      | none => exact exec_groupDefine_of_unread (.inr isGates) tag s
      | some gates =>
        have named := named_of_gatesOfBytes isGates
        have sameLength : gates.length = pockets.length := by simpa using (congrArg List.length named).symm
        have faulty : (8 < gates.length || repeats gates) = true := by
          rw [Bool.or_eq_true, decide_eq_true_eq, sameLength, ← Bool.not_eq_false, repeats_eq_false_iff, nodup_of_named named]
          obtain above | many | twice | ⟨b, isIn, outside⟩ := bad
          · rw [groupOfByte_of_above above] at isGroup
            cases isGroup
          · exact .inl many
          · exact .inr twice
          · have isNat : b.toNat ∈ gates.map (fun g => g.val + 1) := named ▸ List.mem_map_of_mem isIn
            obtain ⟨g, -, value⟩ := List.mem_map.mp isNat
            have small := g.isLt
            obtain rfl | above := outside
            · cases value
            · omega
        rw [show run = _ from exec_groupDefine_of_read isGroup isGates tag s,
          request_of_refusal (by rw [defineChecks, firstRefusal_cons, faulty]; rfl)]
  · intro elsewhere held gathering
    have isRun : run = .next (request tag 0x30 (defineChecks k gates s) .none (defineGroup k gates) s) :=
      exec_groupDefine_of_read (groupOfByte_of_named isGroup) (gatesOfBytes_of_named named) tag s
    have range : (8 < gates.length || repeats gates) = false := by
      rw [Bool.or_eq_false_iff, repeats_eq_false_iff]
      exact ⟨decide_eq_false (Nat.not_lt.mpr few), once⟩
    have duplicate : (gates.any fun g => belongsElsewhere k g s) = true ↔ elsewhere := by
      rw [List.any_eq_true]
      refine exists_congr fun g => and_congr_right fun _ => ?_
      rw [belongsElsewhere, Bool.or_eq_true, Option.any_eq_true, beq_iff_eq]
      simp only [bne_iff_ne, and_comm]
    have holding : ((gates ++ (groupAt k s).members).any fun g => holdsNotes g s) = true ↔ held := by
      rw [List.any_eq_true]
      refine exists_congr fun g => ?_
      rw [List.mem_append, holdsNotes, Bool.or_eq_true, decide_eq_true_eq, decide_eq_true_eq]
    refine ⟨fun busy => ?_, fun idle isElsewhere => ?_, fun idle free taken => ?_, fun idle free empty unused => ?_⟩
    · rw [isRun, request_of_refusal (reason := .state)]
      rw [defineChecks, firstRefusal_cons, range, firstRefusal_cons, bne_iff_ne.mpr busy]
      rfl
    · rw [isRun, request_of_refusal (reason := .duplicate)]
      rw [defineChecks, firstRefusal_cons, range, firstRefusal_cons, idle, firstRefusal_cons, duplicate.mpr isElsewhere]
      rfl
    · rw [isRun, request_of_refusal (reason := .state)]
      simp only [defineChecks, firstRefusal_cons, range, idle, mt duplicate.mp free, bne_self_eq_false, Bool.false_eq_true, if_false,
        firstRefusal_nil]
      obtain isHeld | isUsed := taken
      · rw [if_pos (holding.mpr isHeld)]
      · rw [if_pos ((accumulating_iff k s).mpr isUsed), ite_self]
    · intro u
      have passed : firstRefusal (defineChecks k gates s) = none := by
        simp only [defineChecks, firstRefusal_cons, range, idle, mt duplicate.mp free, mt holding.mp empty, mt (accumulating_iff k s).mp unused,
          bne_self_eq_false, Bool.false_eq_true, if_false, firstRefusal_nil]
      have record (h : Gate) := pocketAt_defineGroup k gates h u
      have sameMembers : (groupAt k s).members = (groupAt k u).members := by rw [groupAt, groupAt, answer_group]
      have unit : (defineGroup k gates u) = { u with
          pocket := { s.pocket with pockets := (defineGroup k gates u).pocket.pockets }
          group := { s.group with groups := s.group.groups.set k { groupAt k s with
            members := gates, current := gates.head?
            armed := decide ((groupAt k s).lowThreshold < gates.countP fun g => (pocketAt g s).enabled) } }
          line := { u.line with causes := { u.line.causes with groupFull := u.line.causes.groupFull.set k false } } } := by
        have sameGroup : groupAt k (definePockets k gates u) = groupAt k s := by
          rw [groupAt_definePockets, groupAt, answer_group]
          rfl
        have count := openCount_definePockets k gates u { groupAt k s with members := gates, current := gates.head? } rfl
        simp only [u, pocketAt_answer] at count
        rw [defineGroup_pocket, defineGroup_unfold, sameGroup, setArm, groupAt_putGroup, if_pos rfl]
        simp only [u, count, putGroup_putGroup]
        have pockets := definePockets_eq k gates (answer tag 0x30 .none s)
        generalize definePockets k gates (answer tag 0x30 .none s) = p at pockets ⊢
        rw [answer_pocket] at pockets
        have group : p.group = s.group := by rw [pockets, State.setPocket_group, answer_group]
        rw [putGroup, group]
        conv_lhs => rw [pockets]
        rfl
      refine ⟨_, isRun.trans (congrArg Host.Outcome.next (request_of_pass passed _ _ _ _ s)), unit, fun g inGates => ?_,
        fun g isMember notGates => ?_, fun g notGates notMember => ?_⟩
      · rw [record, if_pos inGates, pocketAt_answer]
      · rw [record, if_neg notGates, if_pos (sameMembers ▸ isMember), pocketAt_answer]
      · rw [record, if_neg notGates, if_neg (sameMembers ▸ notMember), pocketAt_answer]

end Sys2Proof.Machine
end

section
/-! SUPPORT. A member's place in a group: the count taken again, changes of state, placement and commitment (R81, R82, R96, R109 to R114). -/

set_option Elab.async false

namespace Sys2Proof.Machine

/-! ### What a report leaves of the line (R196) -/

/-- A report and the BACKLOG it sets change no GROUP_FULL cause. -/
theorem Reported.groupFull {s t : State} (reported : Reported s t) : t.line.causes.groupFull = s.line.causes.groupFull := by
  obtain ⟨-, same | ⟨-, causes, -⟩, -⟩ := reported
  · rw [same]
  · rw [causes]
    rfl

/-- Outside RUN and DRAIN a report does not move the line. -/
theorem Reported.state {s t : State} (reported : Reported s t) (still : s.line.state ≠ .run ∧ s.line.state ≠ .drain) :
    t.line.state = s.line.state := by
  obtain ⟨-, same | ⟨-, -, -, ⟨run, -⟩ | ⟨drain, -⟩ | ⟨-, -, line⟩⟩, -⟩ := reported
  · rw [same]
  · exact absurd run still.1
  · exact absurd drain still.2
  · rw [line]

theorem emit_reported (r : Report) (s : State) : Reported s (emit r s) := (hand_reportWork r s).reported

theorem bump_reported (e : EventTally) (s : State) : Reported s (bump e s) := (bumpQuiet_reportWork (.event e) s).reported

/-! ### Membership (R108) -/

theorem allGroups_get (n : Nat) (inRange : n < allGroups.length) : allGroups[n] = ⟨n, inRange⟩ := allGroups_getElem n inRange

/-- A pocket's group is the first whose list names it. -/
theorem groupOf_eq_some_iff (g : Gate) (k : GroupNo) (s : State) :
    groupOf g s = some k ↔ g ∈ (groupAt k s).members ∧ ∀ j, j < k → g ∉ (groupAt j s).members := by
  rw [groupOf, List.find?_eq_some_iff_getElem, List.contains_iff_mem]
  refine and_congr_right fun _ => ?_
  constructor
  · rintro ⟨i, inRange, isGroup, others⟩ j below isMember
    rw [allGroups_get] at isGroup
    have before : j.val < i := by
      rw [← isGroup] at below
      exact below
    have other := others j.val before
    rw [allGroups_get] at other
    simp [isMember] at other
  · intro others
    refine ⟨k.val, k.isLt, allGroups_get k.val k.isLt, fun j before => ?_⟩
    rw [allGroups_get]
    simpa using others ⟨j, Nat.lt_trans before k.isLt⟩ before

/-! ### The count taken again (R112, R113) -/

section

variable {k : GroupNo} {s : State}

theorem recountGroup_of_low (armed : (groupAt k s).armed = true) (low : openCount k s ≤ (groupAt k s).lowThreshold) (item : Option Word) :
    recountGroup k item s = emit (groupLowReport k item s) (putGroup k { groupAt k s with armed := false } s) := by
  simp only [recountGroup, if_pos low, if_pos armed]

theorem recountGroup_of_high (disarmed : (groupAt k s).armed = false) (high : (groupAt k s).lowThreshold < openCount k s)
    (item : Option Word) : recountGroup k item s = putGroup k { groupAt k s with armed := true } s := by
  simp only [recountGroup, if_neg (Nat.not_le.mpr high), disarmed, Bool.false_eq_true, if_false]

theorem recountGroup_of_unchanged (right : (groupAt k s).armed = true ↔ (groupAt k s).lowThreshold < openCount k s) (item : Option Word) :
    recountGroup k item s = s := by
  simp only [recountGroup]
  by_cases low : openCount k s ≤ (groupAt k s).lowThreshold
  · rw [if_pos low, if_neg (mt right.mp (Nat.not_lt.mpr low))]
  · rw [if_neg low, if_pos (right.mpr (Nat.not_le.mp low))]

theorem set_groupAt_self (k : GroupNo) (s : State) : s.group.groups.set k (groupAt k s) = s.group.groups := by
  rw [groupAt]
  exact Vector.set_getElem_self _

theorem recountGroup_groupFull (k : GroupNo) (item : Option Word) (s : State) :
    (recountGroup k item s).line.causes.groupFull = s.line.causes.groupFull := by
  simp only [recountGroup]
  split
  · split
    · exact (emit_reported _ _).groupFull
    · rfl
  · split <;> rfl

/-- The arm follows the count; the rest of the group unit stands. -/
theorem recountGroup_group (k : GroupNo) (item : Option Word) (s : State) : (recountGroup k item s).group = { s.group with
    groups := s.group.groups.set k { groupAt k s with armed := decide ((groupAt k s).lowThreshold < openCount k s) } } := by
  have put (armed : Bool) (right : decide ((groupAt k s).lowThreshold < openCount k s) = armed) :
      (putGroup k { groupAt k s with armed := armed } s).group = { s.group with
        groups := s.group.groups.set k { groupAt k s with armed := decide ((groupAt k s).lowThreshold < openCount k s) } } := by
    rw [right]
    rfl
  by_cases low : openCount k s ≤ (groupAt k s).lowThreshold
  · have right : decide ((groupAt k s).lowThreshold < openCount k s) = false := decide_eq_false (Nat.not_lt.mpr low)
    cases armed : (groupAt k s).armed with
    | true => rw [recountGroup_of_low armed low, emit_group, put false right]
    | false =>
      rw [recountGroup_of_unchanged (by simp [armed, low]), right, ← armed, set_groupAt_self]
  · have right : decide ((groupAt k s).lowThreshold < openCount k s) = true := decide_eq_true (Nat.not_le.mp low)
    cases armed : (groupAt k s).armed with
    | true =>
      rw [recountGroup_of_unchanged (by simp [armed, Nat.not_le.mp low]), right, ← armed, set_groupAt_self]
    | false => rw [recountGroup_of_high armed (Nat.not_le.mp low), put true right]

end

/-! ### Changes of state (R103, R111, R112) -/

/-- GROUP_FULL of a group ended where a condition holds. -/
theorem memberChanged_of_none {g : Gate} {s : State} (none : groupOf g s = none) (old : PocketState) (item : Option Word) :
    memberChanged g old item s = s := by
  simp only [memberChanged, none]

theorem memberChanged_of_some {g : Gate} {k : GroupNo} {s : State} (isGroup : groupOf g s = some k) (old : PocketState)
    (item : Option Word) : memberChanged g old item s = if old = (pocketAt g s).state then s
      else recountGroup k item (if (pocketAt g s).state = .openState then endCause (.groupFull k) s else s) := by
  simp only [memberChanged, isGroup]

/-! ### POCKET_ENABLE (R114) -/

/-- A gated pocket's enabled flag set. -/
def withEnabled (g : Gate) (flag : Bool) (s : State) : State := putPocket g { pocketAt g s with enabled := flag } s

theorem enablePocket_of_none {g : Gate} {s : State} (none : groupOf g s = none) (flag : Bool) :
    enablePocket g flag s = withEnabled g flag s := by
  simp only [enablePocket, none]
  rfl

theorem enablePocket_of_some {g : Gate} {k : GroupNo} {s : State} (isGroup : groupOf g s = some k) (flag : Bool) :
    enablePocket g flag s = recountGroup k none
      (if (flag && (pocketAt g s).state == .openState) = true then endCause (.groupFull k) (withEnabled g flag s)
      else withEnabled g flag s) := by
  simp only [enablePocket, isGroup]
  rfl

theorem exec_pocketEnable_of_range {pocket setting : Byte} (outside : pocket = 0 ∨ 15 < pocket.toNat ∨ 1 < setting.toNat) (tag : Byte)
    (s : State) : exec (.pocketEnable tag pocket setting) s = .next (refuse tag 0x32 .range s) := by
  show execPocketEnable tag pocket setting s = _
  unfold execPocketEnable
  split
  next g isGate =>
    have above : 1 < setting.toNat := by
      obtain isOutside | isOutside | above := outside
      · rw [gateOfByte_of_outside (.inl isOutside)] at isGate
        cases isGate
      · rw [gateOfByte_of_outside (.inr isOutside)] at isGate
        cases isGate
      · exact above
    rw [request_of_refusal (by rw [firstRefusal_cons, decide_eq_true above]; rfl)]
  next => rfl

theorem exec_pocketEnable_of_named {pocket setting : Byte} {g : Gate} (named : pocket.toNat = g.val + 1) (flag : setting.toNat ≤ 1) (tag : Byte)
    (s : State) : exec (.pocketEnable tag pocket setting) s = .next (enablePocket g (setting == 1) (answer tag 0x32 .none s)) := by
  show execPocketEnable tag pocket setting s = _
  simp only [execPocketEnable, gateOfByte_of_named named]
  rw [request_of_pass (by rw [firstRefusal_cons, decide_eq_false (Nat.not_lt.mpr flag)]; rfl)]

theorem groupOf_answer (g : Gate) (tag code : Byte) (detail : Detail) (s : State) : groupOf g (answer tag code detail s) = groupOf g s :=
  groupOf_congr (fun k => by rw [groupAt, groupAt, answer_group]) g

theorem groupAt_answer (k : GroupNo) (tag code : Byte) (detail : Detail) (s : State) : groupAt k (answer tag code detail s) = groupAt k s := by
  rw [groupAt, answer_group]
  rfl

/-- What POCKET_ENABLE does at a member. -/
theorem enablePocket_at_member {g : Gate} {k : GroupNo} {s : State} (isGroup : groupOf g s = some k) (flag : Bool) :
    let t := enablePocket g flag s
    t.pocket = (withEnabled g flag s).pocket ∧
    t.group = { s.group with groups := s.group.groups.set k { groupAt k s with
      armed := decide ((groupAt k s).lowThreshold < openCount k t) } } ∧
    (flag = true → (pocketAt g s).state = .openState → t.line.causes.groupFull[k] = false) := by
  intro t
  have isT : t = recountGroup k none (if (flag && (pocketAt g s).state == .openState) = true then
      endCause (.groupFull k) (withEnabled g flag s) else withEnabled g flag s) := enablePocket_of_some isGroup flag
  have ended (freed : State) (isFreed : freed = (if (flag && (pocketAt g s).state == .openState) = true then
      endCause (.groupFull k) (withEnabled g flag s) else withEnabled g flag s)) :
      freed.pocket = (withEnabled g flag s).pocket ∧ freed.group = s.group := by
    rw [isFreed]
    split <;> exact ⟨rfl, rfl⟩
  generalize isFreed : (if (flag && (pocketAt g s).state == .openState) = true then
      endCause (.groupFull k) (withEnabled g flag s) else withEnabled g flag s) = freed at isT
  obtain ⟨pocket, group⟩ := ended freed isFreed.symm
  have pocketT : t.pocket = freed.pocket := by
    rw [isT]
    exact (recountGroup_work k none freed).stands .pocket
  have groupT := recountGroup_group k none freed
  rw [← isT] at groupT
  have members : (groupAt k t).members = (groupAt k freed).members := by
    rw [isT]
    exact (recountGroup_aside k none freed).lists.members k
  have count : openCount k t = openCount k freed := openCount_congr members pocketT
  refine ⟨pocketT.trans pocket, ?_, fun isSet isOpen => ?_⟩
  · rw [groupT, count, groupAt, group]
    rfl
  · have due : (flag && (pocketAt g s).state == .openState) = true := by simp [isSet, isOpen]
    rw [if_pos due] at isFreed
    have same : t.line.causes.groupFull = freed.line.causes.groupFull := by
      rw [isT]
      exact recountGroup_groupFull k none freed
    simp only [same, ← isFreed]
    exact Vector.getElem_set_self _

/-- Settles O41: POCKET_ENABLE, the recount, membership and changes of state. -/
theorem pocketEnabled : Obligations.PocketEnabled := by
  unfold Obligations.PocketEnabled
  refine ⟨fun tag pocket setting s => ⟨fun outside => exec_pocketEnable_of_range outside tag s, fun g named flag => ?_⟩,
    fun k item s => ⟨fun armed low => ?_, fun disarmed high => ?_, fun right => ?_⟩,
    fun g s => ⟨groupOf_eq_none_iff g s, fun k => groupOf_eq_some_iff g k s⟩,
    fun g old item s => ⟨fun none => memberChanged_of_none none old item, fun k isGroup => ⟨fun same => ?_, fun changed => ?_⟩⟩⟩
  · intro u v
    have run : exec (.pocketEnable tag pocket setting) s = .next (enablePocket g (setting == 1) u) :=
      exec_pocketEnable_of_named named flag tag s
    have enabled : withEnabled g (setting == 1) u = v := by
      rw [withEnabled, putPocket, pocketAt_answer, answer_pocket]
      rfl
    have work : Work [.pocket, .group] s (enablePocket g (setting == 1) u) :=
      (answer_work (touched := []) tag 0x32 .none s).trans (enablePocket_work g (setting == 1) u)
    have queue : (enablePocket g (setting == 1) u).track.queue = s.track.queue :=
      (congrArg TrackUnit.queue (work.stands .track)).trans rfl
    refine ⟨_, run, ?_, fun none => ?_, fun k isGroup => ?_, work.stands .edge, work.stands .route, work.stands .watch, work.stands .deposit,
      queue⟩
    · cases isGroup : groupOf g u with
      | none => rw [enablePocket_of_none isGroup, enabled]
      | some k => rw [(enablePocket_at_member isGroup _).1, enabled]
    · rw [← groupOf_answer g tag 0x32 .none] at none
      rw [enablePocket_of_none none, enabled]
    · rw [← groupOf_answer g tag 0x32 .none] at isGroup
      obtain ⟨-, group, freed⟩ := enablePocket_at_member isGroup (setting == 1)
      have condition : ((setting == 1) && (pocketAt g u).state == .openState) = true ↔ setting = 1 ∧ (pocketAt g s).state = .openState := by
        rw [pocketAt_answer, Bool.and_eq_true, beq_iff_eq, beq_iff_eq]
      refine ⟨?_, ?_, fun isOne isOpen => freed (beq_iff_eq.mpr isOne) ?_⟩
      · rw [enablePocket_of_some isGroup, enabled]
        exact congrArg (recountGroup k none) (ite_congr (propext condition) (fun _ => rfl) fun _ => rfl)
      · have members : (groupAt k (enablePocket g (setting == 1) u)).members = (groupAt k s).members := by
          rw [groupAt, group]
          simp [groupAt_answer]
        rw [group, openCount, members, groupAt_answer, answer_group]
      · rw [pocketAt_answer]
        exact isOpen
  · exact recountGroup_of_low armed low item
  · exact recountGroup_of_high disarmed high item
  · exact recountGroup_of_unchanged right item
  · rw [memberChanged_of_some isGroup, if_pos same]
  · rw [memberChanged_of_some isGroup, if_neg changed]
    rfl

end Sys2Proof.Machine
end

section
/-! SUPPORT. Placement and commitment (R81, R82, R96, R109, R110). -/

set_option Elab.async false

namespace Sys2Proof.Machine

/-! ### The current members -/

/-- The count taken again moves no current member. -/
theorem recountGroup_current (k j : GroupNo) (item : Option Word) (s : State) :
    (groupAt j (recountGroup k item s)).current = (groupAt j s).current := by
  have same := groupAt_putGroup j k
    { groupAt k s with armed := decide ((groupAt k s).lowThreshold < openCount k s) } s
  have groups : (recountGroup k item s).group =
      (putGroup k { groupAt k s with armed := decide ((groupAt k s).lowThreshold < openCount k s) } s).group :=
    recountGroup_group k item s
  rw [groupAt_congr (congrArg GroupUnit.groups groups), same]
  split
  next here => rw [here]
  next => rfl

theorem memberChanged_current (g : Gate) (j : GroupNo) (old : PocketState) (item : Option Word) (s : State) :
    (groupAt j (memberChanged g old item s)).current = (groupAt j s).current := by
  cases isGroup : groupOf g s with
  | none => rw [memberChanged_of_none isGroup]
  | some k =>
    rw [memberChanged_of_some isGroup]
    split
    · rfl
    · rw [recountGroup_current]
      split <;> rfl

theorem memberCleared_of_some {g : Gate} {k : GroupNo} {s : State} (isGroup : groupOf g s = some k) : memberCleared g s =
    recountGroup k none (if (pocketAt g s).state = .openState then endCause (.groupFull k) s else s) := by
  simp only [memberCleared, isGroup]

/-! ### The search (R109) -/

theorem searchOrder_eq {grp : GroupRec} {before after : List Gate} {c : Gate} (members : grp.members = before ++ c :: after)
    (current : grp.current = some c) (first : c ∉ before) : searchOrder grp = c :: after ++ before := by
  have others : ∀ x ∈ before, (x != c) = true := fun x inBefore => bne_iff_ne.mpr fun same => first (same ▸ inBefore)
  simp only [searchOrder, current, members]
  rw [List.dropWhile_append_of_pos others, List.takeWhile_append_of_pos others, List.dropWhile_cons_of_neg (by simp),
    List.takeWhile_cons_of_neg (by simp), List.append_nil]

/-- The key of the OPEN deposit (R148). -/
theorem openKey_eq (s : State) : openKey s = match openDeposit s with
    | some d => .id d.id
    | none => .none := by
  rw [openKey]
  cases openDeposit s <;> rfl

theorem bundleDenom_ofNote (denom : Option Denom) : BundleDenom.ofNote denom = match denom with
    | some d => .code d
    | none => .uncoded := by
  cases denom <;> rfl

theorem placeable_iff (denomPure : Bool) (key : BundleDenom) (deposit : DepositKey) (r : PocketRec) :
    placeable denomPure key deposit r = true ↔ r.state = .openState ∧ r.enabled = true ∧ (r.target = none ∨
      ((denomPure = false ∨ r.denom = some key) ∧ (r.depositPure = false ∨ r.deposit = some deposit) ∧ r.closing = .full)) := by
  simp [placeable, and_assoc]

/-! ### Commitment (R81, R82, R96, R110) -/

theorem commitMember_eq (k : GroupNo) (g : Gate) (denom : Option Denom) (item : Word) (s : State) : commitMember k g denom item s =
    memberChanged g (pocketAt g s).state (some item)
      (putPocket g ((pocketAt g s).commit (groupAt k s).strap (groupAt k s).depositPure denom (openKey s))
        (putGroup k { groupAt k s with current := some g } s)) := rfl

theorem pocketAt_commitMember (k : GroupNo) (g h : Gate) (denom : Option Denom) (item : Word) (s : State) :
    pocketAt h (commitMember k g denom item s) =
      if h = g then (pocketAt g s).commit (groupAt k s).strap (groupAt k s).depositPure denom (openKey s) else pocketAt h s := by
  rw [commitMember_eq, pocketAt_congr (memberChanged_aside g _ _ _).pockets, pocketAt_putPocket]
  rfl

theorem commitMember_current (k : GroupNo) (g : Gate) (denom : Option Denom) (item : Word) (s : State) :
    (groupAt k (commitMember k g denom item s)).current = some g := by
  rw [commitMember_eq, memberChanged_current]
  exact congrArg GroupRec.current ((groupAt_putGroup k k _ s).trans (if_pos rfl))

theorem commit_of_started {r : PocketRec} {n : Nat} (target : r.target = some n) (strap : Nat) (depositPure : Bool) (denom : Option Denom)
    (deposit : DepositKey) : r.commit strap depositPure denom deposit = { r with
      denom := if r.denom = some (BundleDenom.ofNote denom) then some (BundleDenom.ofNote denom) else some .mixed
      committed := r.committed + 1
      state := if n = r.committed + 1 then .closing else .openState } := by
  simp only [PocketRec.commit, target, Option.some.injEq]
  congr 1
  split
  next same => exact same
  next => rfl

theorem commit_of_empty {r : PocketRec} (empty : r.target = none) (strap : Nat) (depositPure : Bool) (denom : Option Denom)
    (deposit : DepositKey) : r.commit strap depositPure denom deposit = { r with
      target := some strap, depositPure := depositPure, closing := .full, denom := some (BundleDenom.ofNote denom)
      deposit := if depositPure then some deposit else none, committed := r.committed + 1
      state := if strap = r.committed + 1 then .closing else .openState } := by
  simp only [PocketRec.commit, empty, Option.some.injEq]

theorem commitQuarantine_of_room {q : Gate} {s : State} (room : (pocketAt q s).committed + 1 ≠ s.pocket.limit) :
    commitQuarantine q s = putPocket q { pocketAt q s with committed := (pocketAt q s).committed + 1 } s := if_neg room

theorem commitQuarantine_of_last {q : Gate} {s : State} (last : (pocketAt q s).committed + 1 = s.pocket.limit) :
    commitQuarantine q s =
      raiseCause .quarantineFull (putPocket q { pocketAt q s with committed := (pocketAt q s).committed + 1, state := .full } s) := if_pos last

/-- Settles O42: the search for a member, and the commitment there and at the quarantine pocket. -/
theorem placementAndCommitment : Obligations.PlacementAndCommitment := by
  unfold Obligations.PlacementAndCommitment
  refine ⟨fun k denom s => ?_, fun q s => ⟨commitQuarantine_of_room, commitQuarantine_of_last⟩⟩
  intro grp key deposit takes
  have isKey : BundleDenom.ofNote denom = key := bundleDenom_ofNote denom
  have isDeposit : openKey s = deposit := openKey_eq s
  have takes_iff (g : Gate) : placeable (groupAt k s).denomPure (BundleDenom.ofNote denom) (openKey s) (pocketAt g s) = true ↔ takes g := by
    rw [placeable_iff, isKey, isDeposit]
  have notTakes_iff (g : Gate) : (!placeable (groupAt k s).denomPure (BundleDenom.ofNote denom) (openKey s) (pocketAt g s)) = true ↔ ¬ takes g := by
    rw [Bool.not_eq_true', ← takes_iff, Bool.not_eq_true]
  refine ⟨fun before c after members current first => ?_, fun g item => ?_⟩
  · have order : searchOrder (groupAt k s) = c :: after ++ before := searchOrder_eq members current first
    refine ⟨?_, fun g => ?_⟩
    · rw [place, order, List.find?_eq_none, members]
      simp only [takes_iff]
      refine forall_congr' fun g => imp_congr_left ?_
      rw [List.mem_append, List.mem_append, or_comm]
    · rw [place, order, List.find?_eq_some_iff_append]
      simp only [takes_iff, notTakes_iff]
      exact ⟨fun ⟨isTaken, passed, later, split, others⟩ => ⟨passed, later, split, isTaken, others⟩,
        fun ⟨passed, later, split, isTaken, others⟩ => ⟨isTaken, passed, later, split, others⟩⟩
  · have pocket (h : Gate) := pocketAt_commitMember k g h denom item s
    have here := (pocket g).trans (if_pos rfl)
    refine ⟨commitMember_current k g denom item s, fun h other => (pocket h).trans (if_neg other), ?_, fun empty => ?_, fun n started => ?_⟩
    · exact (commitMember_eq k g denom item s).trans (by rw [here]; rfl)
    · rw [isDeposit] at here
      rw [← isKey]
      exact here.trans (commit_of_empty empty _ _ _ _)
    · rw [← isKey]
      exact here.trans (commit_of_started started _ _ _ _)

end Sys2Proof.Machine
end

section
/-! SUPPORT. What the Report Queue keeps: its reports stand where they are, and a report that finds room joins the tail (R194, R195). -/

set_option Elab.async false

namespace Sys2Proof.Machine

/-! ### The queue grows at its tail -/

theorem enqueue_queue (r : Report) (s : State) :
    (enqueue r s).report.queue = s.report.queue ++ [{ report := r, loss := s.report.lossMark }] := rfl

theorem increase_queue (t : Tally) (u : ReportUnit) : (u.increase t).queue = u.queue := by
  cases t <;> rfl

theorem loseReport_queue (s : State) : (loseReport s).report.queue = s.report.queue := by
  simp only [loseReport]
  split <;> rfl

theorem handPlain_prefix (r : Report) (s : State) : s.report.queue <+: (handPlain r s).report.queue := by
  unfold handPlain
  split
  · exact List.prefix_append _ _
  · rw [loseReport_queue]

theorem bumpQuiet_prefix (t : Tally) (s : State) : s.report.queue <+: (bumpQuiet t s).report.queue := by
  have same : (s.setReport (s.report.increase t)).report.queue = s.report.queue := increase_queue t s.report
  simp only [bumpQuiet]
  split
  · exact same ▸ handPlain_prefix _ _
  · exact same ▸ List.prefix_rfl

theorem hand_prefix (r : Report) (s : State) : s.report.queue <+: (hand r s).report.queue := by
  unfold hand
  split
  · split
    · exact List.prefix_append _ _
    · exact bumpQuiet_prefix _ s
  · exact handPlain_prefix r s

theorem changeLine_prefix (to_ : LineState) (resume : Option Resume) (trigger : Trigger) (cause : Option LineCause) (s : State) :
    s.report.queue <+: (changeLine to_ resume trigger cause s).report.queue := by
  have queue := hand_prefix (lineReport s.line.state trigger cause (enterLine to_ resume s)) (enterLine to_ resume s)
  rw [enterLine_report] at queue
  exact queue

theorem raiseQuiet_prefix (c : Cause) (s : State) : s.report.queue <+: (raiseQuiet c s).report.queue := by
  simp only [raiseQuiet]
  split
  · exact List.prefix_rfl
  · split
    · exact changeLine_prefix _ _ _ _ (putCause true c s)
    · exact changeLine_prefix _ _ _ _ (putCause true c s)
    all_goals exact List.prefix_rfl

theorem takeBacklog_prefix (s : State) : s.report.queue <+: (takeBacklog s).report.queue := by
  unfold takeBacklog
  split
  · exact raiseQuiet_prefix _ s
  · exact List.prefix_rfl

theorem emit_prefix (r : Report) (s : State) : s.report.queue <+: (emit r s).report.queue :=
  (hand_prefix r s).trans (takeBacklog_prefix _)

theorem bump_prefix (e : EventTally) (s : State) : s.report.queue <+: (bump e s).report.queue :=
  (bumpQuiet_prefix _ s).trans (takeBacklog_prefix _)

theorem recountGroup_prefix (k : GroupNo) (item : Option Word) (s : State) : s.report.queue <+: (recountGroup k item s).report.queue := by
  simp only [recountGroup]
  split
  · split
    · exact emit_prefix _ (putGroup k { groupAt k s with armed := false } s)
    · exact List.prefix_rfl
  · split <;> exact List.prefix_rfl

/-! ### A report that finds room -/

theorem hand_queue_of_room {r : Report} (notTrace : ∀ x, r ≠ .trace x) {s : State} (room : s.report.queue.length < 64) :
    (hand r s).report.queue = s.report.queue ++ [{ report := r, loss := s.report.lossMark }] := by
  rw [hand_of_not_trace notTrace, handPlain_of_room room, enqueue_queue]

/-- A report with room joins the tail; a LINE report of the halt it brings may follow it. -/
theorem emit_queue_of_room {r : Report} (notTrace : ∀ x, r ≠ .trace x) {s : State} (room : s.report.queue.length < 64) :
    s.report.queue ++ [{ report := r, loss := s.report.lossMark }] <+: (emit r s).report.queue := by
  rw [← hand_queue_of_room notTrace room]
  exact takeBacklog_prefix _

/-- What comes after a report in the queue. -/
theorem exists_later {old new : List Queued} {q : Queued} (isPrefix : old ++ [q] <+: new) : ∃ later, new = old ++ q :: later := by
  obtain ⟨later, same⟩ := isPrefix
  exact ⟨later, by rw [← same, List.append_assoc, List.singleton_append]⟩

/-! ### A report reads no pocket -/

section

variable (u : PocketUnit)

/-- The pocket unit replaced on either branch. -/
theorem ite_setPocket {p : Prop} [Decidable p] {a b a' b' : State} (holds : a' = a.setPocket u) (fails : b' = b.setPocket u) :
    (if p then a' else b') = (if p then a else b).setPocket u := by
  rw [holds, fails, apply_ite (State.setPocket · u)]

theorem handPlain_setPocket (r : Report) (s : State) : handPlain r (s.setPocket u) = (handPlain r s).setPocket u :=
  ite_setPocket u rfl (ite_setPocket u rfl rfl)

theorem bumpQuiet_setPocket (t : Tally) (s : State) : bumpQuiet t (s.setPocket u) = (bumpQuiet t s).setPocket u :=
  ite_setPocket u (handPlain_setPocket u _ (s.setReport (s.report.increase t))) rfl

theorem hand_setPocket (r : Report) (s : State) : hand r (s.setPocket u) = (hand r s).setPocket u := by
  unfold hand
  split
  · exact ite_setPocket u rfl (bumpQuiet_setPocket u _ s)
  · exact handPlain_setPocket u r s

theorem enterLine_setPocket (to_ : LineState) (resume : Option Resume) (s : State) :
    enterLine to_ resume (s.setPocket u) = (enterLine to_ resume s).setPocket u :=
  ite_setPocket u rfl rfl

theorem changeLine_setPocket (to_ : LineState) (resume : Option Resume) (trigger : Trigger) (cause : Option LineCause) (s : State) :
    changeLine to_ resume trigger cause (s.setPocket u) = (changeLine to_ resume trigger cause s).setPocket u := by
  simp only [changeLine, enterLine_setPocket]
  exact hand_setPocket u _ _

theorem raiseQuiet_setPocket (c : Cause) (s : State) : raiseQuiet c (s.setPocket u) = (raiseQuiet c s).setPocket u := by
  refine ite_setPocket u rfl ?_
  rw [State.setPocket_line]
  cases s.line.state
  case run => exact changeLine_setPocket u _ _ _ _ (putCause true c s)
  case drain => exact changeLine_setPocket u _ _ _ _ (putCause true c s)
  all_goals rfl

theorem takeBacklog_setPocket (s : State) : takeBacklog (s.setPocket u) = (takeBacklog s).setPocket u :=
  ite_setPocket u (raiseQuiet_setPocket u _ s) rfl

theorem emit_setPocket (r : Report) (s : State) : emit r (s.setPocket u) = (emit r s).setPocket u := by
  rw [emit, hand_setPocket, takeBacklog_setPocket, emit]

theorem bump_setPocket (e : EventTally) (s : State) : bump e (s.setPocket u) = (bump e s).setPocket u := by
  rw [bump, bumpQuiet_setPocket, takeBacklog_setPocket, bump]

end

/-- A tally increased before or after a record is replaced. -/
theorem bump_putPocket (e : EventTally) (g : Gate) (r : PocketRec) (s : State) : bump e (putPocket g r s) = putPocket g r (bump e s) := by
  rw [putPocket, bump_setPocket, putPocket, bump_pocket]

end Sys2Proof.Machine
end

section
/-! SUPPORT. The pocket-cleared input (R86, R88, R92, R93, R98, R102, R111, R112). -/

set_option Elab.async false

namespace Sys2Proof.Machine

/-! ### The close of a bundle the cascade is not offered (R88, R89) -/

/-- The bundle number taken. -/
def numberedBundle (s : State) : State := { s with
  pocket := { s.pocket with nextBundle := nextNumber s.pocket.nextBundle s.freeCount }
  freeCount := drawNumber s.pocket.nextBundle s.freeCount }

/-- The BUNDLE report of a close whose count is the confirmed count. -/
def bundleReport (k : GroupNo) (g : Gate) (r : PocketRec) (close : BundleClose) (number : Word) (unbricked : Bool) : Report := .bundle
  { number := number, group := k, pocket := g, denom := r.denom, deposit := if r.depositPure then r.deposit else none
    contributions := r.contributions, count := r.confirmed, target := r.target.getD 0, close := close, recount := r.recount
    manyDeposits := r.manyDeposits, carried := r.carried, unbricked := unbricked }

theorem offeredCode_of_unoffered {close : BundleClose} {r : PocketRec} {size : Nat}
    (unoffered : close ≠ .full ∨ size = 0 ∨ ∀ d, r.denom ≠ some (.code d)) : offeredCode close r size = none := by
  unfold offeredCode
  split
  next d isCode =>
    obtain notFull | none | noCode := unoffered
    · exact absurd rfl notFull
    · exact if_pos none
    · exact absurd isCode (noCode d)
  next => rfl

theorem closeBundle_of_unoffered {g : Gate} {k : GroupNo} {s : State} (isGroup : groupOf g s = some k) {r : PocketRec} {close : BundleClose}
    (count : close = .full → r.target = some r.confirmed)
    (unoffered : close ≠ .full ∨ (groupAt k s).brickSize = 0 ∨ ∀ d, r.denom ≠ some (.code d)) :
    closeBundle g r close s = bump .bundles (emit (bundleReport k g r close s.pocket.nextBundle false) (numberedBundle s)) := by
  have isCount : (if close = .full then r.target.getD r.confirmed else r.confirmed) = r.confirmed := by
    split
    next isFull => rw [count isFull, Option.getD_some]
    next => rfl
  simp only [closeBundle, isGroup, offeredCode_of_unoffered unoffered, isCount]
  rfl

section

variable {g : Gate} {k : GroupNo} {s : State} (isGroup : groupOf g s = some k) {r : PocketRec} {close : BundleClose} (notFull : close ≠ .full)

include isGroup notFull

theorem closeBundle_nextBundle (notLast : s.pocket.nextBundle ≠ 0xFFFFFFFF) :
    (closeBundle g r close s).pocket.nextBundle = s.pocket.nextBundle + 1 := by
  rw [closeBundle_of_unoffered isGroup (fun isFull => absurd isFull notFull) (.inl notFull), bump_pocket, emit_pocket]
  exact if_neg notLast

theorem closeBundle_queue (room : s.report.queue.length < 64) :
    s.report.queue ++ [{ report := bundleReport k g r close s.pocket.nextBundle false, loss := s.report.lossMark }] <+:
      (closeBundle g r close s).report.queue := by
  rw [closeBundle_of_unoffered isGroup (fun isFull => absurd isFull notFull) (.inl notFull)]
  exact (emit_queue_of_room (r := bundleReport k g r close s.pocket.nextBundle false) (fun _ => Report.noConfusion)
    (s := numberedBundle s) room).trans (bump_prefix _ _)

end

theorem groupOf_closeBundle (g h : Gate) (r : PocketRec) (close : BundleClose) (s : State) : groupOf h (closeBundle g r close s) = groupOf h s :=
  groupOf_congr (closeBundle_aside g r close s).lists.members h

theorem pocketAt_closeBundle (g h : Gate) (r : PocketRec) (close : BundleClose) (s : State) : pocketAt h (closeBundle g r close s) = pocketAt h s :=
  pocketAt_congr (closeBundle_aside g r close s).pockets h

/-! ### A member's record after the input, handed to its group (R103, R111, R112) -/

/-- What the input leaves when the record of a member is replaced. -/
structure Cleared (g : Gate) (k : GroupNo) (r : PocketRec) (u t : State) : Prop where
  /-- the record, and the count taken again -/
  taken : t = recountGroup k none (if r.state = .openState then endCause (.groupFull k) (putPocket g r u) else putPocket g r u)
  /-- its record -/
  here : pocketAt g t = r
  /-- every other pocket -/
  others : ∀ h, h ≠ g → pocketAt h t = pocketAt h u
  /-- GROUP_FULL -/
  ended : r.state = .openState → t.line.causes.groupFull[k] = false
  /-- the bundle number -/
  number : t.pocket.nextBundle = u.pocket.nextBundle
  /-- the queue -/
  queue : u.report.queue <+: t.report.queue

theorem memberCleared_cleared {g : Gate} {k : GroupNo} {u : State} (isGroup : groupOf g u = some k) (r : PocketRec) :
    Cleared g k r u (memberCleared g (putPocket g r u)) := by
  have here : pocketAt g (putPocket g r u) = r := (pocketAt_putPocket g g r u).trans (if_pos rfl)
  have run := memberCleared_of_some (s := putPocket g r u) (g := g) (k := k) isGroup
  rw [here] at run
  have pocket (h : Gate) : pocketAt h (memberCleared g (putPocket g r u)) = pocketAt h (putPocket g r u) :=
    pocketAt_congr (memberCleared_aside g _).pockets h
  refine ⟨run, (pocket g).trans here, fun h other => ?_, fun isOpen => ?_, ?_, ?_⟩
  · rw [pocket, pocketAt_putPocket, if_neg other]
  · rw [if_pos isOpen] at run
    simp only [run, recountGroup_groupFull]
    exact Vector.getElem_set_self _
  · have pocketUnit : (memberCleared g (putPocket g r u)).pocket = (putPocket g r u).pocket :=
      (memberCleared_work g (putPocket g r u)).stands .pocket
    rw [pocketUnit]
    rfl
  · rw [run]
    split
    · exact recountGroup_prefix k none (endCause (.groupFull k) (putPocket g r u))
    · exact recountGroup_prefix k none (putPocket g r u)

/-! ### The three pockets (R92, R98, R102) -/

theorem exec_pocketCleared_of_runOut {p : Fin 16} (isRunOut : pocketOf p = .runOut) (s : State) :
    exec (.pocketCleared p) s = .next (clearRunOut s) := by
  show execPocketCleared p s = _
  simp only [execPocketCleared, isRunOut]

theorem exec_pocketCleared_of_quarantine {p : Fin 16} {q : Gate} (isGate : pocketOf p = .gated q) {s : State}
    (isQ : s.pocket.quarantine = some q) : exec (.pocketCleared p) s = .next (clearQuarantine q s) := by
  show execPocketCleared p s = _
  simp only [execPocketCleared, isGate, if_pos isQ]

theorem exec_pocketCleared_of_member {p : Fin 16} {g : Gate} (isGate : pocketOf p = .gated g) {s : State}
    (notQ : s.pocket.quarantine ≠ some g) : exec (.pocketCleared p) s = .next (clearMember g s) := by
  show execPocketCleared p s = _
  simp only [execPocketCleared, isGate, if_neg notQ]

section

variable {g : Gate} {s : State}

theorem clearMember_of_unassigned (isUnassigned : (pocketAt g s).state = .unassigned) : clearMember g s = bump .clearIgnored s := by
  simp only [clearMember, isUnassigned]

theorem clearMember_of_full (isFull : (pocketAt g s).state = .full) : clearMember g s =
    memberCleared g (putPocket g { (pocketAt g s).emptied .openState with recount := (pocketAt g s).lateMark } s) := by
  simp only [clearMember, isFull]

/-- A member OPEN or CLOSING, by its counts. -/
theorem clearMember_of_filling (notUnassigned : (pocketAt g s).state ≠ .unassigned) (notFull : (pocketAt g s).state ≠ .full) :
    clearMember g s =
      if 0 < (pocketAt g s).inFlight then
        memberCleared g (putPocket g ((pocketAt g s).carry (match groupOf g s with
            | some k => (groupAt k s).strap
            | none => 0))
          (if 0 < (pocketAt g s).confirmed then closeBundle g (pocketAt g s) .removedEarly s else s))
      else if 0 < (pocketAt g s).confirmed then
        memberCleared g (putPocket g ((pocketAt g s).emptied .openState) (closeBundle g (pocketAt g s) .partialRemoved s))
      else memberCleared g
        (bump .clearIgnored (putPocket g { pocketAt g s with recount := false, manyDeposits := false, carried := false } s)) := by
  simp only [clearMember]
  split
  next isUnassigned => exact absurd isUnassigned notUnassigned
  next isFull => exact absurd isFull notFull
  all_goals rfl

end

theorem clearQuarantine_of_inFlight {q : Gate} {s : State} (flying : (pocketAt q s).confirmed < (pocketAt q s).committed) :
    clearQuarantine q s = bump .clearIgnored s := if_pos (Nat.sub_pos_of_lt flying)

theorem clearQuarantine_of_empty {q : Gate} {s : State} (committed : (pocketAt q s).committed = 0) :
    clearQuarantine q s = bump .clearIgnored (putPocket q { pocketAt q s with recount := false } s) := by
  have notFlying : ¬ 0 < (pocketAt q s).inFlight := by
    simp [PocketRec.inFlight, committed]
  exact (if_neg notFlying).trans (if_neg (by omega))

theorem clearQuarantine_of_held {q : Gate} {s : State} (held : 0 < (pocketAt q s).committed)
    (confirmed : (pocketAt q s).committed = (pocketAt q s).confirmed) : clearQuarantine q s = emptyQuarantine q false s := by
  have notFlying : ¬ 0 < (pocketAt q s).inFlight := by
    simp [PocketRec.inFlight, confirmed]
  exact (if_neg notFlying).trans (if_pos held)

theorem putCause_quarantineFull_if {p : Prop} [Decidable p] (t : State) : (if p then endCause .quarantineFull t else t) =
    { t with line := { t.line with causes := { t.line.causes with
      quarantineFull := if p then false else t.line.causes.quarantineFull } } } := by
  split <;> rfl

/-- A tally other than REPORTS_LOST and TRACE_DROPPED goes up by one. -/
theorem bump_event {e : EventTally} (notLost : e.index ≠ EventTally.reportsLost.index) (notDropped : e.index ≠ EventTally.traceDropped.index)
    (s : State) : (bump e s).report.events[e.index] = s.report.events[e.index] + 1 := by
  have value : (s.report.events.set e.index (s.report.events[e.index] + 1))[e.index] = s.report.events[e.index] + 1 :=
    Vector.getElem_set_self _
  rw [bump, takeBacklog_event_of_ne notLost notDropped, bumpQuiet_event]
  simp only
  split
  · rw [handPlain_event_of_ne notLost]
    exact value
  · exact value

theorem recountGroup_event_of_ne {i : Fin 25} (notLost : i ≠ EventTally.reportsLost.index) (notDropped : i ≠ EventTally.traceDropped.index)
    (k : GroupNo) (item : Option Word) (s : State) : (recountGroup k item s).report.events[i] = s.report.events[i] := by
  simp only [recountGroup]
  split
  · split
    · exact emit_event_of_ne notLost notDropped _ (putGroup k { groupAt k s with armed := false } s)
    · rfl
  · split <;> rfl

theorem Cleared.event_of_ne {g : Gate} {k : GroupNo} {r : PocketRec} {u t : State} (cleared : Cleared g k r u t) {i : Fin 25}
    (notLost : i ≠ EventTally.reportsLost.index) (notDropped : i ≠ EventTally.traceDropped.index) :
    t.report.events[i] = u.report.events[i] := by
  rw [cleared.taken, recountGroup_event_of_ne notLost notDropped]
  split <;> rfl

/-! ### The input at a member, by its state and counts (R92, R93) -/

section

variable {g : Gate} {k : GroupNo} {s : State} (isGroup : groupOf g s = some k)

include isGroup

theorem clearMember_full_cleared (isFull : (pocketAt g s).state = .full) :
    Cleared g k { PocketRec.fresh .openState (pocketAt g s).enabled with recount := (pocketAt g s).lateMark } s (clearMember g s) := by
  rw [clearMember_of_full isFull]
  exact memberCleared_cleared isGroup _

theorem clearMember_partial_cleared (notUnassigned : (pocketAt g s).state ≠ .unassigned) (notFull : (pocketAt g s).state ≠ .full)
    (confirmed : (pocketAt g s).committed ≤ (pocketAt g s).confirmed) (held : 0 < (pocketAt g s).confirmed) :
    Cleared g k (PocketRec.fresh .openState (pocketAt g s).enabled) (closeBundle g (pocketAt g s) .partialRemoved s) (clearMember g s) := by
  have notFlying : ¬ 0 < (pocketAt g s).inFlight := Nat.not_lt.mpr (Nat.sub_eq_zero_of_le confirmed).le
  rw [clearMember_of_filling notUnassigned notFull, if_neg notFlying, if_pos held]
  exact memberCleared_cleared ((groupOf_closeBundle g g _ _ s).trans isGroup) _

theorem clearMember_early_cleared (notUnassigned : (pocketAt g s).state ≠ .unassigned) (notFull : (pocketAt g s).state ≠ .full)
    (flying : (pocketAt g s).confirmed < (pocketAt g s).committed) :
    Cleared g k ((pocketAt g s).carry (groupAt k s).strap)
      (if 0 < (pocketAt g s).confirmed then closeBundle g (pocketAt g s) .removedEarly s else s) (clearMember g s) := by
  rw [clearMember_of_filling notUnassigned notFull, if_pos (show 0 < (pocketAt g s).inFlight from Nat.sub_pos_of_lt flying)]
  simp only [isGroup]
  refine memberCleared_cleared ?_ _
  split
  · exact (groupOf_closeBundle g g _ _ s).trans isGroup
  · exact isGroup

theorem clearMember_empty_cleared (notUnassigned : (pocketAt g s).state ≠ .unassigned) (notFull : (pocketAt g s).state ≠ .full)
    (committed : (pocketAt g s).committed = 0) (confirmed : (pocketAt g s).confirmed = 0) :
    Cleared g k { pocketAt g s with recount := false, manyDeposits := false, carried := false } (bump .clearIgnored s) (clearMember g s) := by
  have notFlying : ¬ 0 < (pocketAt g s).inFlight := by
    simp [PocketRec.inFlight, committed]
  have same : groupOf g (bump .clearIgnored s) = groupOf g s := groupOf_congr (fun j => by rw [groupAt, groupAt, bump_group]) g
  rw [clearMember_of_filling notUnassigned notFull, if_neg notFlying, if_neg (by omega), bump_putPocket]
  exact memberCleared_cleared (same.trans isGroup) _

end

theorem pocketAt_bump (g : Gate) (e : EventTally) (s : State) : pocketAt g (bump e s) = pocketAt g s :=
  pocketAt_congr (by rw [bump_pocket]) g

/-- The record of a carried bundle, written out (R93). -/
theorem carry_eq (r : PocketRec) (strap : Nat) :
    let n := r.committed - r.confirmed
    let target := match r.closing with
      | .full => max strap n
      | .odd => n
    r.carry strap = { r with
      committed := n, confirmed := 0, target := some target, contributions := [], recount := true, carried := true
      manyDeposits := false, lateMark := false, state := if target = n then .closing else .openState } := by
  simp only [PocketRec.carry, PocketRec.inFlight]
  cases r.closing <;> rfl

/-- Settles O43: the input by its pocket, and at a member by its state and counts. -/
theorem pocketsCleared : Obligations.PocketsCleared := by
  unfold Obligations.PocketsCleared
  intro p s run
  refine ⟨fun isRunOut none => ?_, fun isRunOut held => ?_, fun q isGate isQ => ?_, fun g isGate notQ => ?_⟩
  · exact (exec_pocketCleared_of_runOut isRunOut s).trans (congrArg Host.Outcome.next (if_pos none))
  · refine (exec_pocketCleared_of_runOut isRunOut s).trans (congrArg Host.Outcome.next ((if_neg (by omega)).trans ?_))
    simp only [emit_pocket]
    rfl
  · have runQ : run = .next (clearQuarantine q s) := exec_pocketCleared_of_quarantine isGate isQ
    refine ⟨fun flying => ?_, fun committed _ => ?_, fun held confirmed => ?_⟩
    · rw [runQ, clearQuarantine_of_inFlight flying]
    · rw [runQ, clearQuarantine_of_empty committed]
      rfl
    · intro w
      rw [runQ, clearQuarantine_of_held held confirmed]
      refine ⟨_, rfl, ?_, ?_, fun isFull => ?_, fun room => ?_⟩
      all_goals rw [emptyQuarantine_eq, putCause_quarantineFull_if]
      · exact if_pos isFull
      · exact exists_later (emit_queue_of_room (fun _ => Report.noConfusion) room)
  · have runG : run = .next (clearMember g s) := exec_pocketCleared_of_member isGate notQ
    intro r closed
    refine ⟨fun isUnassigned => ?_, fun k isGroup notUnassigned => ?_⟩
    · rw [runG, clearMember_of_unassigned isUnassigned]
    intro taken
    have isTaken {u : State} {r' : PocketRec} (cleared : Cleared g k r' u (clearMember g s)) : clearMember g s = taken (clearMember g s) u := by
      have here : pocketAt g (putPocket g r' u) = r' := (pocketAt_putPocket g g r' u).trans (if_pos rfl)
      show _ = recountGroup k none (if (pocketAt g (putPocket g (pocketAt g (clearMember g s)) u)).state = .openState then
        endCause (.groupFull k) (putPocket g (pocketAt g (clearMember g s)) u) else putPocket g (pocketAt g (clearMember g s)) u)
      rw [cleared.here, here]
      exact cleared.taken
    have isEnded {u : State} {r' : PocketRec} (cleared : Cleared g k r' u (clearMember g s))
        (isOpen : (pocketAt g (clearMember g s)).state = .openState) : (clearMember g s).line.causes.groupFull[k] = false :=
      cleared.ended (by rwa [cleared.here] at isOpen)
    have isClosed {close : BundleClose} {r' : PocketRec} (cleared : Cleared g k r' (closeBundle g r close s) (clearMember g s))
        (notFullClose : close ≠ .full) : closed k close (clearMember g s) := fun room =>
      exists_later ((closeBundle_queue isGroup notFullClose room).trans cleared.queue)
    by_cases isFull : r.state = .full
    · have cleared := clearMember_full_cleared isGroup isFull
      exact ⟨_, runG, cleared.others, isEnded cleared, fun _ => ⟨isTaken cleared, cleared.here, cleared.number⟩,
        fun notFull => absurd isFull notFull, fun notFull => absurd isFull notFull, fun notFull => absurd isFull notFull⟩
    by_cases flying : r.confirmed < r.committed
    · have cleared := clearMember_early_cleared isGroup notUnassigned isFull flying
      refine ⟨_, runG, fun h other => (cleared.others h other).trans ?_, isEnded cleared, fun full => absurd full isFull,
        fun _ same => absurd flying (by omega),
        fun _ _ => ⟨isTaken cleared, cleared.here.trans (carry_eq r _), fun none => ?_, fun held => ?_, fun held notLast => ?_⟩,
        fun _ none => absurd flying (by omega)⟩
      · split
        · exact pocketAt_closeBundle g h _ _ s
        · rfl
      · rw [cleared.number, if_neg (Nat.not_lt.mpr none.le)]
      · rw [if_pos held] at cleared
        exact isClosed cleared (by decide)
      · rw [cleared.number, if_pos held]
        exact closeBundle_nextBundle isGroup (by decide) notLast
    by_cases held : 0 < r.confirmed
    · have cleared := clearMember_partial_cleared isGroup notUnassigned isFull (Nat.not_lt.mp flying) held
      exact ⟨_, runG, fun h other => (cleared.others h other).trans (pocketAt_closeBundle g h _ _ s), isEnded cleared,
        fun full => absurd full isFull,
        fun _ _ _ => ⟨isTaken cleared, cleared.here, isClosed cleared (by decide),
          fun notLast => cleared.number.trans (closeBundle_nextBundle isGroup (by decide) notLast)⟩,
        fun _ more => absurd more flying, fun _ _ none => absurd held (by omega)⟩
    · have confirmed : r.confirmed = 0 := by omega
      have committed : r.committed = 0 := by omega
      have cleared := clearMember_empty_cleared isGroup notUnassigned isFull committed confirmed
      exact ⟨_, runG, fun h other => (cleared.others h other).trans (pocketAt_bump h _ s), isEnded cleared, fun full => absurd full isFull,
        fun _ _ more => absurd more held, fun _ more => absurd more flying,
        fun _ _ _ => ⟨isTaken cleared, (cleared.event_of_ne (by decide) (by decide)).trans (bump_event (by decide) (by decide) s),
          cleared.here, cleared.number.trans (by rw [bump_pocket])⟩⟩

end Sys2Proof.Machine
end

section
/-! SUPPORT. A line that does not run stays as it is: reports, causes and the work of the pockets move no line out of IDLE, HALT or JAMMED
(R168, R171, R196). -/

set_option Elab.async false

namespace Sys2Proof.Machine

/-- A line in IDLE, HALT or JAMMED keeps its state. -/
def Rests (s t : State) : Prop := s.line.state ≠ .run ∧ s.line.state ≠ .drain → t.line.state = s.line.state

theorem Rests.refl (s : State) : Rests s s := fun _ => rfl

theorem Rests.of_line {s t : State} (line : t.line.state = s.line.state) : Rests s t := fun _ => line

theorem Rests.trans {s t u : State} (one : Rests s t) (two : Rests t u) : Rests s u := fun still => by
  rw [two (by rwa [one still]), one still]

theorem Rests.ite {p : Prop} [Decidable p] {s t u : State} (holds : Rests s t) (fails : Rests s u) : Rests s (if p then t else u) := by
  split
  · exact holds
  · exact fails

theorem Rests.foldl {α : Type} {f : State → α → State} (rests : ∀ s a, Rests s (f s a)) (list : List α) (s : State) :
    Rests s (list.foldl f s) := by
  induction list generalizing s with
  | nil => exact .refl s
  | cons a rest ih => exact (rests s a).trans (ih _)

theorem Rests.idle {s t : State} (rests : Rests s t) (idle : s.line.state = .idle) : t.line.state = .idle := by
  rw [rests (by simp [idle]), idle]

/-! ### Reports and causes -/

theorem emit_rests (r : Report) (s : State) : Rests s (emit r s) := (emit_reported r s).state

theorem answer_rests (tag code : Byte) (detail : Detail) (s : State) : Rests s (answer tag code detail s) := emit_rests _ s

theorem bump_rests (e : EventTally) (s : State) : Rests s (bump e s) := (bump_reported e s).state

theorem raiseQuiet_rests (c : Cause) (s : State) : Rests s (raiseQuiet c s) := by
  intro still
  simp only [raiseQuiet]
  split
  · rfl
  · split
    next run => exact absurd run still.1
    next drain => exact absurd drain still.2
    all_goals rfl

theorem takeBacklog_rests (s : State) : Rests s (takeBacklog s) := .ite (raiseQuiet_rests _ s) (.refl s)

theorem raiseCause_rests (c : Cause) (s : State) : Rests s (raiseCause c s) := (raiseQuiet_rests c s).trans (takeBacklog_rests _)

theorem endCause_rests (c : Cause) (s : State) : Rests s (endCause c s) := .of_line rfl

/-! ### Members, bundles and bricks -/

theorem putGroup_rests (k : GroupNo) (r : GroupRec) (s : State) : Rests s (putGroup k r s) := .of_line rfl

theorem putPocket_rests (g : Gate) (r : PocketRec) (s : State) : Rests s (putPocket g r s) := .of_line rfl

theorem recountGroup_rests (k : GroupNo) (item : Option Word) (s : State) : Rests s (recountGroup k item s) :=
  .ite (.ite ((putGroup_rests k _ s).trans (emit_rests _ _)) (.refl s)) (.ite (.refl s) (putGroup_rests k _ s))

theorem memberChanged_rests (g : Gate) (old : PocketState) (item : Option Word) (s : State) : Rests s (memberChanged g old item s) := by
  unfold memberChanged
  split
  · exact .refl s
  · exact .ite (.refl s) ((Rests.ite (endCause_rests _ s) (.refl s)).trans (recountGroup_rests _ _ _))

theorem closeBrick_rests (i : Fin 16) (complete : Bool) (s : State) : Rests s (closeBrick i complete s) := by
  unfold closeBrick
  split
  · exact .refl s
  case h_2 a _ =>
    let s1 := (s.setGroup { s.group with nextBrick := nextNumber s.group.nextBrick s.freeCount }).setFreeCount
      (drawNumber s.group.nextBrick s.freeCount)
    have numbered : Rests s s1 := .of_line rfl
    have reported : Rests s1 (bump .bricks (emit (.brick { number := s.group.nextBrick, complete := complete, acc := a }) s1)) :=
      (emit_rests _ s1).trans (bump_rests _ _)
    exact (numbered.trans reported).trans (.of_line rfl)

theorem completeBrick_rests (i : Option (Fin 16)) (k : GroupNo) (s : State) : Rests s (completeBrick i k s) := by
  unfold completeBrick
  split
  · exact .refl s
  · split
    · exact .ite (closeBrick_rests _ _ s) (.refl s)
    · exact .refl s

theorem closeBundle_rests (g : Gate) (r : PocketRec) (close : BundleClose) (s : State) : Rests s (closeBundle g r close s) := by
  unfold closeBundle
  split
  · exact .refl s
  case h_2 k _ =>
    extract_lets number count s0 s1 code acc s2 report
    have joined : Rests s s2 := by
      clear_value acc code
      simp only [s2]
      split <;> exact .of_line rfl
    exact ((joined.trans (emit_rests report s2)).trans (bump_rests _ _)).trans (completeBrick_rests _ _ _)

theorem oddClose_rests (g : Gate) (s : State) : Rests s (oddClose g s) :=
  .ite (.ite (((putPocket_rests g _ s).trans (closeBundle_rests _ _ _ _)).trans (memberChanged_rests _ _ _ _))
    ((putPocket_rests g _ s).trans (memberChanged_rests _ _ _ _))) (.refl s)

end Sys2Proof.Machine
end

section
/-! SUPPORT. Odd closes, one after another (R90, R115, R116). -/

set_option Elab.async false

namespace Sys2Proof.Machine

/-- What no step of a fold changes, the fold does not change. -/
theorem foldl_unchanged {α β γ : Type} {f : β → α → β} (read : β → γ) (same : ∀ b a, read (f b a) = read b) (list : List α) (b : β) :
    read (list.foldl f b) = read b := by
  induction list generalizing b with
  | nil => rfl
  | cons a rest ih => exact (ih (f b a)).trans (same b a)

/-! ### The record -/

/-- A member's record after an odd close asked of it (R90). -/
def oddRecord (r : PocketRec) : PocketRec :=
  if r.state = .openState ∧ 0 < r.committed then
    { r with target := some r.committed, closing := .odd, state := if r.confirmed = r.committed then .full else .closing }
  else r

theorem oddClosable_iff (r : PocketRec) : r.oddClosable = true ↔ r.state = .openState ∧ 0 < r.committed := by
  simp [PocketRec.oddClosable]

theorem oddRecord_not_closable (r : PocketRec) : (oddRecord r).oddClosable = false := by
  rw [← Bool.not_eq_true, oddClosable_iff]
  unfold oddRecord
  split
  · rintro ⟨isOpen, -⟩
    dsimp only at isOpen
    split at isOpen <;> cases isOpen
  next not => exact not

theorem oddRecord_of_not_closable {r : PocketRec} (not : r.oddClosable = false) : oddRecord r = r :=
  if_neg (by rw [← oddClosable_iff, not]; exact Bool.false_ne_true)

theorem oddRecord_twice (r : PocketRec) : oddRecord (oddRecord r) = oddRecord r := oddRecord_of_not_closable (oddRecord_not_closable r)

/-! ### One odd close -/

section

variable {g : Gate} {s : State}

theorem oddClose_of_not_closable (not : (pocketAt g s).oddClosable = false) : oddClose g s = s :=
  if_neg (by rw [not]; exact Bool.false_ne_true)

theorem oddClose_of_full (isOpen : (pocketAt g s).state = .openState) (held : 0 < (pocketAt g s).committed)
    (all : (pocketAt g s).confirmed = (pocketAt g s).committed) :
    let r : PocketRec := { pocketAt g s with target := some (pocketAt g s).committed, closing := .odd, state := .full }
    oddClose g s = memberChanged g .openState none (closeBundle g r .odd (putPocket g r s)) := by
  rw [← isOpen]
  exact (if_pos ((oddClosable_iff _).mpr ⟨isOpen, held⟩)).trans (if_pos all)

theorem oddClose_of_flying (isOpen : (pocketAt g s).state = .openState) (held : 0 < (pocketAt g s).committed)
    (flying : (pocketAt g s).confirmed ≠ (pocketAt g s).committed) :
    let r : PocketRec := { pocketAt g s with target := some (pocketAt g s).committed, closing := .odd, state := .closing }
    oddClose g s = memberChanged g .openState none (putPocket g r s) := by
  rw [← isOpen]
  exact (if_pos ((oddClosable_iff _).mpr ⟨isOpen, held⟩)).trans (if_neg flying)

end

/-- The cases of an odd close: nothing, a close now, or a close when the notes in flight have come. -/
theorem oddClose_cases (g : Gate) (s : State) :
    ((pocketAt g s).oddClosable = false ∧ oddClose g s = s) ∨
    (∃ r, r = oddRecord (pocketAt g s) ∧ oddClose g s = memberChanged g .openState none (closeBundle g r .odd (putPocket g r s))) ∨
    (∃ r, r = oddRecord (pocketAt g s) ∧ oddClose g s = memberChanged g .openState none (putPocket g r s)) := by
  by_cases closable : (pocketAt g s).state = .openState ∧ 0 < (pocketAt g s).committed
  case neg =>
    have not : (pocketAt g s).oddClosable = false := by rwa [← Bool.not_eq_true, oddClosable_iff]
    exact .inl ⟨not, oddClose_of_not_closable not⟩
  obtain ⟨isOpen, held⟩ := closable
  by_cases all : (pocketAt g s).confirmed = (pocketAt g s).committed
  · refine .inr (.inl ⟨_, ?_, oddClose_of_full isOpen held all⟩)
    rw [oddRecord, if_pos ⟨isOpen, held⟩, if_pos all]
  · refine .inr (.inr ⟨_, ?_, oddClose_of_flying isOpen held all⟩)
    rw [oddRecord, if_pos ⟨isOpen, held⟩, if_neg all]

theorem pocketAt_memberChanged (g h : Gate) (old : PocketState) (item : Option Word) (s : State) :
    pocketAt h (memberChanged g old item s) = pocketAt h s := pocketAt_congr (memberChanged_aside g old item s).pockets h

theorem pocketAt_oddClose (g h : Gate) (s : State) :
    pocketAt h (oddClose g s) = if h = g then oddRecord (pocketAt g s) else pocketAt h s := by
  obtain ⟨not, same⟩ | ⟨r, isRecord, closed⟩ | ⟨r, isRecord, closing⟩ := oddClose_cases g s
  · rw [same, oddRecord_of_not_closable not]
    split
    next here => rw [here]
    next => rfl
  · rw [closed, pocketAt_memberChanged, pocketAt_closeBundle, pocketAt_putPocket, isRecord]
  · rw [closing, pocketAt_memberChanged, pocketAt_putPocket, isRecord]

/-! ### What it leaves of the groups -/

theorem recountGroup_accs (k : GroupNo) (item : Option Word) (s : State) : (recountGroup k item s).group.accs = s.group.accs := by
  rw [recountGroup_group]

theorem memberChanged_accs (g : Gate) (old : PocketState) (item : Option Word) (s : State) :
    (memberChanged g old item s).group.accs = s.group.accs := by
  cases isGroup : groupOf g s with
  | none => rw [memberChanged_of_none isGroup]
  | some k =>
    rw [memberChanged_of_some isGroup]
    split
    · rfl
    · rw [recountGroup_accs]
      split <;> rfl

/-- A bundle that is not closed FULL reaches no accumulator. -/
theorem closeBundle_group (g : Gate) (r : PocketRec) {close : BundleClose} (notFull : close ≠ .full) (s : State) :
    (closeBundle g r close s).group = s.group := by
  cases isGroup : groupOf g s with
  | none => simp only [closeBundle, isGroup]
  | some k =>
    rw [closeBundle_of_unoffered isGroup (fun isFull => absurd isFull notFull) (.inl notFull), bump_group, emit_group]
    rfl

theorem oddClose_accs (g : Gate) (s : State) : (oddClose g s).group.accs = s.group.accs := by
  obtain ⟨-, same⟩ | ⟨r, -, closed⟩ | ⟨r, -, closing⟩ := oddClose_cases g s
  · rw [same]
  · rw [closed, memberChanged_accs, closeBundle_group g r (by decide)]
    rfl
  · rw [closing, memberChanged_accs]
    rfl

theorem oddClose_current (g : Gate) (j : GroupNo) (s : State) : (groupAt j (oddClose g s)).current = (groupAt j s).current := by
  obtain ⟨-, same⟩ | ⟨r, -, closed⟩ | ⟨r, -, closing⟩ := oddClose_cases g s
  · rw [same]
  · rw [closed, memberChanged_current, groupAt_congr (congrArg GroupUnit.groups (closeBundle_group g r (by decide) _))]
    rfl
  · rw [closing, memberChanged_current]
    rfl

/-! ### Odd closes in a row -/

theorem pocketAt_foldl_oddClose (gates : List Gate) (h : Gate) (s : State) :
    pocketAt h (gates.foldl (fun u g => oddClose g u) s) = if h ∈ gates then oddRecord (pocketAt h s) else pocketAt h s := by
  induction gates generalizing s with
  | nil => rfl
  | cons g rest ih =>
    rw [List.foldl_cons, ih, pocketAt_oddClose]
    by_cases here : h = g
    · subst here
      simp [oddRecord_twice]
    · simp [here]

/-- A member that an odd close would not change need not be asked. -/
theorem foldl_oddClose_filter {asked : Gate → Bool} (gates : List Gate) {s : State}
    (all : ∀ g ∈ gates, (pocketAt g s).oddClosable = true → asked g = true) :
    (gates.filter asked).foldl (fun u g => oddClose g u) s = gates.foldl (fun u g => oddClose g u) s := by
  induction gates generalizing s with
  | nil => rfl
  | cons g rest ih =>
    have after : ∀ h ∈ rest, (pocketAt h (oddClose g s)).oddClosable = true → asked h = true := fun h inRest closable => by
      rw [pocketAt_oddClose] at closable
      split at closable
      · rw [oddRecord_not_closable] at closable
        cases closable
      · exact all h (List.mem_cons_of_mem g inRest) closable
    cases isAsked : asked g with
    | true => rw [List.filter_cons_of_pos isAsked, List.foldl_cons, List.foldl_cons, ih after]
    | false =>
      have not : (pocketAt g s).oddClosable = false := Bool.eq_false_iff.mpr fun closable => by
        rw [all g List.mem_cons_self closable] at isAsked
        cases isAsked
      rw [oddClose_of_not_closable not] at after
      rw [List.filter_cons_of_neg (by rw [isAsked]; exact Bool.false_ne_true), List.foldl_cons, oddClose_of_not_closable not, ih after]

theorem foldl_oddClose_work (gates : List Gate) (s : State) : Work [.pocket, .group] s (gates.foldl (fun u g => oddClose g u) s) :=
  .foldl (fun u g => oddClose_work g u) gates s

theorem foldl_oddClose_accs (gates : List Gate) (s : State) : (gates.foldl (fun u g => oddClose g u) s).group.accs = s.group.accs :=
  foldl_unchanged (fun u : State => u.group.accs) (fun u g => oddClose_accs g u) gates s

theorem foldl_oddClose_members (gates : List Gate) (j : GroupNo) (s : State) :
    (groupAt j (gates.foldl (fun u g => oddClose g u) s)).members = (groupAt j s).members :=
  foldl_unchanged (fun u : State => (groupAt j u).members) (fun u g => (oddClose_lists g u).members j) gates s

theorem foldl_oddClose_current (gates : List Gate) (j : GroupNo) (s : State) :
    (groupAt j (gates.foldl (fun u g => oddClose g u) s)).current = (groupAt j s).current :=
  foldl_unchanged (fun u : State => (groupAt j u).current) (fun u g => oddClose_current g j u) gates s

end Sys2Proof.Machine
end

section
/-! SUPPORT. Bundles, bricks and GROUP_FLUSH (R87 to R90, R116 to R119). -/

set_option Elab.async false

namespace Sys2Proof.Machine

/-! ### A brick (R119) -/

theorem closeBrick_of_free {i : Fin 16} {s : State} (free : s.group.accs[i] = none) (complete : Bool) : closeBrick i complete s = s := by
  simp only [closeBrick, free]

/-- The brick number taken. -/
def numberedBrick (s : State) : State := { s with
  group := { s.group with nextBrick := nextNumber s.group.nextBrick s.freeCount }
  freeCount := drawNumber s.group.nextBrick s.freeCount }

/-- The BRICK report of an accumulator. -/
def brickReport (a : Accumulator) (complete : Bool) (s : State) : Report :=
  .brick { number := s.group.nextBrick, complete := complete, acc := a }

theorem closeBrick_of_held {i : Fin 16} {a : Accumulator} {s : State} (held : s.group.accs[i] = some a) (complete : Bool) :
    let u := bump .bricks (emit (brickReport a complete s) (numberedBrick s))
    closeBrick i complete s = { u with group := { u.group with accs := u.group.accs.set i none } } := by
  simp only [closeBrick, held]
  rfl

theorem closeBrick_group_of_held {i : Fin 16} {a : Accumulator} {s : State} (held : s.group.accs[i] = some a) (complete : Bool) :
    (closeBrick i complete s).group = { (numberedBrick s).group with accs := s.group.accs.set i none } := by
  rw [closeBrick_of_held held]
  simp only [bump_group, emit_group]
  rfl

theorem accs_closeBrick (i j : Fin 16) (complete : Bool) (s : State) :
    (closeBrick i complete s).group.accs[j] = if j = i then none else s.group.accs[j] := by
  cases held : s.group.accs[i] with
  | none =>
    rw [closeBrick_of_free held]
    split
    next here => rw [here, held]
    next => rfl
  | some a =>
    simp only [closeBrick_group_of_held held]
    split
    next here =>
      subst here
      exact Vector.getElem_set_self _
    next there => exact Vector.getElem_set_ne i.isLt j.isLt (Fin.val_ne_of_ne (Ne.symm there))

theorem closeBrick_groups (i : Fin 16) (complete : Bool) (s : State) : (closeBrick i complete s).group.groups = s.group.groups := by
  cases held : s.group.accs[i] with
  | none => rw [closeBrick_of_free held]
  | some a =>
    rw [closeBrick_group_of_held held]
    rfl

theorem accs_foldl_closeBrick (closed : List (Fin 16)) (j : Fin 16) (s : State) :
    (closed.foldl (fun u i => closeBrick i false u) s).group.accs[j] = if j ∈ closed then none else s.group.accs[j] := by
  induction closed generalizing s with
  | nil => rfl
  | cons i rest ih =>
    rw [List.foldl_cons, ih, accs_closeBrick]
    by_cases here : j = i
    · simp [here]
    · simp [here]

/-! ### The accumulator of a bundle (R118) -/

/-- The accumulators in ascending index. -/
theorem find?_finRange_eq_some_iff {n : Nat} (p : Fin n → Bool) (i : Fin n) :
    (List.finRange n).find? p = some i ↔ p i = true ∧ ∀ j, j < i → p j = false := by
  rw [List.find?_eq_some_iff_getElem]
  refine and_congr_right fun _ => ?_
  constructor
  · rintro ⟨m, inRange, isI, others⟩ j below
    rw [List.getElem_finRange] at isI
    have before : j.val < m := by
      rw [← isI] at below
      exact below
    have other := others j.val before
    rw [List.getElem_finRange, Bool.not_eq_true'] at other
    exact other
  · intro others
    refine ⟨i.val, by simp, by rw [List.getElem_finRange]; rfl, fun j before => ?_⟩
    rw [List.getElem_finRange, Bool.not_eq_true']
    exact others _ before

/-- Whether an accumulator is keyed to a group and code. -/
def Keyed (k : GroupNo) (d : Denom) (s : State) (i : Fin 16) : Prop := ∃ a, s.group.accs[i] = some a ∧ a.group = k ∧ a.denom = d

theorem any_keyed_iff (k : GroupNo) (d : Denom) (s : State) (i : Fin 16) :
    ((s.group.accs[i]).any fun a => a.group == k && a.denom == d) = true ↔ Keyed k d s i := by
  simp [Keyed, Option.any_eq_true]

theorem accumulatorFor_eq (k : GroupNo) (d : Denom) (s : State) : accumulatorFor k d s =
    match (List.finRange 16).find? fun i => (s.group.accs[i]).any fun a => a.group == k && a.denom == d with
    | some i => some i
    | none => (List.finRange 16).find? fun i => (s.group.accs[i]).isNone := rfl

theorem accumulatorFor_of_keyed {k : GroupNo} {d : Denom} {s : State} {i : Fin 16} (keyed : Keyed k d s i)
    (first : ∀ j, j < i → ¬ Keyed k d s j) : accumulatorFor k d s = some i := by
  have found := (find?_finRange_eq_some_iff (fun i => (s.group.accs[i]).any fun a => a.group == k && a.denom == d) i).mpr
    ⟨(any_keyed_iff k d s i).mpr keyed, fun j below => Bool.eq_false_iff.mpr (mt (any_keyed_iff k d s j).mp (first j below))⟩
  rw [accumulatorFor_eq, found]

theorem accumulatorFor_of_unkeyed {k : GroupNo} {d : Denom} {s : State} (unkeyed : ∀ i, ¬ Keyed k d s i) :
    accumulatorFor k d s = (List.finRange 16).find? fun i => (s.group.accs[i]).isNone := by
  have none := List.find?_eq_none.mpr fun i (_ : i ∈ List.finRange 16) => mt (any_keyed_iff k d s i).mp (unkeyed i)
  rw [accumulatorFor_eq, none]

theorem accumulatorFor_of_free {k : GroupNo} {d : Denom} {s : State} {i : Fin 16} (unkeyed : ∀ i, ¬ Keyed k d s i)
    (free : s.group.accs[i] = none) (first : ∀ j, j < i → s.group.accs[j] ≠ none) : accumulatorFor k d s = some i := by
  rw [accumulatorFor_of_unkeyed unkeyed, find?_finRange_eq_some_iff]
  exact ⟨by rw [free]; rfl, fun j below => Option.isNone_eq_false_iff.mpr (Option.isSome_iff_ne_none.mpr (first j below))⟩

theorem accumulatorFor_of_full {k : GroupNo} {d : Denom} {s : State} (unkeyed : ∀ i, ¬ Keyed k d s i)
    (full : ∀ i : Fin 16, s.group.accs[i] ≠ none) : accumulatorFor k d s = none := by
  rw [accumulatorFor_of_unkeyed unkeyed, List.find?_eq_none]
  intro i _
  rw [Option.isNone_iff_eq_none]
  exact full i

/-! ### A bundle the cascade is offered (R88, R118) -/

/-- The state with an accumulator replaced. -/
def withAccumulator (i : Fin 16) (a : Accumulator) (s : State) : State := s.setGroup { s.group with accs := s.group.accs.set i (some a) }

/-- A bundle joined to an accumulator; its brick closes when the list has reached the brick size. -/
theorem completeBrick_of_joined {i : Fin 16} {a : Accumulator} {s : State} (held : s.group.accs[i] = some a) (k : GroupNo) :
    completeBrick (some i) k s = if (groupAt k s).brickSize ≤ a.bundles.length then closeBrick i true s else s := by
  simp only [completeBrick, held]

section

variable {g : Gate} {k : GroupNo} {s : State} (isGroup : groupOf g s = some k) {r : PocketRec} (target : r.target = some r.confirmed) {d : Denom}
  (size : (groupAt k s).brickSize ≠ 0) (code : r.denom = some (.code d))

include isGroup target size code

theorem closeBundle_of_unbricked (none : accumulatorFor k d (numberedBundle s) = none) : closeBundle g r .full s =
    bump .bundles (emit (bundleReport k g r .full s.pocket.nextBundle true) (numberedBundle s)) := by
  have offered : offeredCode .full r (groupAt k s).brickSize = some d := by
    simp only [offeredCode, code, if_neg size]
  have same : (s.setPocket { s.pocket with nextBundle := nextNumber s.pocket.nextBundle s.freeCount }).setFreeCount
      (drawNumber s.pocket.nextBundle s.freeCount) = numberedBundle s := rfl
  simp only [closeBundle, isGroup, offered, same, Option.bind_some, none, if_true, target, Option.getD_some]
  rw [bundleReport, target]
  rfl

/-- The bundle with its number added to the accumulator that stood in a place, or to a new one. -/
def joinedTo (k : GroupNo) (d : Denom) (number : Word) (r : PocketRec) (old : Option Accumulator) : Accumulator :=
  let a := old.getD { group := k, denom := d, bundles := [], total := 0, recount := false, manyDeposits := false, carried := false }
  { a with
    bundles := a.bundles ++ [number], total := a.total + r.confirmed, recount := a.recount || r.recount
    manyDeposits := a.manyDeposits || r.manyDeposits, carried := a.carried || r.carried }

theorem closeBundle_of_offered {i : Fin 16} (acc : accumulatorFor k d (numberedBundle s) = some i) :
    let a := joinedTo k d s.pocket.nextBundle r s.group.accs[i]
    let u := bump .bundles (emit (bundleReport k g r .full s.pocket.nextBundle false) (withAccumulator i a (numberedBundle s)))
    closeBundle g r .full s = if (groupAt k s).brickSize ≤ a.bundles.length then closeBrick i true u else u := by
  intro a u
  have offered : offeredCode .full r (groupAt k s).brickSize = some d := by
    simp only [offeredCode, code, if_neg size]
  have same : (s.setPocket { s.pocket with nextBundle := nextNumber s.pocket.nextBundle s.freeCount }).setFreeCount
      (drawNumber s.pocket.nextBundle s.freeCount) = numberedBundle s := rfl
  have isU : closeBundle g r .full s = completeBrick (some i) k u := by
    simp only [closeBundle, isGroup, offered, same, Option.bind_some, acc, if_true, target, Option.getD_some]
    simp only [u, bundleReport, target]
    rfl
  have group : u.group = (withAccumulator i a (numberedBundle s)).group := by
    simp only [u, bump_group, emit_group]
  have held : u.group.accs[i] = some a := by
    simp only [group]
    exact Vector.getElem_set_self _
  rw [isU, completeBrick_of_joined held, groupAt_congr (congrArg GroupUnit.groups group)]
  rfl

end

/-! ### GROUP_FLUSH (R116) -/

theorem exec_groupFlush_of_above {group : Byte} (above : 7 < group.toNat) (tag : Byte) (s : State) :
    exec (.groupFlush tag group) s = .next (refuse tag 0x31 .range s) := by
  show execGroupFlush tag group s = _
  simp only [execGroupFlush, groupOfByte_of_above above]
  rfl

theorem exec_groupFlush_of_named {group : Byte} {k : GroupNo} (named : group.toNat = k) (tag : Byte) (s : State) :
    exec (.groupFlush tag group) s = .next (request tag 0x31 [(s.line.state != .idle, .state), ((groupAt k s).members == [], .notFound)]
      (.flush (flushMembers k s).length (flushAccumulators k s).length) (flushGroup k) s) := by
  show execGroupFlush tag group s = _
  simp only [execGroupFlush, groupOfByte_of_named named]

theorem flushAccumulators_eq (k : GroupNo) (s : State) : flushAccumulators k s =
    (List.finRange 16).filter fun i => match s.group.accs[i] with
      | some a => a.group == k
      | none => false := by
  refine List.filter_congr fun i _ => ?_
  cases s.group.accs[i] <;> rfl

theorem mem_flushAccumulators (k : GroupNo) (s : State) (i : Fin 16) :
    i ∈ flushAccumulators k s ↔ ∃ a, s.group.accs[i] = some a ∧ a.group = k := by
  simp [flushAccumulators, Option.any_eq_true]

/-- What a flush leaves of the rest. -/
theorem flushGroup_eq (k : GroupNo) (s : State) : flushGroup k s =
    (flushAccumulators k s).foldl (fun u i => closeBrick i false u) ((flushMembers k s).foldl (fun u g => oddClose g u) s) := by
  have members : (flushMembers k s).foldl (fun u g => oddClose g u) s = (groupAt k s).members.foldl (fun u g => oddClose g u) s :=
    foldl_oddClose_filter _ fun _ _ closable => closable
  rw [members]
  simp only [flushGroup]
  rw [flushAccumulators, foldl_oddClose_accs]
  rfl

theorem flushGroup_rests (k : GroupNo) (s : State) : Rests s (flushGroup k s) := by
  rw [flushGroup_eq]
  exact (Rests.foldl (fun u g => oddClose_rests g u) _ s).trans (.foldl (fun u i => closeBrick_rests i false u) _ _)

theorem foldl_closeBrick_groups (closed : List (Fin 16)) (s : State) :
    (closed.foldl (fun u i => closeBrick i false u) s).group.groups = s.group.groups :=
  foldl_unchanged (fun u : State => u.group.groups) (fun u i => closeBrick_groups i false u) closed s

theorem pocketAt_flushGroup (k : GroupNo) (g : Gate) (s : State) :
    pocketAt g (flushGroup k s) = if g ∈ (groupAt k s).members then oddRecord (pocketAt g s) else pocketAt g s := by
  have bricks (closed : List (Fin 16)) (u : State) : pocketAt g (closed.foldl (fun u i => closeBrick i false u) u) = pocketAt g u :=
    pocketAt_congr (Aside.foldl (fun u i => closeBrick_aside i false u) closed u).pockets g
  rw [flushGroup, bricks, pocketAt_foldl_oddClose]

theorem accs_flushGroup (k : GroupNo) (i : Fin 16) (s : State) :
    (flushGroup k s).group.accs[i] = if i ∈ flushAccumulators k s then none else s.group.accs[i] := by
  simp only [flushGroup_eq, accs_foldl_closeBrick, foldl_oddClose_accs]

theorem groupAt_flushGroup (k j : GroupNo) (s : State) : (groupAt j (flushGroup k s)).members = (groupAt j s).members ∧
    (groupAt j (flushGroup k s)).current = (groupAt j s).current := by
  rw [flushGroup_eq, groupAt_congr (foldl_closeBrick_groups _ _), foldl_oddClose_members, foldl_oddClose_current]
  exact ⟨rfl, rfl⟩

/-- Settles O40: the flush, and the closes of a member, of a bundle and of a brick it is made of. -/
theorem groupFlushed : Obligations.GroupFlushed := by
  unfold Obligations.GroupFlushed
  refine ⟨fun tag group s => ?_, fun g s => ?_, fun g k r close s isGroup count => ?_, fun i complete s => ?_⟩
  · refine ⟨fun above => exec_groupFlush_of_above above tag s, fun k named => ?_⟩
    have run := exec_groupFlush_of_named named tag s
    refine ⟨fun notIdle => ?_, fun idle none => ?_, fun idle some_ => ?_⟩
    · refine run.trans (congrArg Host.Outcome.next (request_of_refusal ?_ _ _ _ _ _))
      rw [firstRefusal_cons, bne_iff_ne.mpr notIdle]
      rfl
    · refine run.trans (congrArg Host.Outcome.next (request_of_refusal ?_ _ _ _ _ _))
      rw [idle, none]
      rfl
    · intro asked keyed
      have isKeyed : flushAccumulators k s = keyed := flushAccumulators_eq k s
      have isRun : exec (.groupFlush tag group) s = .next (flushGroup k (answer tag 0x31 (.flush asked.length keyed.length) s)) := by
        rw [run, isKeyed]
        refine congrArg Host.Outcome.next (request_of_pass ?_ _ _ _ _ _)
        rw [firstRefusal_cons, firstRefusal_cons, idle, beq_eq_false_iff_ne.mpr some_]
        rfl
      have pocket (g : Gate) := pocketAt_answer g tag 0x31 (.flush asked.length keyed.length) s
      have groups (j : GroupNo) := groupAt_answer j tag 0x31 (.flush asked.length keyed.length) s
      have rest := answer_work (touched := []) tag 0x31 (.flush asked.length keyed.length) s
      have restGroup := answer_group tag 0x31 (.flush asked.length keyed.length) s
      have rests := answer_rests tag 0x31 (.flush asked.length keyed.length) s
      generalize answer tag 0x31 (.flush asked.length keyed.length) s = u at isRun pocket groups rest restGroup rests
      have sameAsked : flushMembers k u = asked := by
        rw [flushMembers, groups]
        exact List.filter_congr fun g _ => by rw [pocket]; rfl
      have sameKeyed : flushAccumulators k u = keyed := by
        rw [flushAccumulators, restGroup]
        exact isKeyed
      have work := rest.trans (flushGroup_work k u) (touched := [.pocket, .group])
      refine ⟨_, isRun, ?_, fun g => ?_, fun i a held isK => ?_, fun i other => ?_, fun j => ?_, work.stands .edge, work.stands .route,
        work.stands .watch, work.stands .deposit, ?_, (rests.trans (flushGroup_rests k u)).idle idle⟩
      · rw [flushGroup_eq, sameAsked, sameKeyed]
      · rw [pocketAt_flushGroup, groups, pocket]
        by_cases isMember : g ∈ (groupAt k s).members
        · simp only [isMember, if_true, true_and]
          rfl
        · simp only [isMember, if_false, false_and]
      · rw [accs_flushGroup, if_pos]
        rw [mem_flushAccumulators, restGroup]
        exact ⟨a, held, isK⟩
      · rw [accs_flushGroup, if_neg, restGroup]
        rw [mem_flushAccumulators, restGroup]
        rintro ⟨a, held, isK⟩
        exact other a held isK
      · rw [← groups]
        exact groupAt_flushGroup k j u
      · exact (congrArg TrackUnit.queue (work.stands .track)).trans rfl
  · intro r odd put
    refine ⟨fun not => oddClose_of_not_closable ?_, fun isOpen held => ⟨fun all => oddClose_of_full isOpen held all,
      fun flying => oddClose_of_flying isOpen held flying⟩⟩
    rw [← Bool.not_eq_true, oddClosable_iff]
    rintro ⟨isOpen, held⟩
    exact not.elim (absurd isOpen) (absurd · held.ne')
  · intro number numbered report reported keyed joined
    refine ⟨fun unoffered => closeBundle_of_unoffered isGroup count unoffered, fun d isFull size code => ?_⟩
    subst isFull
    have target := count rfl
    have join {i : Fin 16} (acc : accumulatorFor k d (numberedBundle s) = some i) :
        closeBundle g r .full s = joined i (joinedTo k d number r s.group.accs[i]) :=
      closeBundle_of_offered isGroup target size code acc
    refine ⟨fun i a held aGroup aDenom first => ?_, fun unkeyed => ⟨fun i free first => ?_, fun full => ?_⟩⟩
    · rw [join (accumulatorFor_of_keyed (s := numberedBundle s) ⟨a, held, aGroup, aDenom⟩ first), held]
      rfl
    · rw [join (accumulatorFor_of_free (s := numberedBundle s) unkeyed free first), free]
      exact congrArg (joined i) (by simp [joinedTo])
    · exact closeBundle_of_unbricked isGroup target size code (accumulatorFor_of_full (s := numberedBundle s) unkeyed full)
  · exact ⟨fun free => closeBrick_of_free free complete, fun a held => closeBrick_of_held held complete⟩

end Sys2Proof.Machine
end

section
/-! SUPPORT. The Declaration Table (R150 to R152). -/

set_option Elab.async false

namespace Sys2Proof.Machine

/-- The first of a list that passes a test. -/
theorem find?_of_first {α : Type} {p : α → Bool} {list before after : List α} {a : α} (split : list = before ++ a :: after)
    (others : ∀ x ∈ before, p x = false) (passes : p a = true) : list.find? p = some a :=
  List.find?_eq_some_iff_append.mpr ⟨passes, before, after, split, fun x inBefore => by rw [others x inBefore]; rfl⟩

/-! ### What DECLARE reads -/

theorem linesFaulty_iff (lines : List (Byte × Half)) : linesFaulty lines = true ↔
    lines = [] ∨ 16 < lines.length ∨ (∃ l ∈ lines, 31 < l.1.toNat ∨ l.2 = 0) ∨ ¬ (lines.map (·.1)).Nodup := by
  simp only [linesFaulty, Bool.or_eq_true, List.isEmpty_iff, List.any_eq_true, decide_eq_true_eq, beq_iff_eq, Bool.not_eq_true',
    decide_eq_false_iff_not, or_assoc]

theorem declarationOf_isSome_iff (id : Word) (s : State) :
    (declarationOf id s).isSome = true ↔ ∃ e ∈ s.deposit.declarations, e.id = id := by
  simp [declarationOf, List.find?_isSome]

theorem declarationOf_of_first {id : Word} {s : State} {older newer : List Declaration} {e : Declaration}
    (table : s.deposit.declarations = older ++ e :: newer) (others : ∀ x ∈ older, x.id ≠ id) (isId : e.id = id) :
    declarationOf id s = some e :=
  find?_of_first table (fun x inOlder => beq_eq_false_iff_ne.mpr (others x inOlder)) (beq_iff_eq.mpr isId)

theorem heldSlot_of_none {id : Word} {s : State} (notHeld : ∀ d ∈ s.deposit.deposits, d.id ≠ id) : heldSlot id s = none := by
  have notFound : (s.deposit.deposits.find? fun d => d.id == id) = none :=
    List.find?_eq_none.mpr fun d held => by rw [beq_iff_eq]; exact notHeld d held
  rw [heldSlot, notFound]
  rfl

theorem heldSlot_of_first {id : Word} {s : State} {older younger : List Deposit} {d : Deposit}
    (deposits : s.deposit.deposits = older ++ d :: younger) (others : ∀ x ∈ older, x.id ≠ id) (isId : d.id = id) :
    heldSlot id s = some d.slot := by
  have found : (s.deposit.deposits.find? fun d => d.id == id) = some d :=
    find?_of_first deposits (fun x inOlder => beq_eq_false_iff_ne.mpr (others x inOlder)) (beq_iff_eq.mpr isId)
  rw [heldSlot, found]
  rfl

/-- An entry's denominations are read off the low five bits. -/
theorem newDeclaration_eq (id : Word) (lines : List (Byte × Half)) (s : State) : newDeclaration id lines s =
    { id := id, lines := lines.map fun l => (BitVec.ofNat 5 l.1.toNat, l.2.toNat), bound := (heldSlot id s).isSome } := by
  have low (b : Byte) : b.extractLsb' 0 5 = BitVec.ofNat 5 b.toNat := BitVec.eq_of_toNat_eq (by simp)
  simp only [newDeclaration, low]

/-! ### DECLARE and DECLARE_CANCEL -/

section

variable {tag : Byte} {id : Word} {lines : List (Byte × Half)} {s : State}

theorem exec_declare_of_faulty (faulty : linesFaulty lines = true) :
    exec (.declare tag id lines) s = .next (refuse tag 0x40 .range s) :=
  congrArg Host.Outcome.next (request_of_refusal (by rw [firstRefusal_cons, faulty]; rfl) _ _ _ _ _)

theorem exec_declare_of_declared (sound : linesFaulty lines = false) (declared : (declarationOf id s).isSome = true) :
    exec (.declare tag id lines) s = .next (refuse tag 0x40 .duplicate s) :=
  congrArg Host.Outcome.next (request_of_refusal (by rw [firstRefusal_cons, sound, firstRefusal_cons, declared]; rfl) _ _ _ _ _)

theorem exec_declare_of_full (sound : linesFaulty lines = false) (new : (declarationOf id s).isSome = false)
    (full : 8 ≤ s.deposit.declarations.length) : exec (.declare tag id lines) s = .next (refuse tag 0x40 .full s) := by
  refine congrArg Host.Outcome.next (request_of_refusal ?_ _ _ _ _ _)
  rw [firstRefusal_cons, sound, firstRefusal_cons, new, firstRefusal_cons, Config.declarationCapacity, decide_eq_true full]
  rfl

theorem exec_declare_of_room (sound : linesFaulty lines = false) (new : (declarationOf id s).isSome = false)
    (room : s.deposit.declarations.length < 8) :
    let u := answer tag 0x40 (.slot (heldSlot id s)) s
    exec (.declare tag id lines) s = .next { u with deposit := { s.deposit with
      declarations := s.deposit.declarations ++ [newDeclaration id lines s] } } := by
  intro u
  refine congrArg Host.Outcome.next ((request_of_pass ?_ _ _ _ _ _).trans ?_)
  · rw [firstRefusal_cons, sound, firstRefusal_cons, new, firstRefusal_cons, Config.declarationCapacity, decide_eq_false (Nat.not_le.mpr room)]
    rfl
  · simp only [newDeclaration, heldSlot, answer_deposit]
    rfl

theorem exec_declareCancel_of_unknown (unknown : (declarationOf id s).isNone = true) :
    exec (.declareCancel tag id) s = .next (refuse tag 0x41 .notFound s) :=
  congrArg Host.Outcome.next (request_of_refusal (by rw [firstRefusal_cons, unknown]; rfl) _ _ _ _ _)

theorem exec_declareCancel_of_bound {e : Declaration} (found : declarationOf id s = some e) (bound : e.bound = true) :
    exec (.declareCancel tag id) s = .next (refuse tag 0x41 .state s) :=
  congrArg Host.Outcome.next (request_of_refusal (by rw [found, firstRefusal_cons, firstRefusal_cons, Option.any_some, bound]; rfl) _ _ _ _ _)

theorem exec_declareCancel_of_unbound {e : Declaration} (found : declarationOf id s = some e) (unbound : e.bound = false) :
    let u := answer tag 0x41 .none s
    exec (.declareCancel tag id) s = .next { u with deposit := { s.deposit with
      declarations := s.deposit.declarations.filter fun d => d.id != id } } := by
  intro u
  refine congrArg Host.Outcome.next ((request_of_pass ?_ _ _ _ _ _).trans ?_)
  · rw [found, firstRefusal_cons, firstRefusal_cons, Option.any_some, unbound]
    rfl
  · simp only [answer_deposit]
    rfl

end

/-- Settles O44: each request by its checks in order. -/
theorem declarationsKept : Obligations.DeclarationsKept := by
  unfold Obligations.DeclarationsKept
  intro tag id lines s declare cancel table faulty declared entry
  have sound (notFaulty : ¬ faulty) : linesFaulty lines = false := Bool.eq_false_iff.mpr (mt (linesFaulty_iff lines).mp notFaulty)
  have new (notDeclared : ¬ declared) : (declarationOf id s).isSome = false :=
    Bool.eq_false_iff.mpr (mt (declarationOf_isSome_iff id s).mp notDeclared)
  refine ⟨fun isFaulty => exec_declare_of_faulty ((linesFaulty_iff lines).mpr isFaulty),
    fun notFaulty isDeclared => exec_declare_of_declared (sound notFaulty) ((declarationOf_isSome_iff id s).mpr isDeclared),
    fun notFaulty notDeclared full => exec_declare_of_full (sound notFaulty) (new notDeclared) full,
    fun notFaulty notDeclared room => ⟨fun notHeld => ?_, fun older d younger deposits others isId => ?_⟩,
    fun notDeclared => exec_declareCancel_of_unknown ?_, fun older e newer isTable others isId => ?_⟩
  · have run := exec_declare_of_room (tag := tag) (sound notFaulty) (new notDeclared) room
    rw [newDeclaration_eq, heldSlot_of_none notHeld] at run
    exact run
  · have run := exec_declare_of_room (tag := tag) (sound notFaulty) (new notDeclared) room
    rw [newDeclaration_eq, heldSlot_of_first deposits others isId] at run
    exact run
  · rw [← Option.not_isSome, new notDeclared]
    rfl
  · have found : declarationOf id s = some e :=
      declarationOf_of_first isTable (fun x inOlder => others x (List.mem_append_left _ inOlder)) isId
    refine ⟨exec_declareCancel_of_bound found, fun unbound => ?_⟩
    have kept (part : List Declaration) (apart : ∀ x ∈ part, x.id ≠ id) : (part.filter fun d => d.id != id) = part :=
      List.filter_eq_self.mpr fun x inPart => bne_iff_ne.mpr (apart x inPart)
    have left : (s.deposit.declarations.filter fun d => d.id != id) = older ++ newer := by
      rw [show s.deposit.declarations = _ from isTable, List.filter_append, List.filter_cons_of_neg (by simp [isId]),
        kept older fun x inOlder => others x (List.mem_append_left _ inOlder),
        kept newer fun x inNewer => others x (List.mem_append_right _ inNewer)]
    have run := exec_declareCancel_of_unbound (tag := tag) found unbound
    rw [left] at run
    exact run

end Sys2Proof.Machine
end

section
/-! SUPPORT. Close and reconciliation of a deposit (R147, R149, R159 to R164). -/

set_option Elab.async false

namespace Sys2Proof.Machine

/-! ### The result and the report of a close (R163, R164) -/

theorem mem_lineDenoms (k : Option Denom) : k ∈ lineDenoms := by
  cases k with
  | none => exact List.mem_append_right _ List.mem_cons_self
  | some d =>
    refine List.mem_append_left _ (List.mem_map.mpr ⟨d.toNat, List.mem_range.mpr d.isLt, ?_⟩)
    rw [BitVec.ofNat_toNat, BitVec.setWidth_eq]

theorem difference_iff (d : Deposit) (e : Declaration) :
    ((lineDenoms.any fun k => d.accepted[acceptedIndex k] != declaredCount e k) = true ∨ d.runOut.toList.any (· > 0) = true ∨ d.quarantine > 0) ↔
      (∃ k : Option Denom, d.accepted[acceptedIndex k] ≠ declaredCount e k) ∨ (∃ i : Fin 10, 0 < d.runOut[i]) ∨ 0 < d.quarantine := by
  have lines : (lineDenoms.any fun k => d.accepted[acceptedIndex k] != declaredCount e k) = true ↔
      ∃ k : Option Denom, d.accepted[acceptedIndex k] ≠ declaredCount e k := by
    rw [List.any_eq_true]
    exact exists_congr fun k => ⟨fun ⟨_, differs⟩ => bne_iff_ne.mp differs, fun differs => ⟨mem_lineDenoms k, bne_iff_ne.mpr differs⟩⟩
  have runOut : d.runOut.toList.any (· > 0) = true ↔ ∃ i : Fin 10, 0 < d.runOut[i] := by
    rw [toList_eq_finRange, List.any_map, List.any_eq_true]
    exact exists_congr fun i => ⟨fun ⟨_, some_⟩ => of_decide_eq_true some_, fun some_ => ⟨List.mem_finRange i, decide_eq_true some_⟩⟩
  rw [lines, runOut]

/-- The lines of a DEPOSIT report are the denominations accepted or declared. -/
theorem depositLines_eq (d : Deposit) (decl : Option Declaration) : depositLines d decl =
    (lineDenoms.filter fun k => 0 < d.accepted[acceptedIndex k] || 0 < (decl.map fun e => declaredCount e k).getD 0).map fun k =>
      { denom := k, accepted := d.accepted[acceptedIndex k], declared := decl.map fun e => declaredCount e k } := by
  rw [depositLines, ← List.filterMap_eq_map, List.filterMap_filter]
  refine List.filterMap_congr fun k _ => ?_
  simp only [Function.comp_apply, Fin.getElem_fin]
  generalize d.accepted[(acceptedIndex k).val] = accepted
  cases decl with
  | none =>
    by_cases empty : accepted = 0
    · simp [empty]
    · simp [empty, Nat.pos_of_ne_zero empty]
  | some e =>
    by_cases empty : accepted = 0 ∧ declaredCount e k = 0
    · simp [empty]
    · have some_ : 0 < accepted ∨ 0 < declaredCount e k := by omega
      simp [empty, some_]

theorem declaredCount_of_absent {e : Declaration} {d : Denom} (absent : ∀ l ∈ e.lines, l.1 ≠ d) : declaredCount e (some d) = 0 := by
  have notFound : (e.lines.find? fun l => l.1 == d) = none :=
    List.find?_eq_none.mpr fun l inLines => by rw [beq_iff_eq]; exact absent l inLines
  simp only [declaredCount, notFound]
  rfl

theorem declaredCount_of_first {e : Declaration} {before after : List (Denom × Nat)} {d : Denom} {n : Nat}
    (lines : e.lines = before ++ (d, n) :: after) (others : ∀ l ∈ before, l.1 ≠ d) : declaredCount e (some d) = n := by
  have found : (e.lines.find? fun l => l.1 == d) = some (d, n) :=
    find?_of_first lines (fun l inBefore => beq_eq_false_iff_ne.mpr (others l inBefore)) (beq_self_eq_true d)
  simp only [declaredCount, found]
  rfl

/-! ### The deposits held (R148, R149) -/

section

variable {s : State} {older younger : List Deposit} {d : Deposit}

theorem openDeposit_of_none (closed : ∀ d ∈ s.deposit.deposits, d.state ≠ .openState) : openDeposit s = none :=
  List.find?_eq_none.mpr fun d held => by rw [beq_iff_eq]; exact closed d held

theorem openDeposit_of_first (deposits : s.deposit.deposits = older ++ d :: younger) (others : ∀ x ∈ older, x.state ≠ .openState)
    (isOpen : d.state = .openState) : openDeposit s = some d :=
  find?_of_first deposits (fun x inOlder => beq_eq_false_iff_ne.mpr (others x inOlder)) (beq_iff_eq.mpr isOpen)

theorem depositAt_of_none {k : SlotNo} (free : ∀ d ∈ s.deposit.deposits, d.slot ≠ k) : depositAt k s = none :=
  List.find?_eq_none.mpr fun d held => by rw [beq_iff_eq]; exact free d held

theorem depositAt_of_first (deposits : s.deposit.deposits = older ++ d :: younger) (others : ∀ x ∈ older, x.slot ≠ d.slot) :
    depositAt d.slot s = some d :=
  find?_of_first deposits (fun x inOlder => beq_eq_false_iff_ne.mpr (others x inOlder)) (beq_self_eq_true _)

end

/-! ### The close of a deposit (R160, R161) -/

section

variable {k : SlotNo} {d : Deposit} {s : State} (held : depositAt k s = some d)

include held

theorem testClose_of_kept (kept : d.state = .openState ∨ 0 < d.inFlight ∨ s.line.state = .jammed) (after : Bool) : testClose k after s = s := by
  simp only [testClose, held]
  refine if_neg ?_
  rintro ⟨closing, none, notJammed⟩
  obtain isOpen | flying | jammed := kept
  · rw [closing] at isOpen
    cases isOpen
  · omega
  · exact notJammed jammed

theorem testClose_of_ended (closing : d.state = .closing) (none : d.inFlight = 0) (notJammed : s.line.state ≠ .jammed) (after : Bool) :
    let u := emit (depositReport d (boundDeclaration d.id s) after) s
    testClose k after s = { u with
      deposit := { s.deposit with
        deposits := s.deposit.deposits.filter fun x => x.slot != k
        declarations := s.deposit.declarations.filter fun e => !(e.id == d.id && e.bound) }
      line := { u.line with causes := { u.line.causes with depositFull := false } } } := by
  intro u
  have slot : d.slot = k := by simpa using List.find?_some held
  simp only [testClose, held]
  refine (if_pos ⟨closing, none, notJammed⟩).trans ?_
  simp only [closeDeposit, emit_deposit, slot]
  rfl

end

theorem countClose_inFlight (kind : ItemKind) (reason : Reason) (dest : Dest) (close : ItemClose) (d : Deposit) :
    (countClose kind reason dest close d).inFlight = d.inFlight := by
  cases close with
  | lost => rfl
  | shadowed =>
    simp only [countClose]
    split <;> rfl
  | confirmed =>
    simp only [countClose]
    split
    · rfl
    · split
      · rfl
      · split <;> rfl

/-- The context of one slot's deposit replaced. -/
def atSlot (slot : Option SlotNo) (f : Deposit → Deposit) (s : State) : State := { s with deposit := { s.deposit with
  deposits := s.deposit.deposits.map fun d => if some d.slot = slot then f d else d } }

/-- An item without a slot changes no deposit. -/
theorem modifySlot_eq (slot : Option SlotNo) (f : Deposit → Deposit) (s : State) : modifySlot slot f s = atSlot slot f s := by
  cases slot with
  | none => simp [modifySlot, atSlot]
  | some k =>
    simp only [modifySlot, modifyDeposit, atSlot, Option.some.injEq]
    rfl

/-- Settles O46: the result and report of a close, the deposits held, and the counts an item brings. -/
theorem depositsReconciled : Obligations.DepositsReconciled := by
  unfold Obligations.DepositsReconciled
  refine ⟨fun d decl => ?_, fun d decl after => ?_, fun e => ⟨rfl, fun d => declaredCount_of_absent, fun before d n after =>
    declaredCount_of_first⟩, fun s => ⟨openDeposit_of_none, fun older d younger => openDeposit_of_first, fun k => depositAt_of_none,
    fun older d younger => depositAt_of_first, fun slot => rfl⟩, fun k d after s held => ⟨fun kept => testClose_of_kept held kept after,
    fun closing none notJammed => testClose_of_ended held closing none notJammed after⟩, fun e close s => ?_, fun slot denom s => ?_⟩
  · intro incomplete differs
    refine ⟨fun isIncomplete => if_pos isIncomplete, fun isComplete isNone => ?_, fun e isComplete isSome isDifferent => ?_,
      fun e isComplete isSome isSame => ?_⟩
    · rw [isNone]
      exact if_neg isComplete
    · rw [isSome]
      exact (if_neg isComplete).trans (if_pos ((difference_iff d e).mpr isDifferent))
    · rw [isSome]
      exact (if_neg isComplete).trans (if_neg (mt (difference_iff d e).mp isSame))
  · intro declared denoms
    rw [depositReport, depositLines_eq]
    rfl
  · intro card out counted
    refine ⟨fun none => by simp only [closeInDeposit, none], fun k isSlot => ?_⟩
    have count (d : Deposit) : countClose e.kind e.reason e.dest close d = counted d := by
      cases close with
      | lost => rfl
      | shadowed => rfl
      | confirmed =>
        simp only [counted, countClose]
        cases e.dest with
        | gated g => rfl
        | runOut =>
          refine ite_congr rfl (fun _ => rfl) fun _ => ?_
          cases e.reason <;> rfl
    have flight (d : Deposit) : (counted d).inFlight = d.inFlight := by
      rw [← count, countClose_inFlight]
    simp only [closeInDeposit, isSlot, count, flight]
    rfl
  · intro change
    refine ⟨?_, modifySlot_eq slot _ s, modifySlot_eq slot _ s⟩
    cases denom <;> rfl

end Sys2Proof.Machine
end

section
/-! SUPPORT. LINE_START, LINE_STOP, LINE_HALT, LINE_RESUME and the operator stop (R167 to R169, R173 to R179). -/

set_option Elab.async false

namespace Sys2Proof.Machine

/-! ### Requests of the Line State Unit -/

theorem lineRequest_of_refusal {checks : List (Bool × RefusalReason)} {reason : RefusalReason}
    (refused : firstRefusal checks = some reason) (tag code : Byte) (detail : Detail) (effect : State → State) (s : State) :
    lineRequest tag code checks detail effect s = refuse tag code reason s := by
  simp only [lineRequest, refused]

theorem lineRequest_of_pass {checks : List (Bool × RefusalReason)} (passed : firstRefusal checks = none) (tag code : Byte)
    (detail : Detail) (effect : State → State) (s : State) :
    lineRequest tag code checks detail effect s = takeBacklog (effect (hand (.answer tag code none detail) s)) := by
  simp only [lineRequest, passed]

/-! ### Changes of the line state, one at a time (R167 to R169, R139) -/

/-- The LINE report of a change for which no cause is named. -/
def moveReport (from_ to_ : LineState) (trigger : Trigger) (causes : CauseSet) (resume : Option Resume) (s : State) : Report := .line
  { from_ := from_, to_ := to_, trigger := trigger, cause := none, causes := causes, resume := resume, position := s.edge.position }

section

variable {s : State}

theorem changeLine_start (idle : s.line.state = .idle) (trigger : Trigger) : changeLine .run none trigger none s =
    hand (moveReport .idle .run trigger s.line.causes none s) { s with
      line := { s.line with state := .run, resume := none, runOut := true, feedEn := true }
      track := { s.track with stall := some s.track.startTime }
      edge := { s.edge with gap := none } } := by
  simp only [changeLine, enterLine, idle]
  rfl

theorem changeLine_drain (run : s.line.state = .run) (trigger : Trigger) : changeLine .drain none trigger none s =
    hand (moveReport .run .drain trigger s.line.causes none s) { s with
      line := { s.line with state := .drain, resume := none, runOut := true, feedEn := false } } := by
  simp only [changeLine, enterLine_eq (to_ := .drain) (by decide), run]
  rfl

theorem stallAfter_idle (from_ : LineState) (startTime : Nat) (stall : Option Nat) : stallAfter from_ .idle startTime stall = none := by
  cases from_ <;> rfl

theorem stallAfter_halt (from_ : LineState) (startTime : Nat) (stall : Option Nat) : stallAfter from_ .halt startTime stall = none := by
  cases from_ <;> rfl

theorem enterLine_idle (s : State) : enterLine .idle none s = { s with
    line := { s.line with state := .idle, resume := none, runOut := false, feedEn := false }
    track := { s.track with stall := none } } := by
  rw [enterLine_eq (by decide), stallAfter_idle]
  rfl

theorem changeLine_idle (trigger : Trigger) (s : State) : changeLine .idle none trigger none s =
    hand (moveReport s.line.state .idle trigger s.line.causes none s) { s with
      line := { s.line with state := .idle, resume := none, runOut := false, feedEn := false }
      track := { s.track with stall := none } } := by
  simp only [changeLine, enterLine_idle]
  rfl

theorem changeLine_halt (resume : Resume) (trigger : Trigger) (s : State) : changeLine .halt (some resume) trigger none s =
    hand (moveReport s.line.state .halt trigger s.line.causes (some resume) s) { s with
      line := { s.line with state := .halt, resume := some resume, runOut := false, feedEn := false }
      track := { s.track with stall := none } } := by
  simp only [changeLine, enterLine_eq (to_ := .halt) (by decide), stallAfter_halt]
  rfl

theorem changeLine_resume (halt : s.line.state = .halt) (resume : Resume) (trigger : Trigger) :
    changeLine resume.state none trigger none s =
      hand (moveReport .halt resume.state trigger s.line.causes none s) { s with
        line := { s.line with state := resume.state, resume := none, runOut := true, feedEn := resume == .run }
        track := { s.track with stall := some s.track.startTime } } := by
  cases resume <;> (simp only [changeLine, enterLine, halt]; rfl)

/-! ### The drain end (R176) -/

/-- The line brought from DRAIN to IDLE. -/
def drained (s : State) : State := hand (moveReport .drain .idle .drainEnd s.line.causes none s) { s with
  line := { s.line with state := .idle, resume := none, runOut := false, feedEn := false }
  track := { s.track with stall := none } }

theorem drainEndQuiet_of_empty (drain : s.line.state = .drain) (empty : s.track.queue = [] ∧ s.edge.fifo = []) :
    drainEndQuiet s = drained s := by
  refine (if_pos ⟨drain, empty⟩).trans ?_
  rw [changeLine_idle, drain]
  rfl

theorem drainEndQuiet_of_not_drain (notDrain : s.line.state ≠ .drain) : drainEndQuiet s = s := if_neg fun due => notDrain due.1

theorem drainEndQuiet_of_held (held : ¬ (s.track.queue = [] ∧ s.edge.fifo = [])) : drainEndQuiet s = s := if_neg fun due => held due.2

end

/-! ### The checks (R173 to R175, R179) -/

theorem causes_isEmpty_iff (c : CauseSet) : (!c.isEmpty) = false ↔ c = CauseSet.empty := by
  simp [CauseSet.isEmpty]

section

variable {tag : Byte} {s : State}

theorem exec_lineStart_of_refused {reason : RefusalReason}
    (refused : firstRefusal [(s.line.state != .idle || !s.track.loaded, .state), (!s.line.causes.isEmpty, .causes)] = some reason) :
    exec (.lineStart tag) s = .next (refuse tag 0x50 reason s) :=
  congrArg Host.Outcome.next (lineRequest_of_refusal refused _ _ _ _ _)

theorem exec_lineStart_of_taken (idle : s.line.state = .idle) (loaded : s.track.loaded = true) (free : s.line.causes = CauseSet.empty) :
    exec (.lineStart tag) s = .next (takeBacklog (changeLine .run none .lineStart none (hand (.answer tag 0x50 none .none) s))) := by
  refine congrArg Host.Outcome.next (lineRequest_of_pass ?_ _ _ _ _ _)
  rw [firstRefusal_cons, firstRefusal_cons, idle, loaded, (causes_isEmpty_iff _).mpr free]
  rfl

theorem exec_lineStop_of_taken (notJammed : s.line.state ≠ .jammed) :
    exec (.lineStop tag) s = .next (takeBacklog (stopLine (hand (.answer tag 0x51 none .none) s))) := by
  refine congrArg Host.Outcome.next (lineRequest_of_pass ?_ _ _ _ _ _)
  rw [firstRefusal_cons, beq_eq_false_iff_ne.mpr notJammed]
  rfl

theorem exec_lineHalt_of_taken (notJammed : s.line.state ≠ .jammed) :
    exec (.lineHalt tag) s = .next (takeBacklog (haltLine .command .lineHalt (hand (.answer tag 0x52 none .none) s))) := by
  refine congrArg Host.Outcome.next (lineRequest_of_pass ?_ _ _ _ _ _)
  rw [firstRefusal_cons, beq_eq_false_iff_ne.mpr notJammed]
  rfl

theorem exec_lineResume_of_refused {reason : RefusalReason}
    (refused : firstRefusal [(s.line.state != .halt, .state), (!s.line.causes.withoutHeld.isEmpty, .causes)] = some reason) :
    exec (.lineResume tag) s = .next (refuse tag 0x53 reason s) :=
  congrArg Host.Outcome.next (lineRequest_of_refusal refused _ _ _ _ _)

theorem exec_lineResume_of_taken (halt : s.line.state = .halt) (free : s.line.causes.withoutHeld = CauseSet.empty) :
    exec (.lineResume tag) s = .next (takeBacklog (resumeLine (hand (.answer tag 0x53 none .none) s))) := by
  refine congrArg Host.Outcome.next (lineRequest_of_pass ?_ _ _ _ _ _)
  rw [firstRefusal_cons, firstRefusal_cons, halt, (causes_isEmpty_iff _).mpr free]
  rfl

end

/-! ### The effects -/

section

variable {s : State}

theorem stopLine_of_still (still : s.line.state = .idle ∨ s.line.state = .drain) : stopLine s = s := by
  obtain idle | drain := still
  · simp only [stopLine, idle]
  · simp only [stopLine, drain]

theorem stopLine_of_halt (halt : s.line.state = .halt) : stopLine s = { s with line := { s.line with resume := some .drain } } := by
  have effect : stopLine s = resumeToDrain s := by simp only [stopLine, halt]
  exact effect

theorem stopLine_of_run (run : s.line.state = .run) : stopLine s =
    drainEndQuiet (hand (moveReport .run .drain .lineStop s.line.causes none s) { s with
      line := { s.line with state := .drain, resume := none, runOut := true, feedEn := false } }) := by
  simp only [stopLine, run, changeLine_drain run]

theorem resumeLine_of_target {resume : Resume} (halt : s.line.state = .halt) (target : s.line.resume = some resume) : resumeLine s =
    drainEndQuiet (hand (moveReport .halt resume.state .lineResume s.line.causes.withoutHeld none s) { s with
      line := { s.line with state := resume.state, causes := s.line.causes.withoutHeld, resume := none, runOut := true, feedEn := resume == .run }
      track := { s.track with stall := some s.track.startTime } }) := by
  simp only [resumeLine, target, changeLine_resume (s := dropHeld s) halt]
  rfl

theorem haltLine_of_still (still : s.line.state = .idle ∨ s.line.state = .jammed) (c : Cause) (trigger : Trigger) : haltLine c trigger s = s := by
  obtain idle | jammed := still
  · simp only [haltLine, idle]
  · simp only [haltLine, jammed]

theorem haltLine_of_halt (halt : s.line.state = .halt) (c : Cause) (trigger : Trigger) : haltLine c trigger s = putCause true c s := by
  simp only [haltLine, halt]

/-- A running line halts with the state it ran in as its resume target. -/
theorem haltLine_of_running {resume : Resume} (runs : s.line.state = resume.state) (c : Cause) (trigger : Trigger) : haltLine c trigger s =
    hand (moveReport s.line.state .halt trigger (s.line.causes.put true c) (some resume) s) { s with
      line := { s.line with state := .halt, causes := s.line.causes.put true c, resume := some resume, runOut := false, feedEn := false }
      track := { s.track with stall := none } } := by
  have effect : haltLine c trigger s = changeLine .halt (some resume) trigger none (putCause true c s) := by
    cases resume <;> simp only [haltLine, runs, Resume.state]
  rw [effect, changeLine_halt]
  rfl

end

end Sys2Proof.Machine
end

section
/-! SUPPORT. The two statements about the requests of the Line State Unit (R167 to R169, R173 to R179). -/

set_option Elab.async false

namespace Sys2Proof.Machine

/-- Settles O47: LINE_START, LINE_STOP and LINE_RESUME by the line state, the causes, the resume target and the two queues. -/
theorem lineMoves : Obligations.LineMoves := by
  unfold Obligations.LineMoves
  intro tag s u report empty drainedBy
  refine ⟨fun refused => ?_, fun idle loaded held => ?_, fun idle loaded free => ?_, fun jammed => ?_, fun still => ?_, fun halt => ?_,
    fun run => ?_, fun notHalt => ?_, fun halt held => ?_, fun halt free => ?_⟩
  · have check : (s.line.state != .idle || !s.track.loaded) = true := by simpa [bne_iff_ne] using refused
    exact exec_lineStart_of_refused (by rw [firstRefusal_cons, check]; rfl)
  · have check : (!s.line.causes.isEmpty) = true := by
      rw [← Bool.not_eq_false, causes_isEmpty_iff]
      exact held
    exact exec_lineStart_of_refused (reason := .causes) (by rw [firstRefusal_cons, firstRefusal_cons, idle, loaded, check]; rfl)
  · rw [exec_lineStart_of_taken idle loaded free, changeLine_start (by rw [hand_line, idle])]
    simp only [moveReport, hand_line, hand_track, hand_edge, free]
    rfl
  · exact congrArg Host.Outcome.next (lineRequest_of_refusal (by rw [firstRefusal_cons, jammed]; rfl) _ _ _ _ _)
  · have notJammed : s.line.state ≠ .jammed := by
      obtain idle | drain := still
      · simp [idle]
      · simp [drain]
    rw [exec_lineStop_of_taken notJammed, stopLine_of_still (by rwa [hand_line])]
  · rw [exec_lineStop_of_taken (by simp [halt]), stopLine_of_halt (by rwa [hand_line])]
    simp only [hand_line]
    rfl
  · intro d
    rw [exec_lineStop_of_taken (by simp [run]), stopLine_of_run (by rwa [hand_line])]
    refine ⟨fun isEmpty => ?_, fun notEmpty => ?_⟩
    · rw [drainEndQuiet_of_empty (by rw [hand_line]) (by simpa only [hand_track, hand_edge] using isEmpty)]
      simp only [drained, drainedBy, d, u, report, moveReport, hand_line, hand_track, hand_edge]
    · rw [drainEndQuiet_of_held (by simpa only [hand_track, hand_edge] using notEmpty)]
      simp only [d, u, report, moveReport, hand_line, hand_edge]
  · exact exec_lineResume_of_refused (by rw [firstRefusal_cons, bne_iff_ne.mpr notHalt]; rfl)
  · have check : (!s.line.causes.withoutHeld.isEmpty) = true := by
      rw [← Bool.not_eq_false, causes_isEmpty_iff]
      exact held
    exact exec_lineResume_of_refused (reason := .causes) (by rw [firstRefusal_cons, firstRefusal_cons, halt, check]; rfl)
  · intro moved
    have free : s.line.causes.withoutHeld = CauseSet.empty := free
    have taken := exec_lineResume_of_taken (tag := tag) halt free
    refine ⟨fun target => ?_, fun target isEmpty => ?_, fun target notEmpty => ?_⟩
    · rw [taken, resumeLine_of_target (resume := .run) (by rwa [hand_line]) (by rwa [hand_line]),
        drainEndQuiet_of_not_drain (by rw [hand_line]; exact LineState.noConfusion)]
      simp only [moved, u, report, moveReport, Resume.state, hand_line, hand_track, hand_edge, free]
      rfl
    · rw [taken, resumeLine_of_target (resume := .drain) (by rwa [hand_line]) (by rwa [hand_line]),
        drainEndQuiet_of_empty (by rw [hand_line]; rfl) (by simpa only [hand_track, hand_edge] using isEmpty)]
      simp only [drained, drainedBy, moved, u, report, moveReport, Resume.state, hand_line, hand_track, hand_edge, free]
      rfl
    · rw [taken, resumeLine_of_target (resume := .drain) (by rwa [hand_line]) (by rwa [hand_line]),
        drainEndQuiet_of_held (by simpa only [hand_track, hand_edge] using notEmpty)]
      simp only [moved, u, report, moveReport, Resume.state, hand_line, hand_track, hand_edge, free]
      rfl

/-- Settles O48: LINE_HALT and the operator stop by the line state. -/
theorem lineHalts : Obligations.LineHalts := by
  unfold Obligations.LineHalts
  intro tag s law u report halted commanded stopped
  have notDue {t : State} (causes : t.line.causes.backlog = s.line.causes.backlog) (flag : t.report.backlog = s.report.backlog) :
      takeBacklog t = t := by
    refine takeBacklog_of_not_due ?_
    rw [causes, flag, law.backlog]
    rintro ⟨set, notHeld⟩
    rw [set] at notHeld
    cases notHeld
  have halts (resume : Resume) (runs : s.line.state = resume.state) :
      exec (.lineHalt tag) s = .next (halted u .lineHalt commanded resume) ∧
      exec .operatorStop s = .next (halted s .operator stopped resume) := by
    have notJammed : s.line.state ≠ .jammed := by
      cases resume <;> simp [runs, Resume.state]
    refine ⟨?_, ?_⟩
    · rw [exec_lineHalt_of_taken notJammed, haltLine_of_running (by rwa [hand_line])]
      simp only [halted, u, report, commanded, moveReport, hand_line, hand_track, hand_edge]
      rfl
    · show Host.Outcome.next (takeBacklog (haltLine .operator .operator s)) = _
      rw [haltLine_of_running runs]
      rfl
  refine ⟨fun jammed => ?_, fun idle => ?_, fun halt => ?_, fun run => ?_, fun drain => ?_, fun still => ?_, fun halt => ?_, fun run => ?_,
    fun drain => ?_⟩
  · exact congrArg Host.Outcome.next (lineRequest_of_refusal (by rw [firstRefusal_cons, jammed]; rfl) _ _ _ _ _)
  · rw [exec_lineHalt_of_taken (by simp [idle]), haltLine_of_still (.inl (by rwa [hand_line]))]
  · rw [exec_lineHalt_of_taken (by simp [halt]), haltLine_of_halt (by rwa [hand_line]), putCause]
    simp only [hand_line]
    rfl
  · exact (halts .run run).1
  · exact (halts .drain drain).1
  · show Host.Outcome.next (takeBacklog (haltLine .operator .operator s)) = _
    rw [haltLine_of_still still, notDue rfl rfl]
  · show Host.Outcome.next (takeBacklog (haltLine .operator .operator s)) = _
    rw [haltLine_of_halt halt, notDue (t := putCause true .operator s) rfl rfl]
    rfl
  · exact (halts .run run).2
  · exact (halts .drain drain).2

end Sys2Proof.Machine
end

section
/-! SUPPORT. The gates and the Track Queue (R131, R137, R140). -/

set_option Elab.async false

namespace Sys2Proof.Machine

/-! ### The gate outputs (R131) -/

theorem holdsGate_iff (g : Gate) (e : Entry) : e.holdsGate g = true ↔
    e.dest = .gated g ∧ ∃ w, e.divert = some w ∧ w.opened = true ∧ w.closed = false := by
  simp [Entry.holdsGate, Option.any_eq_true]

theorem getElem_gatesOf (queue : List Entry) (g : Gate) : (gatesOf queue)[g] = queue.any (·.holdsGate g) := Vector.getElem_ofFn _

/-- A gate is in divert exactly for an entry whose window is open. -/
theorem getElem_gatesOf_iff (queue : List Entry) (g : Gate) : (gatesOf queue)[g] = true ↔ ∃ e ∈ queue, e.dest = .gated g ∧
    ∃ w, e.divert = some w ∧ w.opened = true ∧ w.closed = false := by
  rw [getElem_gatesOf, List.any_eq_true]
  simp only [holdsGate_iff]

/-- Settles O51. -/
theorem gatesFollowWindows : Obligations.GatesFollowWindows := by
  unfold Obligations.GatesFollowWindows
  exact ⟨getElem_gatesOf_iff, fun s => ⟨takeGateExpiries s, rfl, rfl, rfl, fun g => getElem_gatesOf_iff _ g⟩⟩

/-! ### Entries taken out of the queue -/

theorem erase_of_first {α : Type} [BEq α] [LawfulBEq α] {list before after : List α} {a : α} (split : list = before ++ a :: after)
    (others : a ∉ before) : list.erase a = before ++ after := by
  rw [split, List.erase_append_right _ others, List.erase_cons_head]

theorem removeEntry_of_first {s : State} {before after : List Entry} {e : Entry} (queue : s.track.queue = before ++ e :: after)
    (others : e ∉ before) : removeEntry e s = { s with track := { s.track with
      queue := before ++ after, gates := gatesOf (before ++ after) } } := by
  rw [removeEntry, erase_of_first queue others]
  rfl

theorem foldl_erase_cons {α : Type} [BEq α] [LawfulBEq α] {a : α} {gone : List α} (kept : a ∉ gone) (list : List α) :
    gone.foldl List.erase (a :: list) = a :: gone.foldl List.erase list := by
  induction gone generalizing list with
  | nil => rfl
  | cons b rest ih =>
    have other : a ≠ b := fun same => kept (same ▸ List.mem_cons_self)
    have tail : (a :: list).erase b = a :: list.erase b := List.erase_cons_tail (by simpa using other)
    rw [List.foldl_cons, List.foldl_cons, tail, ih fun later => kept (List.mem_cons_of_mem b later)]

/-- What passes a test taken out, one after another. -/
theorem foldl_erase_filter {α : Type} [BEq α] [LawfulBEq α] (test : α → Bool) (list : List α) :
    (list.filter test).foldl List.erase list = list.filter fun a => !test a := by
  induction list with
  | nil => rfl
  | cons a rest ih =>
    cases passes : test a with
    | true => rw [List.filter_cons_of_pos passes, List.filter_cons_of_neg (by simp [passes]), List.foldl_cons, List.erase_cons_head, ih]
    | false =>
      have kept : a ∉ rest.filter test := fun later => by
        have := (List.mem_filter.mp later).2
        rw [passes] at this
        cases this
      rw [List.filter_cons_of_neg (by simp [passes]), List.filter_cons_of_pos (by simp [passes]), foldl_erase_cons kept, ih]

end Sys2Proof.Machine
end

section
/-! SUPPORT. An item's close and a withdrawal of one place (R91, R100, R137, R140, R160, R161). -/

set_option Elab.async false

namespace Sys2Proof.Machine

/-! ### The deposit of a closed item (R160, R161) -/

/-- A context replaced, its slot kept. -/
theorem depositAt_modifyDeposit {f : Deposit → Deposit} (slot : ∀ d, (f d).slot = d.slot) (j k : SlotNo) (s : State) :
    depositAt j (modifyDeposit k f s) = (depositAt j s).map fun d => if d.slot = k then f d else d := by
  have same (d : Deposit) : ((if d.slot = k then f d else d).slot == j) = (d.slot == j) := by
    split
    · rw [slot]
    · rfl
  show ((s.deposit.deposits.map fun d => if d.slot = k then f d else d).find? fun d => d.slot == j) = _
  rw [List.find?_map, show ((fun d : Deposit => d.slot == j) ∘ fun d => if d.slot = k then f d else d) = (fun d => d.slot == j) from funext same]
  rfl

/-- An item's close in the context of its deposit. -/
def closedIn (e : Entry) (close : ItemClose) (d : Deposit) : Deposit :=
  { countClose e.kind e.reason e.dest close d with inFlight := d.inFlight - 1 }

theorem countClose_slot_state (kind : ItemKind) (reason : Reason) (dest : Dest) (close : ItemClose) (d : Deposit) :
    (countClose kind reason dest close d).slot = d.slot ∧ (countClose kind reason dest close d).state = d.state := by
  cases close with
  | lost => exact ⟨rfl, rfl⟩
  | shadowed =>
    simp only [countClose]
    split <;> exact ⟨rfl, rfl⟩
  | confirmed =>
    simp only [countClose]
    split
    · exact ⟨rfl, rfl⟩
    · split
      · exact ⟨rfl, rfl⟩
      · split <;> exact ⟨rfl, rfl⟩

theorem closedIn_slot (e : Entry) (close : ItemClose) (d : Deposit) : (closedIn e close d).slot = d.slot :=
  (countClose_slot_state e.kind e.reason e.dest close d).1

theorem closedIn_state (e : Entry) (close : ItemClose) (d : Deposit) : (closedIn e close d).state = d.state :=
  (countClose_slot_state e.kind e.reason e.dest close d).2

theorem depositAt_counted {e : Entry} {k : SlotNo} (close : ItemClose) {s : State} {d : Deposit} (held : depositAt k s = some d) :
    depositAt k (modifyDeposit k (closedIn e close) s) = some (closedIn e close d) := by
  have isSlot : d.slot = k := by simpa using List.find?_some held
  rw [depositAt_modifyDeposit (closedIn_slot e close), held, Option.map_some, if_pos isSlot]

section

variable {e : Entry} {k : SlotNo} (slot : e.slot = some k) (close : ItemClose) {s : State}

include slot

theorem closeInDeposit_of_slot : closeInDeposit e close s = testClose k false (modifyDeposit k (closedIn e close) s) := by
  simp only [closeInDeposit, slot, countClose_inFlight]
  rfl

theorem depositAt_closeInDeposit_of_open {d : Deposit} (held : depositAt k s = some d) (isOpen : d.state = .openState) :
    depositAt k (closeInDeposit e close s) = some (closedIn e close d) := by
  have counted := depositAt_counted (e := e) close held
  rw [closeInDeposit_of_slot slot, testClose_of_kept counted (.inl ((closedIn_state e close d).trans isOpen)), counted]

/-- A CLOSING deposit goes with its last item. -/
theorem depositAt_closeInDeposit_of_closing {d : Deposit} (held : depositAt k s = some d) (closing : d.state = .closing)
    (notJammed : s.line.state ≠ .jammed) :
    depositAt k (closeInDeposit e close s) = if d.inFlight ≤ 1 then none else some (closedIn e close d) := by
  have counted := depositAt_counted (e := e) close held
  rw [closeInDeposit_of_slot slot]
  split
  next last =>
    rw [testClose_of_ended counted ((closedIn_state e close d).trans closing) (Nat.sub_eq_zero_of_le last) notJammed]
    refine depositAt_of_none fun x left => ?_
    simpa using (List.mem_filter.mp left).2
  next more =>
    have flying : 0 < (closedIn e close d).inFlight := Nat.sub_pos_of_lt (Nat.not_le.mp more)
    rw [testClose_of_kept counted (.inr (.inl flying)), counted]

end

/-! ### Works that leave the line at rest -/

theorem testClose_rests (k : SlotNo) (after : Bool) (s : State) : Rests s (testClose k after s) := by
  unfold testClose
  split
  · exact .ite ((emit_rests _ s).trans (.of_line rfl)) (.refl s)
  · exact .refl s

theorem closeInDeposit_rests (e : Entry) (close : ItemClose) (s : State) : Rests s (closeInDeposit e close s) := by
  cases slot : e.slot with
  | none =>
    simp only [closeInDeposit, slot]
    exact .refl s
  | some k =>
    rw [closeInDeposit_of_slot slot]
    exact Rests.trans (t := modifyDeposit k (closedIn e close) s) (.of_line rfl) (testClose_rests _ _ _)

theorem tallyClose_rests (e : Entry) (close : ItemClose) (s : State) : Rests s (tallyClose e close s) := by
  unfold tallyClose
  split
  · exact bump_rests _ s
  · split
    · exact bump_rests _ s
    · exact .refl s
  all_goals exact .refl s

theorem closeItem_rests (e : Entry) (close : ItemClose) (arrival : Option (Fin 16)) (traced : Bool) (s : State) :
    Rests s (closeItem e close arrival traced s) :=
  ((tallyClose_rests e close s).trans (.ite (emit_rests _ _) (.refl _))).trans (closeInDeposit_rests e close _)

theorem withdrawQuarantine_rests (q : Gate) (n : Nat) (s : State) : Rests s (withdrawQuarantine q n s) :=
  .ite ((putPocket_rests q _ s).trans (endCause_rests _ _)) (putPocket_rests q _ s)

theorem withdrawAt_rests (g : Gate) (n : Nat) (s : State) : Rests s (withdrawAt g n s) :=
  .ite (.refl s) (.ite (withdrawQuarantine_rests g n s) ((putPocket_rests g _ s).trans (memberChanged_rests g _ none _)))

/-! ### The queue after a close -/

theorem testClose_prefix (k : SlotNo) (after : Bool) (s : State) : s.report.queue <+: (testClose k after s).report.queue := by
  unfold testClose
  split
  · split
    · exact emit_prefix _ s
    · exact List.prefix_rfl
  · exact List.prefix_rfl

theorem closeInDeposit_prefix (e : Entry) (close : ItemClose) (s : State) : s.report.queue <+: (closeInDeposit e close s).report.queue := by
  cases slot : e.slot with
  | none => simp only [closeInDeposit, slot, List.prefix_rfl]
  | some k =>
    rw [closeInDeposit_of_slot slot]
    exact testClose_prefix k false (modifyDeposit k (closedIn e close) s)

/-- A TRACE report with room is in the queue. -/
theorem emit_trace_mem (x : TraceReport) {s : State} (room : s.report.queue.length < 48) :
    ∃ q ∈ (emit (.trace x) s).report.queue, q.report = .trace x := by
  have handed : hand (.trace x) s = enqueue (.trace x) s := if_pos room
  have joined : { report := .trace x, loss := s.report.lossMark } ∈ (emit (.trace x) s).report.queue := by
    rw [emit, handed]
    exact (takeBacklog_prefix _).subset (List.mem_append_right _ List.mem_cons_self)
  exact ⟨_, joined, rfl⟩

/-- A report brings one more at most, when the line does not run. -/
theorem emit_length_le {s : State} (still : s.line.state ≠ .run ∧ s.line.state ≠ .drain) {r : Report} (notTrace : ∀ x, r ≠ .trace x) :
    (emit r s).report.queue.length ≤ s.report.queue.length + 1 := by
  have backlog (t : State) (line : t.line = s.line) : (takeBacklog t).report = t.report := by
    unfold takeBacklog
    split
    · simp only [raiseQuiet]
      split
      · rfl
      · rw [line]
        split
        next run => exact absurd run still.1
        next drain => exact absurd drain still.2
        all_goals rfl
    · rfl
  rw [emit, backlog _ (hand_line r s), hand_of_not_trace notTrace, handPlain]
  split
  · rw [enqueue_queue, List.length_append, List.length_singleton]
  · rw [loseReport_queue]
    omega

theorem recountGroup_length_le {s : State} (still : s.line.state ≠ .run ∧ s.line.state ≠ .drain) (k : GroupNo) (item : Option Word) :
    (recountGroup k item s).report.queue.length ≤ s.report.queue.length + 1 := by
  simp only [recountGroup]
  split
  · split
    · exact emit_length_le (s := putGroup k { groupAt k s with armed := false } s) still fun _ => Report.noConfusion
    · exact Nat.le_succ _
  · split <;> exact Nat.le_succ _

theorem memberChanged_length_le {s : State} (still : s.line.state ≠ .run ∧ s.line.state ≠ .drain) (g : Gate) (old : PocketState)
    (item : Option Word) : (memberChanged g old item s).report.queue.length ≤ s.report.queue.length + 1 := by
  cases isGroup : groupOf g s with
  | none =>
    rw [memberChanged_of_none isGroup]
    exact Nat.le_succ _
  | some k =>
    rw [memberChanged_of_some isGroup]
    split
    · exact Nat.le_succ _
    · split
      · exact recountGroup_length_le (s := endCause (.groupFull k) s) still k item
      · exact recountGroup_length_le still k item

/-! ### A withdrawal of places (R91, R100) -/

/-- The quarantine pocket's record after a withdrawal. -/
def withdrawnQuarantine (n limit : Nat) (r : PocketRec) : PocketRec := { r with
  committed := r.committed - n, recount := true
  state := if r.state = .full ∧ r.committed - n < limit then .openState else r.state }

/-- The record of a pocket after a withdrawal of places. -/
def withdrawnAt (g : Gate) (n : Nat) (s : State) : PocketRec :=
  if n = 0 then pocketAt g s
  else if s.pocket.quarantine = some g then withdrawnQuarantine n s.pocket.limit (pocketAt g s)
  else (pocketAt g s).withdraw n

theorem putPocket_self (g : Gate) (s : State) : putPocket g (pocketAt g s) s = s := by
  have same : s.pocket.pockets.set g (pocketAt g s) = s.pocket.pockets := Vector.set_getElem_self _
  rw [putPocket, same]
  rfl

theorem memberChanged_self (g : Gate) (item : Option Word) (s : State) : memberChanged g (pocketAt g s).state item s = s := by
  cases isGroup : groupOf g s with
  | none => exact memberChanged_of_none isGroup _ item
  | some k => rw [memberChanged_of_some isGroup, if_pos rfl]

theorem withdrawQuarantine_eq (q : Gate) (n : Nat) (s : State) :
    let r := withdrawnQuarantine n s.pocket.limit (pocketAt q s)
    withdrawQuarantine q n s = { putPocket q r s with line := { s.line with causes := { s.line.causes with quarantineFull :=
      if (pocketAt q s).state = .full ∧ r.state ≠ .full then false else s.line.causes.quarantineFull } } } := by
  intro r
  simp only [withdrawQuarantine]
  by_cases reopens : (pocketAt q s).state = .full ∧ (pocketAt q s).committed - n < s.pocket.limit
  · have isOpen : r.state = .openState := if_pos reopens
    rw [if_pos reopens, if_pos ⟨reopens.1, by rw [isOpen]; decide⟩]
    simp only [r, withdrawnQuarantine, if_pos reopens]
    rfl
  · have stays : r.state = (pocketAt q s).state := if_neg reopens
    rw [if_neg reopens, if_neg (by rw [stays]; exact fun both => both.2 both.1)]
    simp only [r, withdrawnQuarantine, if_neg reopens]
    rfl

/-- A withdrawal replaces the record and hands on the change of state; one of no place changes nothing. -/
theorem withdrawAt_eq (g : Gate) (n : Nat) (s : State) : withdrawAt g n s =
    if s.pocket.quarantine = some g then
      { putPocket g (withdrawnAt g n s) s with line := { s.line with causes := { s.line.causes with quarantineFull :=
        if (pocketAt g s).state = .full ∧ (withdrawnAt g n s).state ≠ .full then false else s.line.causes.quarantineFull } } }
    else memberChanged g (pocketAt g s).state none (putPocket g (withdrawnAt g n s) s) := by
  by_cases zero : n = 0
  · have run : withdrawAt g n s = s := if_pos zero
    have record : withdrawnAt g n s = pocketAt g s := if_pos zero
    have stays : ¬ ((pocketAt g s).state = .full ∧ (pocketAt g s).state ≠ .full) := fun both => both.2 both.1
    simp only [run, record, putPocket_self, memberChanged_self, if_neg stays]
    split <;> rfl
  · have run : withdrawAt g n s = if s.pocket.quarantine = some g then withdrawQuarantine g n s
        else memberChanged g (pocketAt g s).state none (putPocket g ((pocketAt g s).withdraw n) s) := if_neg zero
    rw [run, withdrawnAt, if_neg zero]
    refine ite_congr rfl (fun isQ => ?_) fun notQ => ?_
    · rw [withdrawQuarantine_eq, if_pos isQ]
    · rw [if_neg notQ]

theorem pocketAt_withdrawAt (g h : Gate) (n : Nat) (s : State) :
    pocketAt h (withdrawAt g n s) = if h = g then withdrawnAt g n s else pocketAt h s := by
  rw [← pocketAt_putPocket, withdrawAt_eq]
  split
  · rfl
  · rw [pocketAt_memberChanged]

theorem withdrawAt_length_le {s : State} (still : s.line.state ≠ .run ∧ s.line.state ≠ .drain) (g : Gate) (n : Nat) :
    (withdrawAt g n s).report.queue.length ≤ s.report.queue.length + 1 := by
  rw [withdrawAt_eq]
  split
  · exact Nat.le_succ _
  · exact memberChanged_length_le (s := putPocket g (withdrawnAt g n s) s) still g _ none

theorem withdraw_of_emptied {r : PocketRec} {n : Nat} (committed : r.committed - n = 0) (confirmed : r.confirmed = 0) :
    r.withdraw n = PocketRec.fresh (if r.state = .closing then .openState else r.state) r.enabled := if_pos ⟨committed, confirmed⟩

theorem withdraw_of_held {r : PocketRec} {n : Nat} (held : 0 < r.committed - n ∨ 0 < r.confirmed) : r.withdraw n = { r with
    committed := r.committed - n, state := if r.state = .closing then .openState else r.state
    recount := r.recount || decide (0 < r.confirmed) } := if_neg fun empty => by omega

section

variable {g : Gate} {n : Nat} (some_ : 0 < n) {s : State}

include some_

theorem withdrawnAt_of_quarantine (isQ : s.pocket.quarantine = some g) :
    withdrawnAt g n s = withdrawnQuarantine n s.pocket.limit (pocketAt g s) := (if_neg some_.ne').trans (if_pos isQ)

theorem withdrawnAt_of_member (notQ : s.pocket.quarantine ≠ some g) : withdrawnAt g n s = (pocketAt g s).withdraw n :=
  (if_neg some_.ne').trans (if_neg notQ)

end

end Sys2Proof.Machine
end

section
/-! SUPPORT. Arrival windows that end with the item still in the queue, and the stall interval (R137, R139). -/

set_option Elab.async false

namespace Sys2Proof.Machine

/-! ### The entries whose window ends -/

theorem endedEntries_eq_nil {s : State} (none : ∀ e ∈ s.track.queue, ¬ e.arrival.last = s.edge.position) : endedEntries s = [] :=
  List.filter_eq_nil_iff.mpr fun e inQueue => by rw [beq_iff_eq]; exact none e inQueue

/-- The oldest of them comes first. -/
theorem endedEntries_eq_cons {s : State} {before after : List Entry} {e : Entry} (queue : s.track.queue = before ++ e :: after)
    (others : ∀ y ∈ before, ¬ y.arrival.last = s.edge.position) (ends : e.arrival.last = s.edge.position) :
    endedEntries s = e :: after.filter fun y => y.arrival.last == s.edge.position := by
  have none : (before.filter fun y => y.arrival.last == s.edge.position) = [] :=
    List.filter_eq_nil_iff.mpr fun y inBefore => by rw [beq_iff_eq]; exact others y inBefore
  rw [endedEntries, queue, List.filter_append, none, List.nil_append, List.filter_cons_of_pos (by rw [ends]; exact beq_self_eq_true _)]

theorem takeArrivalEnds_of_jammed {s : State} (jammed : s.line.state = .jammed) : takeArrivalEnds s = s := by
  simp only [takeArrivalEnds, jammed]

theorem takeArrivalEnds_of_idle {s : State} (idle : s.line.state = .idle) :
    takeArrivalEnds s = (endedEntries s).foldl (fun u e => declareMissing e u) s := by
  simp only [takeArrivalEnds, idle]

theorem takeArrivalEnds_of_running {s : State} {e : Entry} {rest : List Entry} (notJammed : s.line.state ≠ .jammed)
    (notIdle : s.line.state ≠ .idle) (ended : endedEntries s = e :: rest) : takeArrivalEnds s = enterJam (.missing e.item) s := by
  have run : takeArrivalEnds s = handJam (.missing e.item) s := by
    unfold takeArrivalEnds
    rw [ended]
    cases state : s.line.state with
    | jammed => exact absurd state notJammed
    | idle => exact absurd state notIdle
    | run | drain | halt => rfl
  exact run.trans (if_neg notJammed)

theorem takeArrivalEnds_of_none {s : State} (none : endedEntries s = []) : takeArrivalEnds s = s := by
  unfold takeArrivalEnds
  rw [none]
  cases s.line.state <;> rfl

/-! ### An item declared missing -/

/-- The withdrawal at a gated destination, and nothing at run-out. -/
def withdrawEntry (e : Entry) (s : State) : State :=
  match e.dest with
  | .gated g => withdrawAt g 1 s
  | .runOut => s

theorem declareMissing_eq (e : Entry) (s : State) :
    declareMissing e s = closeItem e .lost none true (withdrawEntry e (removeEntry e s)) := rfl

theorem closeItem_lost (e : Entry) (s : State) :
    closeItem e .lost none true s = closeInDeposit e .lost (emit (traceReport e .lost none s) s) := rfl

theorem withdrawEntry_work (e : Entry) (s : State) : Work [.pocket, .group] s (withdrawEntry e s) := by
  unfold withdrawEntry
  split
  · exact withdrawAt_work _ 1 s
  · exact .refl s

theorem withdrawEntry_rests (e : Entry) (s : State) : Rests s (withdrawEntry e s) := by
  unfold withdrawEntry
  split
  · exact withdrawAt_rests _ 1 s
  · exact .refl s

theorem withdrawEntry_length_le {s : State} (still : s.line.state ≠ .run ∧ s.line.state ≠ .drain) (e : Entry) :
    (withdrawEntry e s).report.queue.length ≤ s.report.queue.length + 1 := by
  unfold withdrawEntry
  split
  · exact withdrawAt_length_le still _ 1
  · exact Nat.le_succ _

theorem declareMissing_rests (e : Entry) (s : State) : Rests s (declareMissing e s) :=
  (Rests.trans (t := removeEntry e s) (.of_line rfl) (withdrawEntry_rests e _)).trans (closeItem_rests e .lost none true _)

theorem declareMissing_queue (e : Entry) (s : State) : (declareMissing e s).track.queue = s.track.queue.erase e := by
  have work : Work [.pocket, .group, .deposit] (removeEntry e s) (declareMissing e s) :=
    (withdrawEntry_work e _).trans (closeItem_work e .lost none true _)
  exact (congrArg TrackUnit.queue (work.stands .track)).trans rfl

theorem pocketAt_declareMissing (e : Entry) (g : Gate) (s : State) :
    pocketAt g (declareMissing e s) = pocketAt g (withdrawEntry e (removeEntry e s)) :=
  pocketAt_congr (congrArg PocketUnit.pockets ((closeItem_work e .lost none true (withdrawEntry e (removeEntry e s))).stands .pocket)) g

theorem pocketAt_declareMissing_of_gated {e : Entry} {g : Gate} (dest : e.dest = .gated g) (s : State) :
    pocketAt g (declareMissing e s) = withdrawnAt g 1 s := by
  rw [pocketAt_declareMissing, withdrawEntry, dest]
  exact (pocketAt_withdrawAt g g 1 _).trans (if_pos rfl)

theorem pocketAt_declareMissing_of_other {e : Entry} {g : Gate} (other : e.dest ≠ .gated g) (s : State) :
    pocketAt g (declareMissing e s) = pocketAt g s := by
  rw [pocketAt_declareMissing]
  unfold withdrawEntry
  split
  next h dest =>
    have there : g ≠ h := fun same => other (same ▸ dest)
    exact (pocketAt_withdrawAt h g 1 _).trans (if_neg there)
  next => rfl

/-- The state at the hand-off to the Deposit Unit keeps the deposits. -/
theorem exists_handOff (e : Entry) (s : State) : ∃ u, declareMissing e s = closeInDeposit e .lost u ∧ u.deposit = s.deposit ∧ Rests s u := by
  let w := withdrawEntry e (removeEntry e s)
  refine ⟨emit (traceReport e .lost none w) w, rfl, ?_, ?_⟩
  · exact (emit_deposit _ w).trans ((withdrawEntry_work e (removeEntry e s)).stands .deposit)
  · exact (Rests.trans (t := removeEntry e s) (.of_line rfl) (withdrawEntry_rests e _)).trans (emit_rests _ w)

theorem traceReport_congr (e : Entry) (close : ItemClose) (arrival : Option (Fin 16)) {s t : State} (deposit : t.deposit = s.deposit)
    (edge : t.edge = s.edge) : traceReport e close arrival t = traceReport e close arrival s := by
  simp only [traceReport, depositId, depositAt, deposit, edge]

/-- With room for a GROUP_LOW report before it, the TRACE report of a missing item joins the queue. -/
theorem declareMissing_trace {e : Entry} {s : State} (still : s.line.state ≠ .run ∧ s.line.state ≠ .drain)
    (room : s.report.queue.length < 47) :
    ∃ q ∈ (declareMissing e s).report.queue, q.report = traceReport e .lost none s := by
  have length := withdrawEntry_length_le (s := removeEntry e s) still e
  have same : traceReport e .lost none (withdrawEntry e (removeEntry e s)) = traceReport e .lost none s :=
    traceReport_congr e .lost none ((withdrawEntry_work e (removeEntry e s)).stands .deposit)
      ((withdrawEntry_work e (removeEntry e s)).stands .edge)
  rw [declareMissing_eq, closeItem_lost]
  generalize withdrawEntry e (removeEntry e s) = w at length same
  have before : w.report.queue.length < 48 := Nat.lt_of_le_of_lt length (Nat.succ_lt_succ room)
  obtain ⟨q, inQueue, isTrace⟩ := emit_trace_mem _ before
  exact ⟨q, (closeInDeposit_prefix e .lost _).subset inQueue, isTrace.trans same⟩

/-- The queue of an IDLE line after every item whose window ends is declared missing. -/
theorem foldl_declareMissing_queue (gone : List Entry) (s : State) :
    (gone.foldl (fun u e => declareMissing e u) s).track.queue = gone.foldl List.erase s.track.queue := by
  induction gone generalizing s with
  | nil => rfl
  | cons e rest ih => rw [List.foldl_cons, List.foldl_cons, ih, declareMissing_queue]

/-- Settles O52: the ends of windows by the line state, and the stall interval. -/
theorem missingItemsAndStalls : Obligations.MissingItemsAndStalls := by
  unfold Obligations.MissingItemsAndStalls
  intro s ends
  have run : exec .arrivalWindowEnd s = .next (takeArrivalEnds s) := rfl
  refine ⟨fun nothing => ?_, fun before e after queue others isEnd => ⟨fun notJammed notIdle => ?_, fun idle alone => ?_⟩, fun idle => ?_,
    fun stopped => ?_, fun runs notJammed => ?_⟩
  · rw [run]
    obtain jammed | none := nothing
    · rw [takeArrivalEnds_of_jammed jammed]
    · rw [takeArrivalEnds_of_none (endedEntries_eq_nil none)]
  · rw [run, takeArrivalEnds_of_running notJammed notIdle (endedEntries_eq_cons queue others isEnd)]
  · have only : endedEntries s = [e] := by
      rw [endedEntries_eq_cons queue others isEnd]
      refine congrArg (e :: ·) (List.filter_eq_nil_iff.mpr fun y inAfter => ?_)
      rw [beq_iff_eq]
      exact alone y inAfter
    have isRun : exec .arrivalWindowEnd s = .next (declareMissing e s) := by
      rw [run, takeArrivalEnds_of_idle idle, only]
      rfl
    have notBefore : e ∉ before := fun inBefore => others e inBefore isEnd
    have isRemoved := removeEntry_of_first queue notBefore
    have still : s.line.state ≠ .run ∧ s.line.state ≠ .drain := by simp [idle]
    have work := declareMissing_work e s
    have one : 0 < 1 := Nat.one_pos
    obtain ⟨u, handOff, deposit, rests⟩ := exists_handOff e s
    have notJammed : u.line.state ≠ .jammed := by rw [rests.idle idle]; decide
    have held {k : SlotNo} {d : Deposit} (isHeld : depositAt k s = some d) : depositAt k u = some d := by rwa [depositAt, deposit]
    refine ⟨_, isRun, ?_, (declareMissing_rests e s).idle idle, work.stands .edge, fun g other => pocketAt_declareMissing_of_other other s, ?_,
      fun g dest => ⟨fun isQ => ?_, fun notQ => ⟨fun committed confirmed => ?_, fun some_ => ?_⟩⟩, fun k d slot isHeld isOpen => ?_,
      fun k d slot isHeld closing => ?_, fun room => ?_⟩
    · rw [declareMissing_queue, erase_of_first queue notBefore]
    · intro removed put withdrawn
      have isWithdrawn : withdrawn = withdrawEntry e removed := by
        cases dest : e.dest with
        | runOut => simp only [withdrawn, withdrawEntry, dest]
        | gated g =>
          have record := pocketAt_declareMissing_of_gated dest s
          simp only [withdrawn, put, withdrawEntry, dest, record]
          exact (withdrawAt_eq g 1 removed).symm
      rw [isWithdrawn, declareMissing_eq, isRemoved]
    · rw [pocketAt_declareMissing_of_gated dest, withdrawnAt_of_quarantine one isQ]
      rfl
    · rw [pocketAt_declareMissing_of_gated dest, withdrawnAt_of_member one notQ, withdraw_of_emptied committed confirmed]
    · rw [pocketAt_declareMissing_of_gated dest, withdrawnAt_of_member one notQ, withdraw_of_held some_]
    · rw [handOff, depositAt_closeInDeposit_of_open slot .lost (held isHeld) isOpen]
      rfl
    · rw [handOff, depositAt_closeInDeposit_of_closing slot .lost (held isHeld) closing notJammed]
      rfl
    · exact declareMissing_trace still room
  · refine ⟨_, run, ?_⟩
    rw [takeArrivalEnds_of_idle idle, foldl_declareMissing_queue, endedEntries, foldl_erase_filter]
    rfl
  · exact congrArg Host.Outcome.next (if_neg (by rw [stopped]; exact Bool.false_ne_true))
  · exact congrArg Host.Outcome.next ((if_pos (Option.isSome_iff_ne_none.mpr runs)).trans (if_neg notJammed))

end Sys2Proof.Machine
end

section
/-! SUPPORT. Arrival pulses (R84, R85, R97, R101, R133 to R136, R140, R176). -/

set_option Elab.async false

namespace Sys2Proof.Machine

/-! ### The pocket a pulse names -/

theorem pocketOf_zero : pocketOf 0 = .runOut := rfl

theorem pocketOf_eq_gated_iff (p : Fin 16) (g : Gate) : pocketOf p = .gated g ↔ p.val = g.val + 1 := by
  unfold pocketOf
  split
  next zero => simp [zero]
  next some_ =>
    rw [Dest.gated.injEq, Fin.ext_iff]
    dsimp only
    omega

/-! ### Candidates (R134) -/

/-- A pulse at the entry's destination, within its arrival window. -/
def ArrivesHere (p : Fin 16) (s : State) (e : Entry) : Prop :=
  e.dest = pocketOf p ∧ (s.edge.position - e.arrival.first).toNat ≤ (e.arrival.last - e.arrival.first).toNat

/-- A pulse at the entry's shadow pocket, within its shadow window. -/
def ArrivesShaded (p : Fin 16) (s : State) (e : Entry) : Prop := ∃ h, e.shadow = some h ∧ Dest.gated h.pocket = pocketOf p ∧
  (s.edge.position - h.window.first).toNat ≤ (h.window.last - h.window.first).toNat

theorem window_holds_iff (w : Window) (x : Pos) : w.holds x = true ↔ (x - w.first).toNat ≤ (w.last - w.first).toNat := decide_eq_true_iff

theorem candidate_iff (p : Fin 16) (s : State) (e : Entry) :
    e.candidate (pocketOf p) s.edge.position = true ↔ ArrivesHere p s e ∨ ArrivesShaded p s e := by
  simp only [Entry.candidate, ArrivesHere, ArrivesShaded, Option.any_eq_true, window_holds_iff, Bool.or_eq_true, Bool.and_eq_true, beq_iff_eq]

theorem not_candidate {p : Fin 16} {s : State} {e : Entry} (other : ¬ ArrivesHere p s e ∧ ¬ ArrivesShaded p s e) :
    e.candidate (pocketOf p) s.edge.position = false :=
  Bool.eq_false_iff.mpr fun isCandidate => ((candidate_iff p s e).mp isCandidate).elim other.1 other.2

theorem takeArrival_of_none {p : Fin 16} {s : State} (none : ∀ e ∈ s.track.queue, ¬ ArrivesHere p s e ∧ ¬ ArrivesShaded p s e) :
    takeArrival p s = strayArrival p s := by
  have notFound : (s.track.queue.find? (·.candidate (pocketOf p) s.edge.position)) = Option.none :=
    List.find?_eq_none.mpr fun e inQueue => by rw [not_candidate (none e inQueue)]; exact Bool.false_ne_true
  simp only [takeArrival, notFound]

theorem takeArrival_of_first {p : Fin 16} {s : State} {before after : List Entry} {e : Entry} (queue : s.track.queue = before ++ e :: after)
    (others : ∀ y ∈ before, ¬ ArrivesHere p s y ∧ ¬ ArrivesShaded p s y) (arrives : ArrivesHere p s e ∨ ArrivesShaded p s e) :
    takeArrival p s = drainEnd (if e.dest = pocketOf p then confirmEntry e p s else confirmShadow e p s) := by
  have found : (s.track.queue.find? (·.candidate (pocketOf p) s.edge.position)) = some e :=
    find?_of_first queue (fun y inBefore => not_candidate (others y inBefore)) ((candidate_iff p s e).mpr arrives)
  simp only [takeArrival, found]

/-! ### A stray (R136) -/

theorem strayArrival_of_still {s : State} (still : s.line.state = .idle ∨ s.line.state = .jammed) (p : Fin 16) :
    strayArrival p s = bump .strayArrivals s := by
  obtain idle | jammed := still
  · simp only [strayArrival, idle]
  · simp only [strayArrival, jammed]

theorem strayArrival_of_running {s : State} (notIdle : s.line.state ≠ .idle) (notJammed : s.line.state ≠ .jammed) (p : Fin 16) :
    strayArrival p s = enterJam (.stray p) (recountMark (pocketOf p) (bump .strayArrivals s)) := by
  have work : Work [.pocket] s (recountMark (pocketOf p) (bump .strayArrivals s)) :=
    (bump_work (touched := []) .strayArrivals s).trans (recountMark_work (pocketOf p) _)
  have after : (recountMark (pocketOf p) (bump .strayArrivals s)).line.state ≠ .jammed := mt (work.stands .jam).mp notJammed
  have run : strayArrival p s = handJam (.stray p) (recountMark (pocketOf p) (bump .strayArrivals s)) := by
    unfold strayArrival
    cases state : s.line.state with
    | idle => exact absurd state notIdle
    | jammed => exact absurd state notJammed
    | run | drain | halt => rfl
  exact run.trans (if_neg after)

/-! ### A confirmation (R84, R85, R97, R101) -/

theorem confirmAt_of_runOut {e : Entry} (dest : e.dest = .runOut) (s : State) : confirmAt e s = confirmRunOut e s := by
  simp only [confirmAt, dest]

theorem confirmAt_of_quarantine {e : Entry} {g : Gate} (dest : e.dest = .gated g) {s : State} (isQ : s.pocket.quarantine = some g) :
    confirmAt e s = confirmQuarantine g e s := by
  simp only [confirmAt, dest, if_pos isQ]

theorem confirmAt_of_member {e : Entry} {g : Gate} (dest : e.dest = .gated g) {s : State} (notQ : s.pocket.quarantine ≠ some g) :
    confirmAt e s = confirmMember g e s := by
  simp only [confirmAt, dest, if_neg notQ]

theorem getElem_adjusted (counts : Vector Nat 11) (place : Option (Fin 11)) (i : Fin 11) :
    (match place with
      | some j => adjust counts j bumpCount
      | none => counts)[i] = if place = some i then min (counts[i] + 1) 65535 else counts[i] := by
  cases place with
  | none => rfl
  | some j =>
    by_cases here : j = i
    · subst here
      rw [if_pos rfl]
      exact Vector.getElem_set_self _
    · rw [if_neg fun same => here (Option.some.inj same)]
      exact Vector.getElem_set_ne j.isLt i.isLt (Fin.val_ne_of_ne here)

theorem getElem_confirmRunOut (e : Entry) (s : State) (i : Fin 11) : (confirmRunOut e s).pocket.runOutReasons[i] =
    if e.reason.runOutIndex = some i then min (s.pocket.runOutReasons[i] + 1) 65535 else s.pocket.runOutReasons[i] :=
  getElem_adjusted s.pocket.runOutReasons e.reason.runOutIndex i

theorem confirmQuarantine_eq (q : Gate) (e : Entry) (s : State) : confirmQuarantine q e s =
    countQuarantine e.slot { s with pocket := { s.pocket with
      pockets := s.pocket.pockets.set q { pocketAt q s with confirmed := (pocketAt q s).confirmed + 1 }
      manifest := s.pocket.manifest ++ [{ item := e.item, depositId := depositId e.slot s, denom := e.denom
                                          serial := e.serial, caseRef := e.caseRef, reason := e.reason }] } } := rfl

theorem confirmQuarantine_pocket (q : Gate) (e : Entry) (s : State) : (confirmQuarantine q e s).pocket = { s.pocket with
    pockets := s.pocket.pockets.set q { pocketAt q s with confirmed := (pocketAt q s).confirmed + 1 }
    manifest := s.pocket.manifest ++ [{ item := e.item, depositId := depositId e.slot s, denom := e.denom
                                        serial := e.serial, caseRef := e.caseRef, reason := e.reason }] } :=
  (modifySlot_work e.slot _ _).stands .pocket

/-- The counts of a confirmation at a member: its deposit, and the ACCEPTED tally of its code. -/
def countConfirmed (e : Entry) (u : State) : State :=
  match e.denom with
  | some d => takeBacklog (bumpQuiet (.accepted d) (countAccepted e.slot e.denom u))
  | none => countAccepted e.slot e.denom u

theorem countConfirmed_work (e : Entry) (u : State) : Work [.deposit] u (countConfirmed e u) := by
  unfold countConfirmed
  split
  · exact (modifySlot_work e.slot _ u).trans (bumpTally_work (touched := []) _ _)
  · exact modifySlot_work e.slot _ u

/-- A confirmation at a member, by whether it reaches the target. -/
theorem confirmMember_eq (g : Gate) (e : Entry) (s : State) :
    let r := (pocketAt g s).confirm (.ofId (depositId e.slot s))
    confirmMember g e s = if r.target = some r.confirmed then
        memberChanged g (pocketAt g s).state none (closeBundle g r r.closing.close (countConfirmed e (putPocket g r s)))
      else countConfirmed e (putPocket g r s) := by
  unfold confirmMember countConfirmed
  cases e.denom <;> rfl

theorem pocketAt_confirmMember (g h : Gate) (e : Entry) (s : State) : pocketAt h (confirmMember g e s) =
    if h = g then (pocketAt g s).confirm (.ofId (depositId e.slot s)) else pocketAt h s := by
  have counted (r : PocketRec) : pocketAt h (countConfirmed e (putPocket g r s)) = if h = g then r else pocketAt h s := by
    rw [pocketAt_congr (congrArg PocketUnit.pockets ((countConfirmed_work e (putPocket g r s)).stands .pocket)), pocketAt_putPocket]
  rw [confirmMember_eq]
  split
  · rw [pocketAt_memberChanged, pocketAt_closeBundle, counted]
  · rw [counted]

/-- The record of a confirmation, its contribution list and flag named (R85). -/
def confirmedWith (r : PocketRec) (contributions : List (DepositKey × Nat)) (many : Bool) : PocketRec := { r with
  confirmed := r.confirmed + 1, contributions := contributions, manyDeposits := many
  state := if r.target = some (r.confirmed + 1) then .full else r.state }

theorem confirm_of_pure {r : PocketRec} (isPure : r.depositPure = true) (key : DepositKey) :
    r.confirm key = confirmedWith r r.contributions r.manyDeposits := by
  simp only [PocketRec.confirm, if_pos isPure]
  rfl

theorem confirm_of_mixed {r : PocketRec} (mixed : r.depositPure = false) (key : DepositKey) : r.confirm key =
    confirmedWith r (addContribution r.contributions key).1 (r.manyDeposits || (addContribution r.contributions key).2) := by
  have notPure : ¬ r.depositPure = true := by simp [mixed]
  exact if_neg notPure

theorem any_contribution_iff (list : List (DepositKey × Nat)) (key : DepositKey) :
    (list.any fun p => p.1 == key) = true ↔ ∃ n, (key, n) ∈ list := by
  rw [List.any_eq_true]
  constructor
  · rintro ⟨⟨k, n⟩, inList, isKey⟩
    obtain rfl := beq_iff_eq.mp isKey
    exact ⟨n, inList⟩
  · rintro ⟨n, inList⟩
    exact ⟨_, inList, beq_self_eq_true key⟩

theorem addContribution_of_known {list : List (DepositKey × Nat)} {key : DepositKey} (known : ∃ n, (key, n) ∈ list) :
    addContribution list key = (list.map fun p => if p.1 = key then (p.1, p.2 + 1) else p, false) :=
  if_pos ((any_contribution_iff list key).mpr known)

theorem addContribution_of_room {list : List (DepositKey × Nat)} {key : DepositKey} (new : ¬ ∃ n, (key, n) ∈ list) (room : list.length < 8) :
    addContribution list key = (list ++ [(key, 1)], false) :=
  (if_neg (mt (any_contribution_iff list key).mp new)).trans (if_pos room)

theorem addContribution_of_full {list : List (DepositKey × Nat)} {key : DepositKey} (new : ¬ ∃ n, (key, n) ∈ list) (full : 8 ≤ list.length) :
    addContribution list key = (list, true) :=
  (if_neg (mt (any_contribution_iff list key).mp new)).trans (if_neg (Nat.not_lt.mpr full))

/-! ### The mark of a shadow (R86, R133) -/

theorem recountMark_of_quarantine {g : Gate} {s : State} (isQ : s.pocket.quarantine = some g) :
    recountMark (.gated g) s = putPocket g { pocketAt g s with recount := true } s := if_pos isQ

theorem recountMark_of_member {g : Gate} {s : State} (notQ : s.pocket.quarantine ≠ some g) : recountMark (.gated g) s =
    match (pocketAt g s).state with
    | .openState | .closing => putPocket g { pocketAt g s with recount := true } s
    | .full => putPocket g { pocketAt g s with lateMark := true } s
    | .unassigned => s := if_neg notQ

/-! ### The close of an item (R140) and the drain end (R176) -/

theorem closeItem_eq (e : Entry) (close : ItemClose) (arrival : Option (Fin 16)) (traced : Bool) (s : State) :
    closeItem e close arrival traced s = closeInDeposit e close
      (if traced then emit (traceReport e close arrival s) (tallyClose e close s) else tallyClose e close s) := by
  have work := tallyClose_work (touched := []) e close s
  have same := traceReport_congr e close arrival (work.stands .deposit) (work.stands .edge)
  rw [closeItem, same]

theorem drainEnd_of_empty {s : State} (drain : s.line.state = .drain) (empty : s.track.queue = [] ∧ s.edge.fifo = []) :
    drainEnd s = takeBacklog (drained s) := congrArg takeBacklog (drainEndQuiet_of_empty drain empty)

theorem drainEnd_of_not_due {s : State} (notDue : s.line.state ≠ .drain ∨ s.track.queue ≠ [] ∨ s.edge.fifo ≠ []) :
    drainEnd s = takeBacklog s := by
  refine congrArg takeBacklog (if_neg ?_)
  rintro ⟨drain, queue, fifo⟩
  simp [drain, queue, fifo] at notDue

/-! ### What a pulse leaves -/

theorem pulse_work (e : Entry) (close : ItemClose) (p : Fin 16) (traced : Bool) (u : State) :
    Work [.deposit] u (drainEnd (closeItem e close (some p) traced u)) :=
  (closeItem_work e close (some p) traced u).trans (drainEnd_work (touched := []) _)

theorem queue_gates_of_work {touched : List Block} {s t : State} (work : QuietWork touched s t) (untouched : apart [.track] touched = true := by rfl) :
    t.track.queue = s.track.queue ∧ t.track.gates = s.track.gates := by
  have track : t.track = { s.track with stall := t.track.stall } := work.stands .track untouched
  rw [track]
  exact ⟨rfl, rfl⟩

theorem key_eq (slot : Option SlotNo) (s : State) : DepositKey.ofId (depositId slot s) = match depositId slot s with
    | some w => .id w
    | none => .none := by
  cases depositId slot s <;> rfl

end Sys2Proof.Machine
end

section
/-! SUPPORT. The statement about arrival pulses (R133 to R136). -/

set_option Elab.async false

namespace Sys2Proof.Machine

/-- The Track Queue replaced, and the gates with it. -/
def withQueue (queue : List Entry) (s : State) : State := { s with track := { s.track with queue := queue, gates := gatesOf queue } }

section

variable {p : Fin 16} {s : State} {before after : List Entry} {e : Entry} (queue : s.track.queue = before ++ e :: after)
  (others : ∀ y ∈ before, ¬ ArrivesHere p s y ∧ ¬ ArrivesShaded p s y)

include queue others

theorem exec_arrivalPulse_here (here : ArrivesHere p s e) : exec (.arrivalPulse p) s =
    .next (drainEnd (closeItem e .confirmed (some p) e.trace (confirmAt e (withQueue (before ++ after) s)))) := by
  have notBefore : e ∉ before := fun inBefore => (others e inBefore).1 here
  have removed : removeEntry e s = withQueue (before ++ after) s := removeEntry_of_first queue notBefore
  refine congrArg Host.Outcome.next ((takeArrival_of_first queue others (.inl here)).trans ?_)
  rw [if_pos here.1, confirmEntry, removed]

theorem exec_arrivalPulse_shaded (shaded : ArrivesShaded p s e) (elsewhere : e.dest ≠ pocketOf p) : exec (.arrivalPulse p) s =
    .next (drainEnd (closeItem { e with reason := .pitchShadowed } .shadowed (some p) e.trace
      (recountMark (pocketOf p) (withQueue (before ++ after) s)))) := by
  have notBefore : e ∉ before := fun inBefore => (others e inBefore).2 shaded
  have removed : removeEntry e s = withQueue (before ++ after) s := removeEntry_of_first queue notBefore
  refine congrArg Host.Outcome.next ((takeArrival_of_first queue others (.inr shaded)).trans ?_)
  rw [if_neg elsewhere, confirmShadow, removed]

end

/-- The record a mark leaves, and the rest of the pocket unit. -/
theorem recountMark_pocket (g : Gate) (s : State) : ∃ r, (recountMark (.gated g) s).pocket = { s.pocket with pockets := s.pocket.pockets.set g r } ∧
    ((s.pocket.quarantine = some g ∨ (pocketAt g s).state = .openState ∨ (pocketAt g s).state = .closing) →
      r = { pocketAt g s with recount := true }) ∧
    (s.pocket.quarantine ≠ some g → (pocketAt g s).state = .full → r = { pocketAt g s with lateMark := true }) ∧
    (s.pocket.quarantine ≠ some g → (pocketAt g s).state = .unassigned → r = pocketAt g s) := by
  by_cases isQ : s.pocket.quarantine = some g
  · rw [recountMark_of_quarantine isQ]
    exact ⟨_, rfl, fun _ => rfl, fun notQ => absurd isQ notQ, fun notQ => absurd isQ notQ⟩
  · rw [recountMark_of_member isQ]
    cases state : (pocketAt g s).state with
    | openState | closing =>
      refine ⟨_, rfl, fun _ => rfl, fun _ other => ?_, fun _ other => ?_⟩ <;> cases other
    | full =>
      refine ⟨_, rfl, fun isMarked => ?_, fun _ _ => rfl, fun _ other => ?_⟩
      · simp [isQ] at isMarked
      · cases other
    | unassigned =>
      have same : s.pocket.pockets.set g (pocketAt g s) = s.pocket.pockets := Vector.set_getElem_self _
      refine ⟨pocketAt g s, by rw [same], fun isMarked => ?_, fun _ other => ?_, fun _ _ => rfl⟩
      · simp [isQ] at isMarked
      · cases other

theorem pocketAt_confirmQuarantine (q h : Gate) (e : Entry) (s : State) : pocketAt h (confirmQuarantine q e s) =
    if h = q then { pocketAt q s with confirmed := (pocketAt q s).confirmed + 1 } else pocketAt h s := by
  rw [← pocketAt_putPocket]
  refine pocketAt_congr ?_ h
  rw [confirmQuarantine_pocket]
  rfl

theorem pulse_pocket (e : Entry) (close : ItemClose) (p : Fin 16) (traced : Bool) (u : State) :
    (drainEnd (closeItem e close (some p) traced u)).pocket = u.pocket := (pulse_work e close p traced u).stands .pocket

/-- A confirmation at a member, with its record named. -/
theorem confirmAt_result {e : Entry} {g : Gate} {s : State} (dest : e.dest = .gated g) (notQ : s.pocket.quarantine ≠ some g)
    {contributions : List (DepositKey × Nat)} {many : Bool}
    (isRecord : (pocketAt g s).confirm (.ofId (depositId e.slot s)) = confirmedWith (pocketAt g s) contributions many) :
    let r := confirmedWith (pocketAt g s) contributions many
    (¬ (pocketAt g s).target = some ((pocketAt g s).confirmed + 1) → confirmAt e s = countConfirmed e (putPocket g r s)) ∧
    ((pocketAt g s).target = some ((pocketAt g s).confirmed + 1) → confirmAt e s =
      memberChanged g (pocketAt g s).state none (closeBundle g r (pocketAt g s).closing.close (countConfirmed e (putPocket g r s)))) := by
  intro r
  have run := confirmMember_eq g e s
  rw [isRecord] at run
  rw [confirmAt_of_member dest notQ, run]
  exact ⟨fun more => if_neg more, fun full => if_pos full⟩

/-- Settles O53: a pulse with no candidate, at a destination and at a shadow pocket, and the works it is made of. -/
theorem arrivalsTaken : Obligations.ArrivalsTaken := by
  unfold Obligations.ArrivalsTaken
  refine ⟨⟨pocketOf_zero, pocketOf_eq_gated_iff⟩, fun s => ⟨rfl, fun g => ⟨recountMark_of_quarantine, recountMark_of_member⟩⟩, fun p s => ?_,
    fun e g s dest => ?_, fun e close p traced s => closeItem_eq e close p traced s, fun s => ⟨fun drain queue fifo => ?_, fun notDue =>
      drainEnd_of_not_due notDue⟩⟩
  · intro removed within here shaded
    refine ⟨fun none => ?_, fun before e after queue others => ⟨fun isHere => ?_, fun isShaded elsewhere => ?_⟩⟩
    · have run : exec (.arrivalPulse p) s = .next (strayArrival p s) := congrArg Host.Outcome.next (takeArrival_of_none none)
      exact ⟨fun still => by rw [run, strayArrival_of_still still],
        fun notIdle notJammed => by rw [run, strayArrival_of_running notIdle notJammed]⟩
    · have pulse := pulse_work e .confirmed p e.trace (confirmAt e (withQueue (before ++ after) s))
      have work : Work [.pocket, .group, .deposit] (withQueue (before ++ after) s) _ :=
        (confirmAt_work e (withQueue (before ++ after) s)).trans pulse
      obtain ⟨sameQueue, sameGates⟩ := queue_gates_of_work work.toQuietWork
      have pocket := pulse_pocket e .confirmed p e.trace (confirmAt e (withQueue (before ++ after) s))
      refine ⟨_, exec_arrivalPulse_here queue others isHere, sameQueue, sameGates, rfl, work.stands .edge, work.stands .route,
        work.stands .watch, fun isRunOut => ?_, fun g isGate => ?_⟩
      · rw [confirmAt_of_runOut (isHere.1.trans isRunOut)] at pocket ⊢
        refine ⟨?_, fun i => ?_⟩
        · rw [pocket]
          rfl
        · simp only [pocket]
          exact getElem_confirmRunOut e (withQueue (before ++ after) s) i
      · have dest : e.dest = .gated g := isHere.1.trans isGate
        have record (h : Gate) := pocketAt_congr (congrArg PocketUnit.pockets pocket) h
        refine ⟨fun h other => ?_, fun isQ => ?_, fun notQ => ?_⟩
        · rw [record h]
          by_cases isQ : s.pocket.quarantine = some g
          · rw [confirmAt_of_quarantine (s := withQueue (before ++ after) s) dest isQ, pocketAt_confirmQuarantine, if_neg other]
            rfl
          · rw [confirmAt_of_member (s := withQueue (before ++ after) s) dest isQ, pocketAt_confirmMember, if_neg other]
            rfl
        · rw [record g, pocket, confirmAt_of_quarantine (s := withQueue (before ++ after) s) dest isQ, confirmQuarantine_pocket]
          exact ⟨(pocketAt_confirmQuarantine g g e _).trans (if_pos rfl), rfl⟩
        · obtain ⟨committed, confirmed, target, state⟩ := (pocketAt g s).confirm_counts (.ofId (depositId e.slot s))
          have here : pocketAt g (confirmMember g e (withQueue (before ++ after) s)) = (pocketAt g s).confirm (.ofId (depositId e.slot s)) :=
            (pocketAt_confirmMember g g e _).trans (if_pos rfl)
          rw [record g, confirmAt_of_member (s := withQueue (before ++ after) s) dest notQ, here]
          exact ⟨confirmed, committed, target, state⟩
    · have run := exec_arrivalPulse_shaded queue others isShaded elsewhere
      obtain ⟨h, -, isGate, -⟩ := isShaded
      rw [← isGate] at run
      have pulse := pulse_work { e with reason := .pitchShadowed } .shadowed p e.trace
        (recountMark (.gated h.pocket) (withQueue (before ++ after) s))
      have work : Work [.pocket, .deposit] (withQueue (before ++ after) s) _ :=
        (recountMark_work (.gated h.pocket) (withQueue (before ++ after) s)).trans pulse
      obtain ⟨sameQueue, -⟩ := queue_gates_of_work work.toQuietWork
      obtain ⟨r, isPocket, marked, late, stays⟩ := recountMark_pocket h.pocket (withQueue (before ++ after) s)
      have pocket := (pulse_pocket { e with reason := .pitchShadowed } .shadowed p e.trace
        (recountMark (.gated h.pocket) (withQueue (before ++ after) s))).trans isPocket
      refine ⟨h.pocket, _, run, isGate.symm, sameQueue, rfl, ?_⟩
      have record (g : Gate) := (pocketAt_congr (congrArg PocketUnit.pockets pocket) g).trans
        (pocketAt_putPocket g h.pocket r (withQueue (before ++ after) s))
      have here := (record h.pocket).trans (if_pos rfl)
      exact ⟨fun g other => (record g).trans (if_neg other), by rw [pocket]; rfl, by rw [pocket]; rfl,
        fun isMarked => here.trans (marked isMarked), fun notQ isFull => here.trans (late notQ isFull),
        fun notQ isUnassigned => here.trans (stays notQ isUnassigned)⟩
  · intro r key known full put counted result
    have isKey : DepositKey.ofId (depositId e.slot s) = key := key_eq e.slot s
    refine ⟨fun isQ => (confirmAt_of_quarantine dest isQ).trans (confirmQuarantine_eq g e s), fun notQ => ?_⟩
    have isResult {contributions : List (DepositKey × Nat)} {many : Bool} (isRecord : r.confirm key = confirmedWith r contributions many) :
        result (put contributions many) := confirmAt_result dest notQ (by rw [isKey]; exact isRecord)
    refine ⟨fun isPure => isResult (confirm_of_pure isPure key), fun mixed isKnown => isResult ?_, fun mixed new room => isResult ?_,
      fun mixed new isFull => isResult ?_⟩
    · rw [confirm_of_mixed mixed, addContribution_of_known isKnown, Bool.or_false]
    · rw [confirm_of_mixed mixed, addContribution_of_room new room, Bool.or_false]
    · rw [confirm_of_mixed mixed, addContribution_of_full new isFull, Bool.or_true]
  · rw [drainEnd_of_empty drain ⟨queue, fifo⟩]
    rfl

end Sys2Proof.Machine
end

section
/-! SUPPORT. A line at rest and its causes, and the withdrawals of a jam (R91, R100, R142, R144, R182). -/

set_option Elab.async false

namespace Sys2Proof.Machine

/-! ### What a line at rest keeps -/

theorem put_holds (causes : CauseSet) (held : Bool) (c d : Cause) :
    (causes.put held d).holds c = if c = d then held else causes.holds c := by
  cases d with
  | groupFull g =>
    cases c with
    | groupFull h =>
      simp only [CauseSet.put, CauseSet.holds, Cause.groupFull.injEq]
      split
      next same =>
        subst same
        exact Vector.getElem_set_self _
      next other => exact Vector.getElem_set_ne g.isLt h.isLt (Fin.val_ne_of_ne (Ne.symm other))
    | _ => rfl
  | _ => cases c <;> rfl

/-- Outside RUN and DRAIN the track stands, and the line but for the causes named. -/
def HoldsBut (changed : Cause → Prop) (s t : State) : Prop :=
  s.line.state ≠ .run ∧ s.line.state ≠ .drain → t.track = s.track ∧
    ∃ causes : CauseSet, t.line = { s.line with causes := causes } ∧ ∀ c, ¬ changed c → causes.holds c = s.line.causes.holds c

section

variable {changed : Cause → Prop}

theorem HoldsBut.of_same {s t : State} (track : t.track = s.track) (line : t.line = s.line) : HoldsBut changed s t :=
  fun _ => ⟨track, s.line.causes, line, fun _ _ => rfl⟩

theorem HoldsBut.refl (s : State) : HoldsBut changed s s := .of_same rfl rfl

theorem HoldsBut.trans {s t u : State} (one : HoldsBut changed s t) (two : HoldsBut changed t u) : HoldsBut changed s u := by
  intro still
  obtain ⟨track, causes, line, held⟩ := one still
  have state : t.line.state = s.line.state := by rw [line]
  obtain ⟨track', causes', line', held'⟩ := two (by rwa [state])
  refine ⟨track'.trans track, causes', ?_, fun c kept => (held' c kept).trans ?_⟩
  · rw [line', line]
  · rw [line]
    exact held c kept

theorem HoldsBut.ite {p : Prop} [Decidable p] {s t u : State} (holds : HoldsBut changed s t) (fails : HoldsBut changed s u) :
    HoldsBut changed s (if p then t else u) := by
  split
  · exact holds
  · exact fails

theorem HoldsBut.foldl {α : Type} {f : State → α → State} (keeps : ∀ s a, HoldsBut changed s (f s a)) (list : List α) (s : State) :
    HoldsBut changed s (list.foldl f s) := by
  induction list generalizing s with
  | nil => exact .refl s
  | cons a rest ih => exact (keeps s a).trans (ih _)

theorem HoldsBut.of_reported {s t : State} (backlog : changed .backlog) (reported : Reported s t) : HoldsBut changed s t := by
  intro still
  have state := reported.state still
  obtain ⟨only, taken, stall⟩ := reported
  rw [if_pos state] at stall
  refine ⟨?_, ?_⟩
  · rw [only, stall]
    rfl
  · obtain same | ⟨-, causes, -, ⟨run, -⟩ | ⟨drain, -⟩ | ⟨-, -, line⟩⟩ := taken
    · exact ⟨_, same, fun _ _ => rfl⟩
    · exact absurd run still.1
    · exact absurd drain still.2
    · refine ⟨_, line, fun c kept => ?_⟩
      have other : c ≠ .backlog := fun same => kept (same ▸ backlog)
      rw [causes, put_holds, if_neg other]

theorem emit_holdsBut (backlog : changed .backlog) (r : Report) (s : State) : HoldsBut changed s (emit r s) :=
  .of_reported backlog (emit_reported r s)

theorem bump_holdsBut (backlog : changed .backlog) (e : EventTally) (s : State) : HoldsBut changed s (bump e s) :=
  .of_reported backlog (bump_reported e s)

theorem endCause_holdsBut {d : Cause} (named : changed d) (s : State) : HoldsBut changed s (endCause d s) := fun _ =>
  ⟨rfl, s.line.causes.put false d, rfl, fun c kept => by
    have other : c ≠ d := fun same => kept (same ▸ named)
    rw [put_holds, if_neg other]⟩

theorem recountGroup_holdsBut (backlog : changed .backlog) (k : GroupNo) (item : Option Word) (s : State) :
    HoldsBut changed s (recountGroup k item s) :=
  .ite (.ite (HoldsBut.trans (t := putGroup k { groupAt k s with armed := false } s) (.of_same rfl rfl) (emit_holdsBut backlog _ _)) (.refl s))
    (.ite (.refl s) (.of_same rfl rfl))

theorem memberChanged_holdsBut (backlog : changed .backlog) (groups : ∀ k, changed (.groupFull k)) (g : Gate) (old : PocketState)
    (item : Option Word) (s : State) : HoldsBut changed s (memberChanged g old item s) := by
  cases isGroup : groupOf g s with
  | none =>
    rw [memberChanged_of_none isGroup]
    exact .refl s
  | some k =>
    rw [memberChanged_of_some isGroup]
    exact .ite (.refl s) ((HoldsBut.ite (endCause_holdsBut (groups k) s) (.refl s)).trans (recountGroup_holdsBut backlog k item _))

theorem withdrawAt_holdsBut (backlog : changed .backlog) (groups : ∀ k, changed (.groupFull k)) (full : changed .quarantineFull) (g : Gate)
    (n : Nat) (s : State) : HoldsBut changed s (withdrawAt g n s) := by
  have put (r : PocketRec) : HoldsBut changed s (putPocket g r s) := .of_same rfl rfl
  exact .ite (.refl s) (.ite (.ite ((put _).trans (endCause_holdsBut full _)) (put _)) ((put _).trans (memberChanged_holdsBut backlog groups _ _ _ _)))

end

/-! ### The withdrawals of a jam -/

theorem withdrawAt_unit (g : Gate) (n : Nat) (s : State) :
    (withdrawAt g n s).pocket.quarantine = s.pocket.quarantine ∧ (withdrawAt g n s).pocket.limit = s.pocket.limit := by
  rw [withdrawAt_eq]
  split
  · exact ⟨rfl, rfl⟩
  · have aside := memberChanged_aside g (pocketAt g s).state none (putPocket g (withdrawnAt g n s) s)
    exact ⟨aside.quarantine, aside.limit⟩

theorem withdrawnAt_congr {s u : State} {g : Gate} (pocket : pocketAt g u = pocketAt g s) (quarantine : u.pocket.quarantine = s.pocket.quarantine)
    (limit : u.pocket.limit = s.pocket.limit) (n : Nat) : withdrawnAt g n u = withdrawnAt g n s := by
  simp only [withdrawnAt, pocket, quarantine, limit]

theorem withdrawnAt_counts (g : Gate) (n : Nat) (s : State) :
    (withdrawnAt g n s).committed = (pocketAt g s).committed - n ∧ (withdrawnAt g n s).confirmed = (pocketAt g s).confirmed := by
  unfold withdrawnAt
  split
  next zero =>
    rw [zero]
    exact ⟨rfl, rfl⟩
  · split
    · exact ⟨rfl, rfl⟩
    · exact (pocketAt g s).withdraw_counts n

theorem foldl_withdrawAt_unit (lost : Gate → Nat) (gates : List Gate) (u : State) :
    (gates.foldl (fun u g => withdrawAt g (lost g) u) u).pocket.quarantine = u.pocket.quarantine ∧
    (gates.foldl (fun u g => withdrawAt g (lost g) u) u).pocket.limit = u.pocket.limit :=
  ⟨foldl_unchanged (fun u : State => u.pocket.quarantine) (fun u g => (withdrawAt_unit g (lost g) u).1) gates u,
    foldl_unchanged (fun u : State => u.pocket.limit) (fun u g => (withdrawAt_unit g (lost g) u).2) gates u⟩

theorem pocketAt_foldl_withdrawAt (lost : Gate → Nat) {gates : List Gate} (once : gates.Nodup) (h : Gate) (u : State) :
    pocketAt h (gates.foldl (fun u g => withdrawAt g (lost g) u) u) = if h ∈ gates then withdrawnAt h (lost h) u else pocketAt h u := by
  induction gates generalizing u with
  | nil => rfl
  | cons g rest ih =>
    obtain ⟨notLater, once⟩ := List.nodup_cons.mp once
    rw [List.foldl_cons, ih once]
    have pocket := pocketAt_withdrawAt g h (lost g) u
    by_cases here : h = g
    · subst here
      rw [if_pos rfl] at pocket
      rw [if_neg notLater, if_pos List.mem_cons_self, pocket]
    · rw [if_neg here] at pocket
      rw [withdrawnAt_congr pocket (withdrawAt_unit g (lost g) u).1 (withdrawAt_unit g (lost g) u).2, pocket]
      simp [here]

/-- One step of the withdrawals, with the record it leaves given (R144). -/
def withdrawStep (s : State) (left : Gate → PocketRec) (u : State) (g : Gate) : State :=
  if s.pocket.quarantine = some g then
    { putPocket g (left g) u with line := { u.line with causes := { u.line.causes with quarantineFull :=
      if (pocketAt g s).state = .full ∧ (left g).state ≠ .full then false else u.line.causes.quarantineFull } } }
  else memberChanged g (pocketAt g s).state none (putPocket g (left g) u)

theorem foldl_withdrawAt_eq {s : State} {lost : Gate → Nat} {left : Gate → PocketRec} {gates : List Gate} (once : gates.Nodup) {u : State}
    (quarantine : u.pocket.quarantine = s.pocket.quarantine) (pockets : ∀ g ∈ gates, pocketAt g u = pocketAt g s)
    (isLeft : ∀ g ∈ gates, left g = withdrawnAt g (lost g) u) :
    gates.foldl (fun u g => withdrawAt g (lost g) u) u = gates.foldl (withdrawStep s left) u := by
  induction gates generalizing u with
  | nil => rfl
  | cons g rest ih =>
    obtain ⟨notLater, once⟩ := List.nodup_cons.mp once
    have step : withdrawAt g (lost g) u = withdrawStep s left u g := by
      rw [withdrawAt_eq, withdrawStep, ← quarantine, ← pockets g List.mem_cons_self, isLeft g List.mem_cons_self]
    have later (h : Gate) (inRest : h ∈ rest) : pocketAt h (withdrawAt g (lost g) u) = pocketAt h u := by
      have other : h ≠ g := fun same => notLater (same ▸ inRest)
      rw [pocketAt_withdrawAt, if_neg other]
    obtain ⟨sameQuarantine, sameLimit⟩ := withdrawAt_unit g (lost g) u
    rw [List.foldl_cons, List.foldl_cons, ← step]
    refine ih once (sameQuarantine.trans quarantine) (fun h inRest => ?_) fun h inRest => ?_
    · rw [later h inRest, pockets h (List.mem_cons_of_mem g inRest)]
    · rw [withdrawnAt_congr (later h inRest) sameQuarantine sameLimit, isLeft h (List.mem_cons_of_mem g inRest)]

/-! ### The TRACE reports of lost items (R142) -/

theorem traceLosses_eq {s : State} (lost : List Entry) {u : State} (deposit : u.deposit = s.deposit) (edge : u.edge = s.edge) :
    traceLosses lost u = lost.foldl (fun u e => if e.trace then emit (traceReport e .lost none s) u else u) u := by
  unfold traceLosses
  induction lost generalizing u with
  | nil => rfl
  | cons e rest ih =>
    rw [List.foldl_cons, List.foldl_cons, traceReport_congr e .lost none deposit edge]
    refine ih ?_ ?_
    · split
      · rw [emit_deposit, deposit]
      · exact deposit
    · split
      · rw [emit_edge, edge]
      · exact edge

/-! ### Tallies that a jam does not count -/

section

variable {i : Fin 25} (notLost : i ≠ EventTally.reportsLost.index) (notDropped : i ≠ EventTally.traceDropped.index)

include notLost notDropped

theorem memberChanged_event_of_ne (g : Gate) (old : PocketState) (item : Option Word) (s : State) :
    (memberChanged g old item s).report.events[i] = s.report.events[i] := by
  cases isGroup : groupOf g s with
  | none => rw [memberChanged_of_none isGroup]
  | some k =>
    rw [memberChanged_of_some isGroup]
    split
    · rfl
    · rw [recountGroup_event_of_ne notLost notDropped]
      split <;> rfl

theorem withdrawAll_event_of_ne (lost : List Entry) (s : State) : (withdrawAll lost s).report.events[i] = s.report.events[i] := by
  refine foldl_unchanged (fun u : State => u.report.events[i]) (fun u g => ?_) allGates s
  rw [withdrawAt_eq]
  split
  · rfl
  · rw [memberChanged_event_of_ne notLost notDropped]
    rfl

theorem traceLosses_event_of_ne (lost : List Entry) (s : State) : (traceLosses lost s).report.events[i] = s.report.events[i] := by
  refine foldl_unchanged (fun u : State => u.report.events[i]) (fun u e => ?_) lost s
  split
  · rw [emit_event_of_ne notLost notDropped]
  · rfl

end

end Sys2Proof.Machine
end

section
/-! SUPPORT. The entry into JAMMED, stage by stage (R36, R144, R182, R183). -/

set_option Elab.async false

namespace Sys2Proof.Machine

/-! ### The stages -/

/-- The causes a jam may change. -/
def notHeldByHand (c : Cause) : Prop := c ≠ .operator ∧ c ≠ .command

theorem notHeldByHand_backlog : notHeldByHand .backlog := ⟨Cause.noConfusion, Cause.noConfusion⟩

/-- The line in JAMMED, the items in flight in the Loss List. -/
def jamEntered (cause : JamCause) (s : State) : State := { s with
  line := { s.line with state := .jammed, resume := none, jam := some cause, runOut := false, feedEn := false }
  track := { s.track with
    queue := [], waiting := none, gates := Vector.replicate 15 false, stall := none
    losses := s.track.losses ++ (inFlightItems s).map (lossRecord s) } }

theorem gatesOf_nil : gatesOf [] = Vector.replicate 15 false := by
  refine Vector.ext fun i inRange => ?_
  rw [Vector.getElem_replicate, gatesOf, Vector.getElem_ofFn]
  rfl

theorem loseQueue_jamLine (cause : JamCause) (s : State) : loseQueue (jamLine cause s) = jamEntered cause s := by
  rw [jamLine_eq, jamEntered, ← gatesOf_nil]
  rfl

/-- How many lost items were destined to a pocket. -/
def lostTo (s : State) (g : Gate) : Nat := (inFlightItems s).countP fun e => e.dest == .gated g

/-- After the withdrawals. -/
def jamWithdrawn (cause : JamCause) (s : State) : State := withdrawAll (inFlightItems s) (jamEntered cause s)

/-- After the TRACE reports of the lost items. -/
def jamTraced (cause : JamCause) (s : State) : State := traceLosses (inFlightItems s) (jamWithdrawn cause s)

/-- After the deposits and the held edges. -/
def jamLost (cause : JamCause) (s : State) : State := loseEdges (loseInDeposits (inFlightItems s) (jamTraced cause s))

/-- The JAM report. -/
def jamReport (cause : JamCause) (s u : State) : Report := .jam
  { cause := cause, previous := s.line.state, position := u.edge.position, entriesLost := (inFlightItems s).length
    edgesLost := s.edge.fifo.length, causes := u.line.causes }

/-- After JAMS and the JAM report. -/
def jamTold (cause : JamCause) (s : State) : State :=
  emit (jamReport cause s (bump .jams (jamLost cause s))) (bump .jams (jamLost cause s))

theorem enterJam_eq (cause : JamCause) (s : State) :
    enterJam cause s = emit (lineReport s.line.state .jam (some (.jam cause)) (jamTold cause s)) (jamTold cause s) := by
  simp only [jamTold, jamLost, jamTraced, jamWithdrawn, ← loseQueue_jamLine]
  rfl

/-! ### What each stage leaves -/

section

variable (cause : JamCause) (s : State)

theorem jamEntered_still : (jamEntered cause s).line.state ≠ .run ∧ (jamEntered cause s).line.state ≠ .drain :=
  ⟨LineState.noConfusion, LineState.noConfusion⟩

theorem jamTraced_holdsBut : HoldsBut notHeldByHand (jamEntered cause s) (jamTraced cause s) := by
  have withdrawn : HoldsBut notHeldByHand (jamEntered cause s) (jamWithdrawn cause s) := .foldl (fun u g => withdrawAt_holdsBut
    notHeldByHand_backlog (fun k => ⟨Cause.noConfusion, Cause.noConfusion⟩) ⟨Cause.noConfusion, Cause.noConfusion⟩ g _ u) allGates _
  exact withdrawn.trans (.foldl (fun u e => .ite (emit_holdsBut notHeldByHand_backlog _ u) (.refl u)) (inFlightItems s) _)

theorem jamTraced_work : Work [.pocket, .group] (jamEntered cause s) (jamTraced cause s) :=
  (withdrawAll_work (inFlightItems s) (jamEntered cause s)).trans (traceLosses_work (touched := []) (inFlightItems s) _)

theorem jamTold_holdsBut : HoldsBut notHeldByHand (jamLost cause s) (jamTold cause s) :=
  (bump_holdsBut notHeldByHand_backlog _ _).trans (emit_holdsBut notHeldByHand_backlog _ _)

theorem told_holdsBut : HoldsBut notHeldByHand (jamLost cause s) (enterJam cause s) := by
  rw [enterJam_eq]
  exact (jamTold_holdsBut cause s).trans (emit_holdsBut notHeldByHand_backlog _ _)

theorem told_work : Work [] (jamLost cause s) (enterJam cause s) := by
  rw [enterJam_eq]
  exact ((bump_work (touched := []) _ _).trans (emit_work (touched := []) _ _) : Work [] _ _).trans (emit_work (touched := []) _ _)

theorem jamLost_eq : jamLost cause s = { jamTraced cause s with
    deposit := (jamLost cause s).deposit, track := (jamLost cause s).track, edge := (jamLost cause s).edge } := rfl

theorem jamLost_deposit : (jamLost cause s).deposit = { s.deposit with deposits := s.deposit.deposits.map fun d =>
    let n := (inFlightItems s).countP fun e => e.slot == some d.slot
    { d with lost := min (d.lost + n) 65535, inFlight := d.inFlight - n } } := by
  have deposit : (jamTraced cause s).deposit = s.deposit := (jamTraced_work cause s).stands .deposit
  have lost : (jamLost cause s).deposit = { (jamTraced cause s).deposit with deposits := (jamTraced cause s).deposit.deposits.map fun d =>
    let n := (inFlightItems s).countP fun e => e.slot == some d.slot
    { d with lost := min (d.lost + n) 65535, inFlight := d.inFlight - n } } := rfl
  rw [lost, deposit]

theorem jamTraced_edge : (jamTraced cause s).edge = s.edge := (jamTraced_work cause s).stands .edge

theorem jamLost_edge : (jamLost cause s).edge = { s.edge with fifo := [] } := by
  show { (jamTraced cause s).edge with fifo := [] } = _
  rw [jamTraced_edge]

theorem jamLost_track : (jamLost cause s).track = { (jamEntered cause s).track with
    losses := (jamEntered cause s).track.losses ++ s.edge.fifo.map edgeLoss } := by
  obtain ⟨track, -⟩ := jamTraced_holdsBut cause s (jamEntered_still cause s)
  show { (jamTraced cause s).track with losses := (jamTraced cause s).track.losses ++ (jamTraced cause s).edge.fifo.map edgeLoss } = _
  rw [track, jamTraced_edge]

theorem line_of_told {t : State} (told : HoldsBut notHeldByHand (jamLost cause s) t) : ∃ causes : CauseSet,
    t.line = { (jamEntered cause s).line with causes := causes } ∧ ∀ c, ¬ notHeldByHand c → causes.holds c = s.line.causes.holds c := by
  have all : HoldsBut notHeldByHand { jamEntered cause s with track := (jamLost cause s).track } t := by
    refine HoldsBut.trans (t := jamLost cause s) (fun still => ⟨rfl, ?_⟩) told
    exact (jamTraced_holdsBut cause s still).2
  exact (all (jamEntered_still cause s)).2

theorem jamTold_lineReport : lineReport s.line.state .jam (some (.jam cause)) (jamTold cause s) = .line
    { from_ := s.line.state, to_ := .jammed, trigger := .jam, cause := some (.jam cause), causes := (jamTold cause s).line.causes
      resume := none, position := s.edge.position } := by
  obtain ⟨causes, line, -⟩ := line_of_told cause s (jamTold_holdsBut cause s)
  have position : (jamTold cause s).edge.position = s.edge.position := by rw [jamTold, emit_edge, bump_edge, jamLost_edge]
  rw [lineReport, line, position]
  rfl

theorem enterJam_stands : (enterJam cause s).track = (jamLost cause s).track ∧ (enterJam cause s).edge = (jamLost cause s).edge ∧
    (enterJam cause s).deposit = (jamLost cause s).deposit := by
  have still : (jamLost cause s).line.state ≠ .run ∧ (jamLost cause s).line.state ≠ .drain := by
    obtain ⟨-, causes, line, -⟩ := jamTraced_holdsBut cause s (jamEntered_still cause s)
    have same : (jamLost cause s).line = { (jamEntered cause s).line with causes := causes } := line
    rw [same]
    exact jamEntered_still cause s
  exact ⟨(told_holdsBut cause s still).1, (told_work cause s).stands .edge, (told_work cause s).stands .deposit⟩

theorem enterJam_jams : (enterJam cause s).report.events[EventTally.jams.index] = s.report.events[EventTally.jams.index] + 1 := by
  have notLost : EventTally.jams.index ≠ EventTally.reportsLost.index := by decide
  have notDropped : EventTally.jams.index ≠ EventTally.traceDropped.index := by decide
  have before : (jamLost cause s).report.events[EventTally.jams.index] = s.report.events[EventTally.jams.index] :=
    (traceLosses_event_of_ne notLost notDropped _ _).trans (withdrawAll_event_of_ne notLost notDropped _ _)
  rw [enterJam_eq, emit_event_of_ne notLost notDropped, jamTold, emit_event_of_ne notLost notDropped, bump_event notLost notDropped, before]

theorem pocketAt_enterJam (g : Gate) : pocketAt g (enterJam cause s) = withdrawnAt g (lostTo s g) s := by
  have told : (enterJam cause s).pocket = (jamLost cause s).pocket := (told_work cause s).stands .pocket
  have traced : (jamTraced cause s).pocket = (jamWithdrawn cause s).pocket :=
    (traceLosses_work (touched := []) (inFlightItems s) (jamWithdrawn cause s)).stands .pocket
  have same : (enterJam cause s).pocket = (jamWithdrawn cause s).pocket := told.trans traced
  have isGate : g ∈ allGates := List.mem_finRange g
  rw [pocketAt_congr (congrArg PocketUnit.pockets same)]
  exact (pocketAt_foldl_withdrawAt (lostTo s) (List.nodup_finRange 15) g (jamEntered cause s)).trans (if_pos isGate)

theorem jamWithdrawn_eq : jamWithdrawn cause s =
    (List.finRange 15).foldl (withdrawStep s fun g => pocketAt g (enterJam cause s)) (jamEntered cause s) :=
  foldl_withdrawAt_eq (lost := lostTo s) (List.nodup_finRange 15) rfl (fun _ _ => rfl) fun g _ => pocketAt_enterJam cause s g

theorem jamTraced_eq : jamTraced cause s = (inFlightItems s).foldl
    (fun u e => if e.trace then emit (traceReport e .lost none s) u else u) (jamWithdrawn cause s) :=
  traceLosses_eq (inFlightItems s) ((withdrawAll_work (inFlightItems s) (jamEntered cause s)).stands .deposit)
    ((withdrawAll_work (inFlightItems s) (jamEntered cause s)).stands .edge)

end

/-- Settles O54: a jam ignored in JAMMED, and the entry by its stages. -/
theorem entryIntoJammed : Obligations.EntryIntoJammed := by
  unfold Obligations.EntryIntoJammed
  intro cause s
  refine ⟨fun jammed => if_pos jammed, fun notJammed => (if_neg notJammed).symm, fun notJammed => ?_⟩
  intro t lost
  have isT : t = enterJam cause s := if_neg notJammed
  clear_value t
  subst isT
  obtain ⟨causes, line, held⟩ := line_of_told cause s (told_holdsBut cause s)
  obtain ⟨track, edge, deposit⟩ := enterJam_stands cause s
  have work := enterJam_work cause s
  have record (g : Gate) := pocketAt_enterJam cause s g
  refine ⟨by rw [line]; rfl, by rw [line]; rfl, by rw [line]; rfl, by rw [line]; rfl, by rw [line]; rfl, ?_, ?_, ?_, ?_, work.stands .feed,
    work.stands .route, work.stands .watch, fun g => ?_, ?_, enterJam_jams cause s, fun g => ?_, ?_⟩
  · rw [line]
    exact held .operator fun other => other.1 rfl
  · rw [line]
    exact held .command fun other => other.2 rfl
  · rw [track, jamLost_track]
    rfl
  · rw [edge, jamLost_edge]
  · rw [record]
    exact withdrawnAt_counts g _ s
  · rw [deposit, jamLost_deposit]
    rfl
  · refine ⟨fun none => ?_, fun some_ isQ => ?_, fun some_ notQ => ⟨fun committed confirmed => ?_, fun left => ?_⟩⟩
    · rw [record]
      exact if_pos none
    · exact (record g).trans (withdrawnAt_of_quarantine some_ isQ)
    · exact (record g).trans ((withdrawnAt_of_member some_ notQ).trans (withdraw_of_emptied committed confirmed))
    · exact (record g).trans ((withdrawnAt_of_member some_ notQ).trans (withdraw_of_held left))
  · intro entered withdrawn traced u v
    have isWithdrawn : withdrawn = jamWithdrawn cause s := (jamWithdrawn_eq cause s).symm
    have isTraced : traced = jamTraced cause s := by
      rw [jamTraced_eq, ← isWithdrawn]
      rfl
    have isU : u = bump .jams (jamLost cause s) := by
      rw [jamLost_eq, ← track, ← edge, ← deposit, ← isTraced]
    have isV : v = jamTold cause s := by
      have position : (bump .jams (jamLost cause s)).edge.position = s.edge.position := by rw [bump_edge, jamLost_edge]
      rw [jamTold, ← isU, jamReport, isU, position, ← isU]
      rfl
    rw [enterJam_eq, jamTold_lineReport, ← isV]

end Sys2Proof.Machine
end

section
/-! SUPPORT. RECOVER (R162, R172, R185, R186). -/

set_option Elab.async false

namespace Sys2Proof.Machine

/-! ### The deposits a recovery closes -/

/-- Whether a deposit closes when it is tested. -/
def Deposit.ended (d : Deposit) : Bool := d.state == .closing && d.inFlight == 0

/-- The deposits with those of a list that are ended taken out, and their bound declarations. -/
def withoutEnded (gone : List Deposit) (u : DepositUnit) : DepositUnit := { u with
  deposits := u.deposits.filter fun x => !(gone.any fun d => d.ended && d.slot == x.slot)
  declarations := u.declarations.filter fun e => !(gone.any fun d => d.ended && (d.id == e.id && e.bound)) }

theorem withoutEnded_nil (u : DepositUnit) : withoutEnded [] u = u := by
  simp [withoutEnded]

theorem withoutEnded_cons (d : Deposit) (rest : List Deposit) (u : DepositUnit) :
    withoutEnded (d :: rest) u = withoutEnded rest (withoutEnded [d] u) := by
  simp [withoutEnded, List.filter_filter, Bool.and_comm]

theorem testClose_deposit {d : Deposit} {u : State} (held : depositAt d.slot u = some d) (notJammed : u.line.state ≠ .jammed) (after : Bool) :
    (testClose d.slot after u).deposit = withoutEnded [d] u.deposit := by
  by_cases closes : d.state = .closing ∧ d.inFlight = 0
  · obtain ⟨closing, none⟩ := closes
    have ended : d.ended = true := by simp [Deposit.ended, closing, none]
    have slots : (fun x : Deposit => x.slot != d.slot) = fun x => !([d].any fun d => d.ended && d.slot == x.slot) := by
      funext x
      simp [ended, bne, Bool.beq_comm]
    have ids : (fun e : Declaration => !(e.id == d.id && e.bound)) = fun e => !([d].any fun d => d.ended && (d.id == e.id && e.bound)) := by
      funext e
      simp [ended, Bool.beq_comm]
    rw [testClose_of_ended held closing none notJammed, withoutEnded, ← slots, ← ids]
  · have kept : d.state = .openState ∨ 0 < d.inFlight ∨ u.line.state = .jammed := by
      cases state : d.state with
      | openState => exact .inl rfl
      | closing => exact .inr (.inl (Nat.pos_of_ne_zero fun none => closes ⟨state, none⟩))
    have notEnded : d.ended = false := by
      rw [← Bool.not_eq_true, Deposit.ended, Bool.and_eq_true, beq_iff_eq, beq_iff_eq]
      exact closes
    rw [testClose_of_kept held kept]
    simp [withoutEnded, notEnded]

/-- A deposit of another slot stays when one is tested. -/
theorem depositAt_withoutEnded {d x : Deposit} {u t : State} (held : depositAt x.slot u = some x) (other : x.slot ≠ d.slot)
    (deposit : t.deposit = withoutEnded [d] u.deposit) : depositAt x.slot t = some x := by
  rw [depositAt, deposit]
  show ((u.deposit.deposits.filter fun x => !([d].any fun d => d.ended && d.slot == x.slot)).find? fun y => y.slot == x.slot) = some x
  rw [List.find?_filter]
  refine Eq.trans ?_ held
  refine List.find?_congr fun y _ => ?_
  by_cases same : y.slot = x.slot
  · simp [same, Ne.symm other]
  · simp [same]

theorem foldl_testClose_deposit {gone : List Deposit} (once : (gone.map (·.slot)).Nodup) (after : Bool) {u : State}
    (held : ∀ d ∈ gone, depositAt d.slot u = some d) (notJammed : u.line.state ≠ .jammed) :
    (gone.foldl (fun u d => testClose d.slot after u) u).deposit = withoutEnded gone u.deposit := by
  induction gone generalizing u with
  | nil => exact (withoutEnded_nil _).symm
  | cons d rest ih =>
    rw [List.map_cons, List.nodup_cons] at once
    have deposit := testClose_deposit (held d List.mem_cons_self) notJammed after
    have stillNot : (testClose d.slot after u).line.state ≠ .jammed := mt ((testClose_work d.slot after u).stands .jam).mp notJammed
    rw [List.foldl_cons, withoutEnded_cons, ← deposit]
    refine ih once.2 (fun x inRest => ?_) stillNot
    have other : x.slot ≠ d.slot := fun same => once.1 (same ▸ List.mem_map_of_mem inRest)
    exact depositAt_withoutEnded (held x (List.mem_cons_of_mem d inRest)) other deposit

/-- All the deposits held tested, the ended ones go. -/
theorem withoutEnded_all {u : DepositUnit} (once : (u.deposits.map (·.slot)).Nodup) : withoutEnded u.deposits u = { u with
    deposits := u.deposits.filter fun d => !(d.state == .closing && d.inFlight == 0)
    declarations := u.declarations.filter fun e =>
      !(e.bound && u.deposits.any fun d => d.state == .closing && d.inFlight == 0 && d.id == e.id) } := by
  have deposits : ∀ x ∈ u.deposits, (u.deposits.any fun d => d.ended && d.slot == x.slot) = (x.state == .closing && x.inFlight == 0) := by
    intro x held
    show _ = x.ended
    rw [Bool.eq_iff_iff, List.any_eq_true]
    constructor
    · rintro ⟨d, inDeposits, both⟩
      rw [Bool.and_eq_true, beq_iff_eq] at both
      obtain rfl := List.inj_on_of_nodup_map once inDeposits held both.2
      exact both.1
    · exact fun ended => ⟨x, held, by simp [ended]⟩
  have declarations (e : Declaration) : (u.deposits.any fun d => d.ended && (d.id == e.id && e.bound)) =
      (e.bound && u.deposits.any fun d => d.state == .closing && d.inFlight == 0 && d.id == e.id) := by
    cases e.bound with
    | true => simp [Deposit.ended]
    | false => simp
  rw [withoutEnded, List.filter_congr fun x held => congrArg (!·) (deposits x held),
    List.filter_congr fun e _ => congrArg (!·) (declarations e)]

theorem depositAt_of_nodup {s : State} (once : (s.deposit.deposits.map (·.slot)).Nodup) {d : Deposit} (held : d ∈ s.deposit.deposits) :
    depositAt d.slot s = some d := by
  obtain ⟨older, younger, split⟩ := List.append_of_mem held
  refine depositAt_of_first split fun x inOlder same => ?_
  rw [split, List.map_append, List.map_cons, List.nodup_append] at once
  exact once.2.2 x.slot (List.mem_map_of_mem inOlder) d.slot List.mem_cons_self same

/-! ### What the tests leave of the line -/

/-- The causes a close may change. -/
def ofReports (c : Cause) : Prop := c = .backlog ∨ c = .depositFull

theorem testClose_holdsBut (k : SlotNo) (after : Bool) (s : State) : HoldsBut ofReports s (testClose k after s) := by
  unfold testClose
  split
  next d _ =>
    refine .ite ?_ (.refl s)
    have reported := emit_holdsBut (changed := ofReports) (.inl rfl) (depositReport d (boundDeclaration d.id s) after) s
    exact (reported.trans (.of_same rfl rfl)).trans (endCause_holdsBut (.inr rfl) _)
  next => exact .refl s

theorem takeBacklog_holdsBut {changed : Cause → Prop} (backlog : changed .backlog) (s : State) : HoldsBut changed s (takeBacklog s) :=
  .of_reported backlog (ReportWork.reported ⟨rfl, id, id⟩)

end Sys2Proof.Machine
end

section
/-! SUPPORT. RECOVER, its works in order and its reports (R162, R172, R185, R186). -/

set_option Elab.async false

namespace Sys2Proof.Machine

/-! ### Reports in a row -/

theorem hand_lossMark_of_room {r : Report} (notTrace : ∀ x, r ≠ .trace x) {s : State} (room : s.report.queue.length < 64) :
    (hand r s).report.lossMark = 0 := by
  rw [hand_of_not_trace notTrace, handPlain_of_room room]
  rfl

/-- What joins the queue in each of a row of works. -/
theorem foldl_prefix {α : Type} {f : State → α → State} (grows : ∀ s a, s.report.queue <+: (f s a).report.queue) (list : List α) (s : State) :
    s.report.queue <+: (list.foldl f s).report.queue := by
  induction list generalizing s with
  | nil => exact List.prefix_rfl
  | cons a rest ih => exact (grows s a).trans (ih _)

/-! ### The works of RECOVER -/

/-- The RECOVERY report, with the jam and the losses of a state. -/
def recoveryOf (next : Byte) (s : State) : Report := .recovery
  { jam := s.line.jam, next := next
    losses := s.track.losses.map fun l => { item := l.item, kind := l.kind, depositId := l.depositId, dest := l.dest, denom := l.denom } }

/-- The line's cause set without OPERATOR and COMMAND. -/
def recoverCauses (s : State) : CauseSet := { s.line.causes with operator := false, command := false }

/-- After the answer and the RECOVERY report. -/
def recoverTold (tag next : Byte) (s : State) : State := hand (recoveryOf next s) (hand (.answer tag 0x54 none .none) s)

/-- The line in IDLE, the Loss List empty and the sequence counter set; its report is yet to be handed on. -/
def recoverMoved (tag next : Byte) (s : State) : State := { recoverTold tag next s with
  line := { s.line with state := .idle, causes := recoverCauses s, resume := none, jam := none, runOut := false, feedEn := false }
  track := { s.track with losses := [], stall := none }
  edge := { s.edge with nextSeq := next } }

/-- After the LINE report. -/
def recoverIdle (tag next : Byte) (s : State) : State :=
  hand (moveReport .jammed .idle .recover (recoverCauses s) none s) (recoverMoved tag next s)

section

variable {tag next : Byte} {s : State}

theorem exec_recover_of_refused (notJammed : s.line.state ≠ .jammed) : exec (.recover tag next) s = .next (refuse tag 0x54 .state s) :=
  congrArg Host.Outcome.next (lineRequest_of_refusal (by rw [firstRefusal_cons, bne_iff_ne.mpr notJammed]; rfl) _ _ _ _ _)

theorem recoverLine_eq (jammed : s.line.state = .jammed) : recoverLine next (hand (.answer tag 0x54 none .none) s) =
    s.deposit.deposits.foldl (fun u d => testClose d.slot true u) (recoverIdle tag next s) := by
  have isTold : hand (recoveryReport next (hand (.answer tag 0x54 none .none) s)) (hand (.answer tag 0x54 none .none) s) =
      recoverTold tag next s := by
    rw [recoverTold, recoveryReport, hand_line, hand_track]
    rfl
  have line : (recoverTold tag next s).line = s.line := by rw [recoverTold, hand_line, hand_line]
  have track : (recoverTold tag next s).track = s.track := by rw [recoverTold, hand_track, hand_track]
  have edge : (recoverTold tag next s).edge = s.edge := by rw [recoverTold, hand_edge, hand_edge]
  have deposit : (recoverTold tag next s).deposit = s.deposit := by rw [recoverTold, hand_deposit, hand_deposit]
  have isIdle : changeLine .idle none .recover none (dropJam (dropHeld (setSequence next (dropLosses (recoverTold tag next s))))) =
      recoverIdle tag next s := by
    rw [changeLine_idle, recoverIdle, recoverMoved, ← jammed]
    simp only [moveReport, dropJam, dropHeld, setSequence, dropLosses, State.setLine, State.setEdge, State.setTrack, line, track, edge]
    rfl
  have deposits : (recoverIdle tag next s).deposit = s.deposit := by
    rw [recoverIdle, hand_deposit, recoverMoved, deposit]
  simp only [recoverLine, isTold, isIdle, closeAfterRecovery, deposits]

theorem exec_recover_of_jammed (jammed : s.line.state = .jammed) : exec (.recover tag next) s =
    .next (takeBacklog (s.deposit.deposits.foldl (fun u d => testClose d.slot true u) (recoverIdle tag next s))) := by
  refine congrArg Host.Outcome.next ((lineRequest_of_pass ?_ _ _ _ _ _).trans (congrArg takeBacklog (recoverLine_eq jammed)))
  rw [firstRefusal_cons, jammed]
  rfl

end

section

variable (tag next : Byte) (s : State)

theorem recoverIdle_fields : (recoverIdle tag next s).line = (recoverMoved tag next s).line ∧
    (recoverIdle tag next s).track = (recoverMoved tag next s).track ∧ (recoverIdle tag next s).deposit = s.deposit ∧
    (recoverIdle tag next s).edge = (recoverMoved tag next s).edge := by
  refine ⟨?_, ?_, ?_, ?_⟩
  · rw [recoverIdle, hand_line]
  · rw [recoverIdle, hand_track]
  · rw [recoverIdle, hand_deposit, recoverMoved, recoverTold, hand_deposit, hand_deposit]
  · rw [recoverIdle, hand_edge]

theorem recoverIdle_others : (recoverIdle tag next s).feed = s.feed ∧ (recoverIdle tag next s).route = s.route ∧
    (recoverIdle tag next s).watch = s.watch ∧ (recoverIdle tag next s).pocket = s.pocket ∧ (recoverIdle tag next s).group = s.group := by
  simp only [recoverIdle, recoverMoved, recoverTold, hand_feed, hand_route, hand_watch, hand_pocket, hand_group, and_self]

/-- With room for three reports the queue holds the answer, the RECOVERY report and the LINE report. -/
theorem recoverIdle_queue (room : s.report.queue.length ≤ 61) : (recoverIdle tag next s).report.queue = s.report.queue ++
    [{ report := .answer tag 0x54 none .none, loss := s.report.lossMark }, { report := recoveryOf next s, loss := 0 },
      { report := moveReport .jammed .idle .recover (recoverCauses s) none s, loss := 0 }] := by
  let answered := hand (.answer tag 0x54 none .none) s
  have answer := hand_queue_of_room (r := .answer tag 0x54 none .none) (fun _ => Report.noConfusion) (s := s) (by omega)
  have answerMark := hand_lossMark_of_room (r := .answer tag 0x54 none .none) (fun _ => Report.noConfusion) (s := s) (by omega)
  have roomTold : answered.report.queue.length < 64 := by simp only [answered, answer, List.length_append, List.length_singleton]; omega
  have told := hand_queue_of_room (r := recoveryOf next s) (fun _ => Report.noConfusion) roomTold
  have toldMark := hand_lossMark_of_room (r := recoveryOf next s) (fun _ => Report.noConfusion) roomTold
  have isTold : (recoverMoved tag next s).report = (hand (recoveryOf next s) answered).report := rfl
  have roomLine : (recoverMoved tag next s).report.queue.length < 64 := by
    simp only [isTold, told, answered, answer, List.length_append, List.length_singleton]
    omega
  rw [recoverIdle, hand_queue_of_room (fun _ => Report.noConfusion) roomLine, isTold, told, toldMark, answer, answerMark]
  simp

end

/-- Settles O49: refused outside JAMMED, and in JAMMED by its works in order. -/
theorem recoverTaken : Obligations.RecoverTaken := by
  unfold Obligations.RecoverTaken
  intro tag next s
  refine ⟨exec_recover_of_refused, fun jammed once => ?_⟩
  obtain ⟨line, track, deposit, edge⟩ := recoverIdle_fields tag next s
  obtain ⟨feed, route, watch, pocket, group⟩ := recoverIdle_others tag next s
  have queue := recoverIdle_queue tag next s
  have run := exec_recover_of_jammed (tag := tag) (next := next) jammed
  have idle : (recoverIdle tag next s).line.state = .idle := by
    rw [line]
    rfl
  have closed := foldl_testClose_deposit (u := recoverIdle tag next s) once true
    (fun d held => by rw [depositAt, deposit]; exact depositAt_of_nodup once held) (by rw [idle]; decide)
  rw [deposit, withoutEnded_all once] at closed
  have closes : Work [.deposit] (recoverIdle tag next s) _ := .foldl (fun u d => testClose_work d.slot true u) s.deposit.deposits _
  have work := closes.toQuietWork.takeBacklog
  have holds : HoldsBut ofReports (recoverIdle tag next s) _ :=
    (HoldsBut.foldl (fun u d => testClose_holdsBut d.slot true u) s.deposit.deposits _).trans (takeBacklog_holdsBut (.inl rfl) _)
  obtain ⟨sameTrack, causes, sameLine, held⟩ := holds (by simp [idle])
  rw [line] at sameLine held
  refine ⟨_, run, ?_, ?_, ?_, ?_, ?_, ?_, ?_, ?_, ?_, sameTrack.trans track, Eq.trans (work.stands .edge) edge, ?_, Eq.trans (work.stands .feed) feed,
    Eq.trans (work.stands .route) route, Eq.trans (work.stands .watch) watch, Eq.trans (work.stands .pocket) pocket,
    Eq.trans (work.stands .group) group, rfl, fun room => ?_⟩
  · rw [sameLine]
    rfl
  · rw [sameLine]
    rfl
  · rw [sameLine]
    rfl
  · rw [sameLine]
    rfl
  · rw [sameLine]
    rfl
  · rw [sameLine]
    exact held .operator (by simp [ofReports])
  · rw [sameLine]
    exact held .command (by simp [ofReports])
  · rw [sameLine]
    exact held .quarantineFull (by simp [ofReports])
  · rw [sameLine]
    exact Vector.ext fun k inRange => held (.groupFull ⟨k, inRange⟩) (by simp [ofReports])
  · rw [takeBacklog_deposit, closed]
  · have grows := (foldl_prefix (fun u d => testClose_prefix d.slot true u) s.deposit.deposits (recoverIdle tag next s)).trans (takeBacklog_prefix _)
    obtain ⟨later, same⟩ := grows
    refine ⟨later, ?_⟩
    rw [← same, queue room, List.append_assoc]
    rfl

end Sys2Proof.Machine
end

section
/-! SUPPORT. The parts of LINE_RESET (R37, R105, R121, R145, R165, R187, R198, R200). -/

set_option Elab.async false

namespace Sys2Proof.Machine

/-! ### Items closed DISCARDED (R37, R198, R200) -/

/-- The Report Unit with a tally one up. -/
def countedUp (e : EventTally) (s : State) : State :=
  s.setReport { s.report with events := s.report.events.set e.index (s.report.events[e.index] + 1) }

theorem countedUp_event (e : EventTally) (s : State) : (countedUp e s).report.events[e.index] = s.report.events[e.index] + 1 :=
  Vector.getElem_set_self _

theorem bumpQuiet_of_quiet {e : EventTally} {s : State} (quiet : s.report.events[e.index] + 1 ≠ 0xE000) :
    bumpQuiet (.event e) s = countedUp e s := by
  rw [bumpQuiet_event]
  exact if_neg fun due => quiet due.1

theorem discardItems_eq (n : Nat) (s : State) : discardItems n s = s.setReport (discardItems n s).report := by
  induction n generalizing s with
  | zero => rfl
  | succ n ih =>
    have one := bumpQuiet_eq (.event .discarded) s
    rw [discardItems, ih, one]
    rfl

theorem discardItems_prefix (n : Nat) (s : State) : s.report.queue <+: (discardItems n s).report.queue := by
  induction n generalizing s with
  | zero => exact List.prefix_rfl
  | succ n ih => exact (bumpQuiet_prefix _ s).trans (ih _)

theorem bumpQuiet_event_self {e : EventTally} (notLost : e.index ≠ EventTally.reportsLost.index) (s : State) :
    (bumpQuiet (.event e) s).report.events[e.index] = s.report.events[e.index] + 1 := by
  rw [bumpQuiet_event]
  simp only
  split
  · rw [handPlain_event_of_ne notLost]
    exact countedUp_event e s
  · exact countedUp_event e s

theorem discardItems_discarded (n : Nat) (s : State) : (discardItems n s).report.events[EventTally.discarded.index] =
    s.report.events[EventTally.discarded.index] + BitVec.ofNat 16 n := by
  induction n generalizing s with
  | zero => exact (BitVec.add_zero _).symm
  | succ n ih =>
    rw [discardItems, ih, bumpQuiet_event_self (by decide), BitVec.add_assoc]
    refine congrArg _ ?_
    rw [show (1 : BitVec 16) = BitVec.ofNat 16 1 from rfl, ← BitVec.ofNat_add, Nat.add_comm]

/-- Counts that do not reach the notice level hand on nothing. -/
theorem discardItems_quiet {n : Nat} {s : State}
    (quiet : ∀ i, i < n → s.report.events[EventTally.discarded.index] + BitVec.ofNat 16 (i + 1) ≠ 0xE000) :
    (discardItems n s).report.queue = s.report.queue ∧ (discardItems n s).report.lossMark = s.report.lossMark := by
  induction n generalizing s with
  | zero => exact ⟨rfl, rfl⟩
  | succ n ih =>
    rw [discardItems, bumpQuiet_of_quiet (quiet 0 (Nat.succ_pos n))]
    refine ih fun i small => ?_
    have next := quiet (i + 1) (Nat.succ_lt_succ small)
    rw [countedUp_event, BitVec.add_assoc, show (1 : BitVec 16) = BitVec.ofNat 16 1 from rfl, ← BitVec.ofNat_add, Nat.add_comm 1]
    exact next

/-- A notice of a tally. -/
def IsNotice (q : Queued) : Prop := ∃ x, q.report = .tally x ∧ x.notice = true

/-- The notice of DISCARDED. -/
def discardedNotice : Report := .tally
  { notice := true, group := EventTally.discarded.group, cleared := false, tallies := [(32 + EventTally.discarded.index.val, 0xE000)] }

/-- Fewer counts than the tally wraps at bring one notice at most. -/
theorem discardItems_notices {n : Nat} (few : n < 65536) {s : State} (room : s.report.queue.length < 64) (unmarked : s.report.lossMark = 0) :
    ∃ notices : List Queued, notices.length ≤ 1 ∧ (∀ q ∈ notices, IsNotice q) ∧
      (discardItems n s).report.queue = s.report.queue ++ notices ∧ (discardItems n s).report.lossMark = 0 := by
  induction n generalizing s with
  | zero => exact ⟨[], by simp, by simp, by rw [discardItems, List.append_nil], unmarked⟩
  | succ n ih =>
    by_cases due : s.report.events[EventTally.discarded.index] + 1 = 0xE000 ∧ s.report.noticeMask.getLsbD EventTally.discarded.index.val = true
    · have bumped : bumpQuiet (.event .discarded) s = enqueue discardedNotice (countedUp .discarded s) := by
        rw [bumpQuiet_event]
        exact (if_pos due).trans (handPlain_of_room (s := countedUp .discarded s) room discardedNotice)
      have quiet : ∀ i, i < n → (bumpQuiet (.event .discarded) s).report.events[EventTally.discarded.index] + BitVec.ofNat 16 (i + 1) ≠ 0xE000 := by
        intro i small isLevel
        rw [bumpQuiet_event_self (by decide), due.1] at isLevel
        have zero : BitVec.ofNat 16 (i + 1) = 0 := by simpa using isLevel
        have := congrArg BitVec.toNat zero
        rw [BitVec.toNat_ofNat, Nat.mod_eq_of_lt (by omega)] at this
        simp at this
      obtain ⟨queue, lossMark⟩ := discardItems_quiet quiet
      rw [discardItems, queue, lossMark, bumped]
      refine ⟨[_], by simp, fun q isIn => ?_, rfl, rfl⟩
      obtain rfl := List.mem_singleton.mp isIn
      exact ⟨_, rfl, rfl⟩
    · have bumped : bumpQuiet (.event .discarded) s = countedUp .discarded s := by
        rw [bumpQuiet_event]
        exact if_neg due
      rw [discardItems, bumped]
      exact ih (by omega) (s := countedUp .discarded s) room unmarked

/-! ### The groups (R121) -/

/-- The arm of each group of a list set, and its GROUP_FULL ended. -/
def rearm (groups : List GroupNo) (s : State) : State := groups.foldl (fun s k => endCause (.groupFull k) (setArm k s)) s

/-- A group's record with its arm after the count. -/
def rearmed (k : GroupNo) (s : State) : GroupRec := { groupAt k s with armed := decide ((groupAt k s).lowThreshold < openCount k s) }

theorem groupAt_setArm (k j : GroupNo) (s : State) : groupAt j (setArm k s) = if j = k then rearmed k s else groupAt j s := groupAt_putGroup j k _ s

theorem rearmed_setArm (k j : GroupNo) (s : State) : rearmed j (setArm k s) = rearmed j s := by
  have group := groupAt_setArm k j s
  have members : (groupAt j (setArm k s)).members = (groupAt j s).members := (setArm_aside k s).lists.members j
  have count : openCount j (setArm k s) = openCount j s := openCount_congr members rfl
  rw [rearmed, count, group]
  split
  next here =>
    rw [here]
    rfl
  next => rfl

theorem groupAt_rearm (groups : List GroupNo) (j : GroupNo) (s : State) :
    groupAt j (rearm groups s) = if j ∈ groups then rearmed j s else groupAt j s := by
  induction groups generalizing s with
  | nil => rfl
  | cons k rest ih =>
    have step : rearm (k :: rest) s = rearm rest (endCause (.groupFull k) (setArm k s)) := rfl
    have record : rearmed j (endCause (.groupFull k) (setArm k s)) = rearmed j s := rearmed_setArm k j s
    have group : groupAt j (endCause (.groupFull k) (setArm k s)) = if j = k then rearmed k s else groupAt j s := groupAt_setArm k j s
    rw [step, ih, record, group]
    by_cases here : j = k
    · subst here
      simp
    · simp [here]

theorem rearm_only (groups : List GroupNo) (s : State) : rearm groups s = { s with
    group := { s.group with groups := (rearm groups s).group.groups }
    line := { s.line with causes := { s.line.causes with groupFull := (rearm groups s).line.causes.groupFull } } } := by
  induction groups generalizing s with
  | nil => rfl
  | cons k rest ih =>
    have step : rearm (k :: rest) s = rearm rest (endCause (.groupFull k) (setArm k s)) := rfl
    rw [step, ih]
    rfl

theorem rearm_groupFull (groups : List GroupNo) (j : GroupNo) (s : State) :
    (rearm groups s).line.causes.groupFull[j] = if j ∈ groups then false else s.line.causes.groupFull[j] := by
  induction groups generalizing s with
  | nil => rfl
  | cons k rest ih =>
    have step : rearm (k :: rest) s = rearm rest (endCause (.groupFull k) (setArm k s)) := rfl
    have held : (endCause (.groupFull k) (setArm k s)).line.causes.groupFull[j] = if j = k then false else s.line.causes.groupFull[j] := by
      have put := put_holds s.line.causes false (.groupFull j) (.groupFull k)
      simp only [Cause.groupFull.injEq] at put
      exact put
    simp only [step, ih, held]
    by_cases here : j = k
    · simp [here]
    · simp [here]

theorem resetGroups_rearm (s : State) : resetGroups s = rearm allGroups (firstMembers s) := resetGroups_eq s

/-- Every group's record after LINE_RESET. -/
theorem groupAt_resetGroups (k : GroupNo) (s : State) : groupAt k (resetGroups s) = { groupAt k s with
    current := (groupAt k s).members.head?, armed := decide ((groupAt k s).lowThreshold < openCount k s) } := by
  rw [resetGroups_rearm, groupAt_rearm, if_pos (mem_allGroups k), rearmed, groupAt_firstMembers]
  have members : (groupAt k (firstMembers s)).members = (groupAt k s).members := by rw [groupAt_firstMembers]
  rw [openCount_congr members rfl]

theorem resetGroups_only (s : State) : resetGroups s = { s with
    group := { s.group with groups := (resetGroups s).group.groups, accs := Vector.replicate 16 none }
    line := { s.line with causes := { s.line.causes with groupFull := Vector.replicate 8 false } } } := by
  have ended : (resetGroups s).line.causes.groupFull = Vector.replicate 8 false := by
    refine Vector.ext fun k inRange => ?_
    rw [Vector.getElem_replicate, resetGroups_rearm]
    exact (rearm_groupFull allGroups ⟨k, inRange⟩ (firstMembers s)).trans (if_pos (mem_allGroups _))
  have only := rearm_only allGroups (firstMembers s)
  rw [← resetGroups_rearm] at only
  rw [← ended]
  exact only

end Sys2Proof.Machine
end

section
/-! SUPPORT. LINE_RESET (R105, R121, R145, R165, R168, R187). -/

set_option Elab.async false

namespace Sys2Proof.Machine

/-! ### Cause sets -/

theorem causes_eq_of_holds {a b : CauseSet} (same : ∀ c, c ≠ .backlog → a.holds c = b.holds c) : a = { b with backlog := a.backlog } := by
  have operator := same .operator Cause.noConfusion
  have command := same .command Cause.noConfusion
  have quarantineFull := same .quarantineFull Cause.noConfusion
  have depositFull := same .depositFull Cause.noConfusion
  have groupFull : a.groupFull = b.groupFull := Vector.ext fun k inRange => same (.groupFull ⟨k, inRange⟩) Cause.noConfusion
  cases a
  simp only [CauseSet.holds] at operator command quarantineFull depositFull groupFull
  rw [operator, command, quarantineFull, depositFull, groupFull]

theorem takeBacklog_report_of_still {s : State} (still : s.line.state ≠ .run ∧ s.line.state ≠ .drain) :
    (takeBacklog s).report = s.report := by
  unfold takeBacklog
  split
  · simp only [raiseQuiet]
    split
    · rfl
    · split
      next run => exact absurd run still.1
      next drain => exact absurd drain still.2
      all_goals rfl
  · rfl

/-! ### The cleared state -/

/-- The Edge FIFO, the Track Queue and the Loss List empty (steps 1 and 2 of R187). -/
def itemsGone (u : State) : State := { u with
  edge := { u.edge with fifo := [], gap := none }
  track := { u.track with queue := [], waiting := none, losses := [], gates := Vector.replicate 15 false } }

/-- The Report Unit after the items are counted DISCARDED. -/
def resetReport (u : State) : ReportUnit := (discardItems (discardedItems u) (itemsGone u)).report

theorem resetItems_eq (u : State) : resetItems u = (itemsGone u).setReport (resetReport u) := by
  have gone : resetItems u = discardItems (discardedItems u) (itemsGone u) := by
    rw [itemsGone, ← gatesOf_nil]
    rfl
  rw [gone, resetReport, ← discardItems_eq]

/-- Everything cleared, the line not yet moved (steps 1 to 6 of R187). -/
def resetCleared (u : State) : State := dropJam (dropHeld (resetDeposits (resetGroups (resetPockets (resetItems u)))))

theorem resetCleared_only (u : State) : resetCleared u = { itemsGone u with
    pocket := (emptiedPockets u).pocket
    group := { u.group with groups := (resetCleared u).group.groups, accs := Vector.replicate 16 none }
    deposit := { u.deposit with deposits := [], declarations := u.deposit.declarations.filter fun d => !d.bound }
    line := { u.line with causes := { CauseSet.empty with backlog := u.line.causes.backlog }, jam := none }
    report := resetReport u } := by
  have groups : (resetCleared u).group.groups = (resetGroups (resetPockets (resetItems u))).group.groups := rfl
  rw [groups, resetCleared, resetGroups_only, resetItems_eq]
  rfl

theorem resetCleared_pocket (u : State) : (resetCleared u).pocket = (emptiedPockets u).pocket := by rw [resetCleared_only]

theorem resetCleared_line (u : State) : (resetCleared u).line =
    { u.line with causes := { CauseSet.empty with backlog := u.line.causes.backlog }, jam := none } := by rw [resetCleared_only]

theorem resetCleared_track (u : State) : (resetCleared u).track = (itemsGone u).track := by rw [resetCleared_only]

theorem resetCleared_edge (u : State) : (resetCleared u).edge = { u.edge with fifo := [], gap := none } := by
  rw [resetCleared_only]
  rfl

theorem resetCleared_report (u : State) : (resetCleared u).report = resetReport u := by rw [resetCleared_only]

theorem dropJam_dropHeld_resetDeposits_group (v : State) : (dropJam (dropHeld (resetDeposits v))).group = v.group := rfl

theorem dropJam_dropHeld_resetDeposits_pocket (v : State) : (dropJam (dropHeld (resetDeposits v))).pocket = v.pocket := rfl

theorem resetPockets_group (v : State) : (resetPockets v).group = v.group := rfl

theorem pocketAt_resetCleared (g : Gate) (u : State) : pocketAt g (resetCleared u) =
    if (pocketAt g u).state = .unassigned then pocketAt g u else PocketRec.fresh .openState (pocketAt g u).enabled := by
  rw [pocketAt_congr (congrArg PocketUnit.pockets (resetCleared_pocket u)), pocketAt_emptiedPockets]
  rfl

theorem groupAt_resetCleared (k : GroupNo) (u : State) : groupAt k (resetCleared u) = { groupAt k u with
    current := (groupAt k u).members.head?
    armed := decide ((groupAt k u).lowThreshold < (groupAt k u).members.countP fun g =>
      (pocketAt g (resetCleared u)).state == .openState && (pocketAt g (resetCleared u)).enabled) } := by
  have groups : (resetCleared u).group = (resetGroups (resetPockets (resetItems u))).group := dropJam_dropHeld_resetDeposits_group _
  have unit : (resetPockets (resetItems u)).group = u.group := by
    rw [resetPockets_group, resetItems_eq]
    rfl
  have pocket : (resetCleared u).pocket = (resetPockets (resetItems u)).pocket := by
    rw [resetCleared, dropJam_dropHeld_resetDeposits_pocket]
    exact (resetGroups_work (resetPockets (resetItems u))).stands .pocket
  generalize resetPockets (resetItems u) = p at groups unit pocket
  have same : groupAt k p = groupAt k u := groupAt_congr (congrArg GroupUnit.groups unit) k
  have count : openCount k p = (groupAt k u).members.countP fun g =>
      (pocketAt g (resetCleared u)).state == .openState && (pocketAt g (resetCleared u)).enabled := by
    rw [openCount, same]
    simp only [pocketAt, pocket]
  rw [groupAt_congr (congrArg GroupUnit.groups groups), groupAt_resetGroups, count, same]

/-- The line in IDLE, its report not yet handed on. -/
def resetMoved (u : State) : State := ((resetCleared u).setLine { u.line with
    state := .idle, causes := { CauseSet.empty with backlog := u.line.causes.backlog }, resume := none, jam := none, runOut := false
    feedEn := false }).setTrack { (itemsGone u).track with stall := none }

/-- The LINE report of the reset. -/
def resetLineReport (u : State) : Report :=
  moveReport u.line.state .idle .lineReset { CauseSet.empty with backlog := u.line.causes.backlog } none u

theorem line_track_update (c : State) (l : LineUnit) (k : TrackUnit) : { c with line := l, track := k } = (c.setLine l).setTrack k := rfl

theorem resetLine_eq (u : State) :
    resetLine u = if u.line.state = .idle then resetMoved u else hand (resetLineReport u) (resetMoved u) := by
  have run : resetLine u = if u.line.state = .idle then enterLine .idle none (resetCleared u)
      else changeLine .idle none .lineReset none (resetCleared u) := rfl
  have moved : { resetCleared u with
      line := { (resetCleared u).line with state := .idle, resume := none, runOut := false, feedEn := false }
      track := { (resetCleared u).track with stall := none } } = resetMoved u := by
    rw [resetCleared_line, resetCleared_track]
    exact line_track_update (resetCleared u) _ _
  have report : moveReport (resetCleared u).line.state .idle .lineReset (resetCleared u).line.causes none (resetCleared u) = resetLineReport u := by
    rw [moveReport, resetCleared_line, resetCleared_edge]
    rfl
  rw [run, enterLine_idle, changeLine_idle, report, moved]

theorem ReportWork.refl (s : State) : ReportWork s s := ⟨rfl, id, id⟩

theorem resetLine_reportWork (u : State) : ReportWork (resetMoved u) (resetLine u) := by
  rw [resetLine_eq]
  split
  · exact .refl _
  · exact hand_reportWork _ _

theorem resetMoved_report (u : State) : (resetMoved u).report = resetReport u := by
  rw [resetMoved, State.setTrack_report, State.setLine_report, resetCleared_report]

theorem resetLine_prefix (u : State) : u.report.queue <+: (resetLine u).report.queue := by
  have counted : u.report.queue <+: (resetMoved u).report.queue := by
    rw [resetMoved_report]
    exact discardItems_prefix (discardedItems u) (itemsGone u)
  rw [resetLine_eq]
  split
  · exact counted
  · exact counted.trans (hand_prefix _ _)

theorem resetLine_discarded (u : State) : (resetLine u).report.events[EventTally.discarded.index] =
    u.report.events[EventTally.discarded.index] + BitVec.ofNat 16 (discardedItems u) := by
  have counted : (resetMoved u).report.events[EventTally.discarded.index] =
      u.report.events[EventTally.discarded.index] + BitVec.ofNat 16 (discardedItems u) := by
    simp only [resetMoved_report]
    exact discardItems_discarded (discardedItems u) (itemsGone u)
  rw [resetLine_eq]
  split
  · exact counted
  · rw [hand_event_of_ne (by decide) (by decide)]
    exact counted

/-- With room, a reset hands on a notice of DISCARDED where one is due, and the LINE report. -/
theorem resetLine_queue {u : State} (few : discardedItems u < 65536) (room : u.report.queue.length ≤ 62) (unmarked : u.report.lossMark = 0) :
    ∃ notices : List Queued, notices.length ≤ 1 ∧ (∀ q ∈ notices, IsNotice q) ∧
      (resetLine u).report.queue = u.report.queue ++ notices ++
        if u.line.state = .idle then [] else [{ report := resetLineReport u, loss := 0 }] := by
  obtain ⟨notices, atMostOne, areNotices, queue, lossMark⟩ :=
    discardItems_notices few (s := itemsGone u) (by show u.report.queue.length < 64; omega) unmarked
  have isQueue : (resetMoved u).report.queue = u.report.queue ++ notices := by
    rw [resetMoved_report]
    exact queue
  have isMark : (resetMoved u).report.lossMark = 0 := by
    rw [resetMoved_report]
    exact lossMark
  refine ⟨notices, atMostOne, areNotices, ?_⟩
  rw [resetLine_eq]
  split
  · rw [isQueue, List.append_nil]
  · have small : (resetMoved u).report.queue.length < 64 := by
      rw [isQueue, List.length_append]
      omega
    rw [hand_queue_of_room (fun _ => Report.noConfusion) small, isQueue, isMark]

end Sys2Proof.Machine
end

section
/-! SUPPORT. The statement about LINE_RESET (R105, R121, R145, R165, R168, R187). -/

set_option Elab.async false

namespace Sys2Proof.Machine

/-- A reset answered, its effect yet to come. -/
def resetAnswered (tag : Byte) (s : State) : State := hand (.answer tag 0x55 none (.reset (resetSummary s))) s

theorem exec_lineReset (tag : Byte) (s : State) : exec (.lineReset tag) s = .next (takeBacklog (resetLine (resetAnswered tag s))) :=
  congrArg Host.Outcome.next (lineRequest_of_pass rfl _ _ _ _ _)

theorem discardedItems_eq (s : State) :
    discardedItems s = s.edge.fifo.length + s.track.queue.length + s.track.waiting.toList.length := by
  rw [discardedItems, inFlightItems, List.length_append, Nat.add_assoc]

section

variable (tag : Byte) (s : State)

theorem resetAnswered_discarded : discardedItems (resetAnswered tag s) = discardedItems s := by
  rw [discardedItems, inFlightItems, resetAnswered, hand_edge, hand_track]
  rfl

/-- What the end of the request leaves of the reset. -/
theorem reset_reported : Reported (resetMoved (resetAnswered tag s)) (takeBacklog (resetLine (resetAnswered tag s))) :=
  (resetLine_reportWork _).reported

theorem resetMoved_causes (u : State) {c : Cause} (notBacklog : c ≠ .backlog) :
    (resetMoved u).line.causes.holds c = CauseSet.empty.holds c := by
  cases c with
  | backlog => exact absurd rfl notBacklog
  | operator | command | quarantineFull | depositFull | groupFull k => rfl

theorem resetMoved_idle (u : State) : (resetMoved u).line.state = .idle := rfl

theorem reset_units (u t : State) (reported : Reported (resetMoved u) t) : t.feed = (resetCleared u).feed ∧ t.route = (resetCleared u).route ∧
    t.watch = (resetCleared u).watch ∧ t.freeCount = (resetCleared u).freeCount ∧ t.edge = (resetCleared u).edge ∧
    t.pocket = (resetCleared u).pocket ∧ t.group = (resetCleared u).group ∧ t.deposit = (resetCleared u).deposit := by
  obtain ⟨only, -, -⟩ := reported
  rw [resetMoved] at only
  generalize resetCleared u = c at only ⊢
  rw [only]
  exact ⟨rfl, rfl, rfl, rfl, rfl, rfl, rfl, rfl⟩

theorem resetCleared_units (u : State) : (resetCleared u).feed = u.feed ∧ (resetCleared u).route = u.route ∧
    (resetCleared u).watch = u.watch ∧ (resetCleared u).freeCount = u.freeCount ∧
    (resetCleared u).deposit = { u.deposit with deposits := [], declarations := u.deposit.declarations.filter fun d => !d.bound } ∧
    (resetCleared u).group.accs = Vector.replicate 16 none ∧ (resetCleared u).group.nextBrick = u.group.nextBrick := by
  have only := resetCleared_only u
  generalize (resetCleared u).group.groups = groups at only
  rw [only]
  exact ⟨rfl, rfl, rfl, rfl, rfl, rfl, rfl⟩

theorem emptiedPockets_pocket (u : State) : (emptiedPockets u).pocket = { u.pocket with
    pockets := (emptiedPockets u).pocket.pockets, manifest := [], runOut := 0, runOutReasons := Vector.replicate 11 0 } := rfl

end

/-- Settles O50: LINE_RESET by its works in order, from any state. -/
theorem lineResetTaken : Obligations.LineResetTaken := by
  unfold Obligations.LineResetTaken
  intro tag s
  refine ⟨_, exec_lineReset tag s, ?_⟩
  intro items emptied
  have isItems : discardedItems s = items := discardedItems_eq s
  have reported := reset_reported tag s
  have prefix_ := (resetLine_prefix (resetAnswered tag s)).trans (takeBacklog_prefix (resetLine (resetAnswered tag s)))
  have discarded : (takeBacklog (resetLine (resetAnswered tag s))).report.events[EventTally.discarded.index] =
      s.report.events[EventTally.discarded.index] + BitVec.ofNat 16 items := by
    rw [takeBacklog_event_of_ne (by decide) (by decide), resetLine_discarded, resetAnswered_discarded, isItems, resetAnswered,
      hand_event_of_ne (by decide) (by decide)]
  have rests : (resetLine (resetAnswered tag s)).line.state = .idle := by
    have line : (resetLine (resetAnswered tag s)).line = (resetMoved (resetAnswered tag s)).line := by
      rw [resetLine_eq]
      split
      · rfl
      · exact hand_line _ _
    rw [line, resetMoved_idle]
  have report := takeBacklog_report_of_still (s := resetLine (resetAnswered tag s)) (by simp [rests])
  generalize takeBacklog (resetLine (resetAnswered tag s)) = t at reported prefix_ discarded report ⊢
  obtain ⟨feed, route, watch, freeCount, edge, pocket, group, deposit⟩ := reset_units _ t reported
  obtain ⟨feed', route', watch', freeCount', deposit', accs, nextBrick⟩ := resetCleared_units (resetAnswered tag s)
  obtain ⟨track, causes, line, held⟩ := HoldsBut.of_reported (changed := fun c => c = .backlog) rfl reported (by simp [resetMoved_idle])
  have answeredPocket : (resetAnswered tag s).pocket = s.pocket := hand_pocket _ _
  have answeredGroup : (resetAnswered tag s).group = s.group := hand_group _ _
  have answeredLine : (resetAnswered tag s).line = s.line := hand_line _ _
  have answeredEdge : (resetAnswered tag s).edge = s.edge := hand_edge _ _
  have answeredTrack : (resetAnswered tag s).track = s.track := hand_track _ _
  have answeredDeposit : (resetAnswered tag s).deposit = s.deposit := hand_deposit _ _
  have record (g : Gate) : pocketAt g (resetAnswered tag s) = pocketAt g s := pocketAt_congr (congrArg PocketUnit.pockets answeredPocket) g
  have groupRecord (k : GroupNo) : groupAt k (resetAnswered tag s) = groupAt k s := groupAt_congr (congrArg GroupUnit.groups answeredGroup) k
  have cleared (g : Gate) : pocketAt g t = pocketAt g (resetCleared (resetAnswered tag s)) := pocketAt_congr (congrArg PocketUnit.pockets pocket) g
  have summary : resetSummary s = { items := items, losses := s.track.losses.length, bundles := emptied.length
                                    notes := (emptied.map fun g => (pocketAt g s).confirmed).sum, runOut := s.pocket.runOut
                                    deposits := s.deposit.deposits.length, declarations := s.deposit.declarations.countP (·.bound) } := by
    rw [resetSummary, isItems]
    rfl
  refine ⟨feed.trans (feed'.trans (hand_feed _ _)), route.trans (route'.trans (hand_route _ _)), watch.trans (watch'.trans (hand_watch _ _)),
    freeCount.trans (freeCount'.trans (hand_freeCount _ _)), ?_, ?_, ?_, fun g => ?_, ?_, ?_, fun k => ?_, ?_, ?_, ?_, ?_, ?_, ?_, ?_, discarded,
    fun room => ?_, fun few room => ?_⟩
  · rw [edge, resetCleared_edge, answeredEdge]
  · rw [track, resetMoved, State.setTrack_track, itemsGone, answeredTrack]
  · rw [pocket, resetCleared_pocket, emptiedPockets_pocket, answeredPocket]
  · rw [cleared, pocketAt_resetCleared, record]
  · rw [group, accs]
  · rw [group, nextBrick, answeredGroup]
  · rw [groupAt_congr (congrArg GroupUnit.groups group), groupAt_resetCleared, groupRecord]
    simp only [cleared]
  · rw [deposit, deposit', answeredDeposit]
  · rw [line]
    rfl
  · rw [line]
    rfl
  · rw [line]
    rfl
  · rw [line]
    rfl
  · rw [line]
    rfl
  · rw [line]
    exact causes_eq_of_holds fun c notBacklog => (held c notBacklog).trans (resetMoved_causes _ notBacklog)
  · refine exists_later (List.IsPrefix.trans ?_ prefix_)
    rw [← summary, ← hand_queue_of_room (fun _ => Report.noConfusion) room]
    exact List.prefix_rfl
  · have answered := hand_queue_of_room (r := .answer tag 0x55 none (.reset (resetSummary s))) (fun _ => Report.noConfusion) (s := s) (by omega)
    have unmarked := hand_lossMark_of_room (r := .answer tag 0x55 none (.reset (resetSummary s))) (fun _ => Report.noConfusion) (s := s) (by omega)
    have small : (resetAnswered tag s).report.queue.length ≤ 62 := by
      rw [resetAnswered, answered, List.length_append, List.length_singleton]
      omega
    obtain ⟨notices, atMostOne, areNotices, queue⟩ :=
      resetLine_queue (u := resetAnswered tag s) (by rwa [resetAnswered_discarded, isItems]) small unmarked
    refine ⟨{ report := .answer tag 0x55 none (.reset (resetSummary s)), loss := s.report.lossMark }, notices, atMostOne, areNotices, ?_⟩
    have total : t.report.queue = (resetAnswered tag s).report.queue ++ notices ++
        if (resetAnswered tag s).line.state = .idle then [] else [{ report := resetLineReport (resetAnswered tag s), loss := 0 }] :=
      (congrArg ReportUnit.queue report).trans queue
    rw [total, resetLineReport, moveReport, answeredLine, answeredEdge, resetAnswered, answered]
    simp only [List.append_assoc, List.cons_append, List.nil_append]

end Sys2Proof.Machine
end

section
/-! SUPPORT. Separators: the OPEN deposit changed, the closures of a boundary, the cause DEPOSIT_FULL, the swap (R50, R115, R153 to R157). -/

set_option Elab.async false

namespace Sys2Proof.Machine

/-! ### The OPEN deposit changed -/

/-- The deposits with each OPEN one changed. -/
def openChanged (f : Deposit → Deposit) (deposits : List Deposit) : List Deposit :=
  deposits.map fun d => if d.state = .openState then f d else d

/-- The deposits of a state replaced. -/
def withDeposits (deposits : List Deposit) (s : State) : State := { s with deposit := { s.deposit with deposits := deposits } }

section

variable {s : State}

theorem slot_of_openDeposit (once : (s.deposit.deposits.map (·.slot)).Nodup)
    (single : (s.deposit.deposits.countP fun d => d.state == .openState) ≤ 1) {o : Deposit} (found : openDeposit s = some o) :
    ∀ d ∈ s.deposit.deposits, d.slot = o.slot ↔ d.state = .openState := by
  obtain ⟨held, isOpen⟩ := openDeposit_eq_some found
  have inFilter {y : Deposit} (inList : y ∈ s.deposit.deposits) (opens : y.state = .openState) :
      y ∈ s.deposit.deposits.filter fun d => d.state == .openState := List.mem_filter.mpr ⟨inList, beq_iff_eq.mpr opens⟩
  rw [List.countP_eq_length_filter] at single
  intro d inList
  constructor
  · intro same
    obtain rfl := List.inj_on_of_nodup_map once inList held same
    exact isOpen
  · intro opens
    rw [eq_of_mem_of_length_le_one single (inFilter inList opens) (inFilter held isOpen)]

/-- A change of the OPEN deposit, by its slot, is a change of what is OPEN. -/
theorem modifySlot_open (once : (s.deposit.deposits.map (·.slot)).Nodup)
    (single : (s.deposit.deposits.countP fun d => d.state == .openState) ≤ 1) (f : Deposit → Deposit) :
    modifySlot ((openDeposit s).map (·.slot)) f s = withDeposits (openChanged f s.deposit.deposits) s := by
  rw [modifySlot_eq, atSlot, withDeposits, openChanged]
  have same : (s.deposit.deposits.map fun d => if some d.slot = (openDeposit s).map (·.slot) then f d else d) =
      s.deposit.deposits.map fun d => if d.state = .openState then f d else d := by
    refine List.map_congr_left fun d inList => ?_
    cases found : openDeposit s with
    | none =>
      have notOpen : d.state ≠ .openState := by simpa using List.find?_eq_none.mp found d inList
      simp [notOpen]
    | some o => simp [slot_of_openDeposit once single found d inList]
  rw [same]

end

section

variable {f : Deposit → Deposit} {s : State} (slot : ∀ d, (f d).slot = d.slot)

include slot

theorem depositAt_openChanged (k : SlotNo) : depositAt k (withDeposits (openChanged f s.deposit.deposits) s) =
    (depositAt k s).map fun d => if d.state = .openState then f d else d := by
  have same : ((fun d : Deposit => d.slot == k) ∘ fun d => if d.state = .openState then f d else d) = fun d => d.slot == k := by
    funext d
    simp only [Function.comp_apply]
    split
    · rw [slot]
    · rfl
  show ((s.deposit.deposits.map _).find? _) = _
  rw [List.find?_map, same]
  rfl

/-- What a lost boundary reports of the deposits is what it reports of them before their flag. -/
theorem depositFault_openChanged (state : ∀ d, (f d).state = d.state) (id : ∀ d, (f d).id = d.id) (noSlot : Bool) (r : SeparatorRecord)
    (item : Word) : depositFault noSlot r item (withDeposits (openChanged f s.deposit.deposits) s) = depositFault noSlot r item s := by
  have key : (openDeposit (withDeposits (openChanged f s.deposit.deposits) s)).map (·.id) = (openDeposit s).map (·.id) := by
    have same : ((fun d : Deposit => d.state == .openState) ∘ fun d => if d.state = .openState then f d else d) =
        fun d => d.state == .openState := by
      funext d
      simp only [Function.comp_apply]
      split
      · rw [state]
      · rfl
    show ((s.deposit.deposits.map _).find? _).map _ = _
    rw [List.find?_map, same, Option.map_map]
    refine congrArg (Option.map · _) ?_
    funext d
    simp only [Function.comp_apply]
    split
    · rw [id]
    · rfl
  have slots (k : SlotNo) : (depositAt k (withDeposits (openChanged f s.deposit.deposits) s)).map (fun d => (d.state, d.id)) =
      (depositAt k s).map fun d => (d.state, d.id) := by
    rw [depositAt_openChanged slot, Option.map_map]
    refine congrArg (Option.map · _) ?_
    funext d
    simp only [Function.comp_apply]
    split
    · rw [state, id]
    · rfl
  simp only [depositFault, key, slots]

end

theorem freeSlot_isNone_iff (s : State) : (freeSlot s).isNone = true ↔ ∀ k, (depositAt k s).isSome = true := by
  rw [Option.isNone_iff_eq_none, freeSlot, List.find?_eq_none]
  constructor
  · intro held k
    have inSlots : k ∈ allSlots := List.mem_finRange k
    simpa [Option.isSome_iff_ne_none] using held k inSlots
  · intro held k _
    simpa [Option.isSome_iff_ne_none] using held k

/-- The free slot is the first. -/
theorem freeSlot_least {s : State} {k : SlotNo} (isFree : freeSlot s = some k) {j : SlotNo} (below : j < k) :
    ∃ d ∈ s.deposit.deposits, d.slot = j := by
  rw [← depositAt_isSome_iff]
  obtain ⟨-, before, after, split, others⟩ := List.find?_eq_some_iff_append.mp isFree
  have sorted : allSlots.Pairwise (· < ·) := by decide
  have inSlots : j ∈ before ++ k :: after := split ▸ List.mem_finRange j
  rw [split] at sorted
  have inBefore : j ∈ before := by
    rcases List.mem_append.mp inSlots with inBefore | inRest
    · exact inBefore
    · have atLeast : k ≤ j := by
        rcases List.mem_cons.mp inRest with same | inAfter
        · exact same ▸ le_rfl
        · exact le_of_lt ((List.pairwise_cons.mp (List.pairwise_append.mp sorted).2.1).1 j inAfter)
      exact absurd below (not_lt_of_ge atLeast)
  simpa using others j inBefore

/-! ### The closures of a boundary (R115) -/

/-- The members, in ascending group and rotation order. -/
def orderedMembers (s : State) : List Gate := allGroups.flatMap fun k => (groupAt k s).members

/-- One member asked at a boundary. -/
def closeMember (key : DepositKey) (u : State) (g : Gate) : State := if (pocketAt g u).closedBy key then oddClose g u else u

theorem closeMember_members (key : DepositKey) (u : State) (g : Gate) (j : GroupNo) :
    (groupAt j (closeMember key u g)).members = (groupAt j u).members := by
  unfold closeMember
  split
  · exact (oddClose_lists g u).members j
  · rfl

theorem closePure_eq_closeMembers (key : DepositKey) (s : State) : closePure key s = (orderedMembers s).foldl (closeMember key) s := by
  have flat (groups : List GroupNo) (u : State) (members : ∀ j, (groupAt j u).members = (groupAt j s).members) :
      groups.foldl (fun u k => (groupAt k u).members.foldl (closeMember key) u) u =
        (groups.flatMap fun k => (groupAt k s).members).foldl (closeMember key) u := by
    induction groups generalizing u with
    | nil => rfl
    | cons k rest ih =>
      rw [List.foldl_cons, List.flatMap_cons, List.foldl_append, members]
      exact ih _ fun j => (foldl_unchanged (fun u : State => (groupAt j u).members) (fun u g => closeMember_members key u g j) _ u).trans (members j)
  exact flat allGroups s fun _ => rfl

theorem closedBy_oddClosable {r : PocketRec} {key : DepositKey} (closed : r.closedBy key = true) : r.oddClosable = true := by
  rw [PocketRec.closedBy, Bool.and_eq_true, Bool.and_eq_true] at closed
  exact closed.1.1

/-- The members a boundary closes are those it would close before it closes any. -/
theorem foldl_closeMember (key : DepositKey) (gates : List Gate) (u : State) :
    gates.foldl (closeMember key) u = (gates.filter fun g => (pocketAt g u).closedBy key).foldl (fun u g => oddClose g u) u := by
  induction gates generalizing u with
  | nil => rfl
  | cons g rest ih =>
    rw [List.foldl_cons, ih]
    cases asked : (pocketAt g u).closedBy key with
    | false =>
      have step : closeMember key u g = u := if_neg (by rw [asked]; exact Bool.false_ne_true)
      rw [step, List.filter_cons_of_neg (p := fun g => (pocketAt g u).closedBy key) (by rw [asked]; exact Bool.false_ne_true)]
    | true =>
      have step : closeMember key u g = oddClose g u := if_pos asked
      rw [step, List.filter_cons_of_pos (p := fun g => (pocketAt g u).closedBy key) asked, List.foldl_cons]
      have other {h : Gate} (closable : (pocketAt h (oddClose g u)).oddClosable = true) : pocketAt h (oddClose g u) = pocketAt h u := by
        rw [pocketAt_oddClose] at closable ⊢
        split at closable
        · rw [oddRecord_not_closable] at closable
          cases closable
        next notHere => exact if_neg notHere
      have still : (rest.filter fun h => (pocketAt h u).closedBy key).filter (fun h => (pocketAt h (oddClose g u)).closedBy key) =
          rest.filter fun h => (pocketAt h (oddClose g u)).closedBy key := by
        rw [List.filter_filter]
        refine List.filter_congr fun h _ => ?_
        cases closes : (pocketAt h (oddClose g u)).closedBy key with
        | false => rfl
        | true => rw [← other (closedBy_oddClosable closes), closes]; rfl
      rw [← still]
      refine foldl_oddClose_filter _ fun h asked closable => ?_
      rw [other closable]
      exact (List.mem_filter.mp asked).2

theorem closePure_eq (key : DepositKey) (s : State) :
    closePure key s = ((orderedMembers s).filter fun g => (pocketAt g s).closedBy key).foldl (fun u g => oddClose g u) s := by
  rw [closePure_eq_closeMembers, foldl_closeMember]

/-! ### What holds of DEPOSIT_FULL (R148, R161) -/

/-- A work that neither raises DEPOSIT_FULL nor ends it. -/
def FullStands (s t : State) : Prop := t.line.causes.depositFull = s.line.causes.depositFull

theorem FullStands.of_line {s t : State} (line : t.line = s.line) : FullStands s t := congrArg (fun l : LineUnit => l.causes.depositFull) line

theorem FullStands.refl (s : State) : FullStands s s := rfl

theorem FullStands.trans {s t u : State} (one : FullStands s t) (two : FullStands t u) : FullStands s u := Eq.trans two one

theorem FullStands.ite {p : Prop} [Decidable p] {s t u : State} (holds : FullStands s t) (fails : FullStands s u) :
    FullStands s (if p then t else u) := by
  split
  · exact holds
  · exact fails

theorem Reported.fullStands {s t : State} (reported : Reported s t) : FullStands s t := by
  obtain ⟨-, taken, -⟩ := reported
  obtain same | ⟨-, causes, -⟩ := taken
  · exact .of_line same
  · exact (congrArg CauseSet.depositFull causes).trans rfl

theorem emit_fullStands (r : Report) (s : State) : FullStands s (emit r s) := (emit_reported r s).fullStands

theorem bump_fullStands (e : EventTally) (s : State) : FullStands s (bump e s) := (bump_reported e s).fullStands

theorem recountGroup_fullStands (k : GroupNo) (item : Option Word) (s : State) : FullStands s (recountGroup k item s) :=
  .ite (.ite (FullStands.trans (t := putGroup k { groupAt k s with armed := false } s) (.of_line rfl) (emit_fullStands _ _)) (.refl s))
    (.ite (.refl s) (.of_line rfl))

theorem memberChanged_fullStands (g : Gate) (old : PocketState) (item : Option Word) (s : State) :
    FullStands s (memberChanged g old item s) := by
  cases isGroup : groupOf g s with
  | none =>
    rw [memberChanged_of_none isGroup]
    exact .refl s
  | some k =>
    rw [memberChanged_of_some isGroup]
    have freed : FullStands s (endCause (.groupFull k) s) := rfl
    exact .ite (.refl s) (FullStands.trans (.ite freed (.refl s)) (recountGroup_fullStands k item _))

theorem closeBundle_fullStands (g : Gate) (r : PocketRec) {close : BundleClose} (notFull : close ≠ .full) (s : State) :
    FullStands s (closeBundle g r close s) := by
  cases isGroup : groupOf g s with
  | none =>
    simp only [closeBundle, isGroup]
    exact .refl s
  | some k =>
    rw [closeBundle_of_unoffered isGroup (fun isFull => absurd isFull notFull) (.inl notFull)]
    exact FullStands.trans (t := numberedBundle s) (.of_line rfl) ((emit_fullStands _ _).trans (bump_fullStands _ _))

theorem oddClose_fullStands (g : Gate) (s : State) : FullStands s (oddClose g s) := by
  have put (r : PocketRec) : FullStands s (putPocket g r s) := .of_line rfl
  obtain ⟨-, same⟩ | ⟨r, -, closed⟩ | ⟨r, -, closing⟩ := oddClose_cases g s
  · rw [same]
    exact .refl s
  · rw [closed]
    exact ((put r).trans (closeBundle_fullStands g r (by decide) _)).trans (memberChanged_fullStands _ _ _ _)
  · rw [closing]
    exact (put r).trans (memberChanged_fullStands _ _ _ _)

theorem foldl_oddClose_fullStands (gates : List Gate) (s : State) : FullStands s (gates.foldl (fun u g => oddClose g u) s) :=
  foldl_unchanged (fun u : State => u.line.causes.depositFull) (fun u g => oddClose_fullStands g u) gates s

theorem changeLine_causes (to_ : LineState) (resume : Option Resume) (trigger : Trigger) (cause : Option LineCause) (s : State) :
    (changeLine to_ resume trigger cause s).line.causes = s.line.causes := by
  simp only [changeLine, hand_line, enterLine]
  split <;> rfl

theorem raiseCause_full (s : State) : (raiseCause .depositFull s).line.causes.depositFull = true := by
  have quiet : (raiseQuiet .depositFull s).line.causes.depositFull = true := by
    simp only [raiseQuiet]
    split
    next held => exact held
    next =>
      split
      · rw [changeLine_causes]
        rfl
      · rw [changeLine_causes]
        rfl
      all_goals rfl
  have taken : FullStands (raiseQuiet .depositFull s) (raiseCause .depositFull s) :=
    (ReportWork.reported ⟨rfl, id, id⟩ : Reported _ (takeBacklog (raiseQuiet .depositFull s))).fullStands
  exact Eq.trans taken quiet

end Sys2Proof.Machine
end

section
/-! SUPPORT. Separators: the boundary taken (R50, R115, R153 to R157). -/

set_option Elab.async false

namespace Sys2Proof.Machine

/-- A deposit made CLOSING. -/
def Deposit.shut (d : Deposit) : Deposit := { d with state := .closing }

/-- A deposit whose boundary is lost. -/
def Deposit.flagged (d : Deposit) : Deposit := { d with boundaryLost := true }

/-- The closures of a boundary made: the OPEN deposit CLOSING, its deposit-pure bundles closed (R115, R155). -/
def boundaryClosed (s : State) : State :=
  ((orderedMembers s).filter fun g => (pocketAt g s).closedBy (openKey s)).foldl (fun u g => oddClose g u)
    (withDeposits (openChanged Deposit.shut s.deposit.deposits) s)

/-- The OPEN deposit closes at its boundary. -/
def EndsAtOnce (test : Bool) (s : State) : Prop :=
  ∃ o, openDeposit s = some o ∧ test = true ∧ o.inFlight = 0 ∧ s.line.state ≠ .jammed

section

variable {s : State}

/-! ### The closures -/

theorem boundaryClosed_work (s : State) : Work [.pocket, .group] (withDeposits (openChanged Deposit.shut s.deposit.deposits) s) (boundaryClosed s) :=
  foldl_oddClose_work _ _

theorem boundaryClosed_deposit (s : State) :
    (boundaryClosed s).deposit = { s.deposit with deposits := openChanged Deposit.shut s.deposit.deposits } :=
  (boundaryClosed_work s).stands .deposit

theorem boundaryClosed_route (s : State) : (boundaryClosed s).route = s.route := (boundaryClosed_work s).stands .route

theorem boundaryClosed_jammed (s : State) : (boundaryClosed s).line.state = .jammed ↔ s.line.state = .jammed :=
  (boundaryClosed_work s).stands .jam

theorem boundaryClosed_fullStands (s : State) : FullStands s (boundaryClosed s) :=
  FullStands.trans (t := withDeposits (openChanged Deposit.shut s.deposit.deposits) s) (.of_line rfl) (foldl_oddClose_fullStands _ _)

theorem pocketAt_boundaryClosed (g : Gate) (s : State) : pocketAt g (boundaryClosed s) =
    if g ∈ orderedMembers s ∧ (pocketAt g s).closedBy (openKey s) = true then
      { pocketAt g s with target := some (pocketAt g s).committed, closing := .odd
                          state := if (pocketAt g s).confirmed = (pocketAt g s).committed then .full else .closing }
    else pocketAt g s := by
  rw [boundaryClosed, pocketAt_foldl_oddClose]
  simp only [List.mem_filter]
  refine ite_congr rfl (fun asked => ?_) fun _ => rfl
  have closable := (oddClosable_iff _).mp (closedBy_oddClosable asked.2)
  exact if_pos closable

/-! ### The test of the deposit made CLOSING -/

theorem depositAt_boundaryClosed (once : (s.deposit.deposits.map (·.slot)).Nodup) {o : Deposit}
    (found : openDeposit s = some o) : depositAt o.slot (boundaryClosed s) = some o.shut := by
  obtain ⟨held, isOpen⟩ := openDeposit_eq_some found
  have shut := depositAt_openChanged (s := s) (f := Deposit.shut) (fun _ => rfl) o.slot
  rw [depositAt_of_nodup once held, Option.map_some, if_pos isOpen] at shut
  rw [← shut, depositAt, boundaryClosed_deposit]
  rfl

section

variable (once : (s.deposit.deposits.map (·.slot)).Nodup) (single : (s.deposit.deposits.countP fun d => d.state == .openState) ≤ 1)

include once single

theorem closePure_at_boundary : closePure (openKey s) (modifySlot ((openDeposit s).map (·.slot)) Deposit.shut s) = boundaryClosed s := by
  rw [modifySlot_open once single, closePure_eq]
  rfl

theorem endOpen_of_none (found : openDeposit s = none) (test : Bool) : endOpen (openDeposit s) test s = boundaryClosed s := by
  rw [← closePure_at_boundary once single, openKey, found]
  rfl

theorem endOpen_of_some {o : Deposit} (found : openDeposit s = some o) (test : Bool) :
    endOpen (openDeposit s) test s = if test = true then testClose o.slot false (boundaryClosed s) else boundaryClosed s := by
  rw [← closePure_at_boundary once single, openKey, found]
  rfl

theorem endOpen_of_kept {test : Bool} (kept : ¬ EndsAtOnce test s) : endOpen (openDeposit s) test s = boundaryClosed s := by
  cases found : openDeposit s with
  | none => rw [← found, endOpen_of_none once single found]
  | some o =>
    rw [← found, endOpen_of_some once single found]
    split
    next isTest =>
      refine testClose_of_kept (depositAt_boundaryClosed once found) ?_ false
      by_cases none : o.inFlight = 0
      · have jammed : s.line.state = .jammed := by
          by_contra running
          exact kept ⟨o, found, isTest, none, running⟩
        exact .inr (.inr ((boundaryClosed_jammed s).mpr jammed))
      · exact .inr (.inl (Nat.pos_of_ne_zero none))
    next => rfl

theorem endOpen_of_ended {test : Bool} (ends : EndsAtOnce test s) :
    (endOpen (openDeposit s) test s).deposit.deposits = s.deposit.deposits.filter (fun d => d.state != .openState) ∧
    (endOpen (openDeposit s) test s).deposit.declarations = s.deposit.declarations.filter
      (fun e => !(e.bound && (openDeposit s).any fun o => o.id == e.id)) ∧
    (endOpen (openDeposit s) test s).line.causes.depositFull = false := by
  obtain ⟨o, found, isTest, none, running⟩ := ends
  have notJammed : (boundaryClosed s).line.state ≠ .jammed := mt (boundaryClosed_jammed s).mp running
  have closed := testClose_of_ended (depositAt_boundaryClosed once found) rfl none notJammed false
  rw [endOpen_of_some once single found, if_pos isTest, closed, found]
  refine ⟨?_, ?_, rfl⟩
  · show ((boundaryClosed s).deposit.deposits.filter fun x => x.slot != o.slot) = _
    rw [boundaryClosed_deposit]
    show (s.deposit.deposits.map _).filter _ = _
    rw [List.filter_map]
    have kept : (s.deposit.deposits.filter ((fun x => x.slot != o.slot) ∘ fun d => if d.state = .openState then d.shut else d)) =
        s.deposit.deposits.filter fun d => d.state != .openState := by
      refine List.filter_congr fun d held => ?_
      have slot : (if d.state = .openState then d.shut else d).slot = d.slot := by
        split <;> rfl
      rw [Function.comp_apply, slot, Bool.eq_iff_iff, bne_iff_ne, bne_iff_ne, ne_eq, ne_eq, slot_of_openDeposit once single found d held]
    rw [kept]
    refine (List.map_congr_left fun d left => ?_).trans (List.map_id _)
    exact if_neg (bne_iff_ne.mp (List.mem_filter.mp left).2)
  · show ((boundaryClosed s).deposit.declarations.filter fun e => !(e.id == o.id && e.bound)) = _
    rw [boundaryClosed_deposit]
    refine List.filter_congr fun e _ => ?_
    rw [Option.any_some, Bool.and_comm, Bool.beq_comm]

/-- The test of the deposit leaves what the closures left of the pockets and the groups, and the route table. -/
theorem endOpen_stands (test : Bool) : (endOpen (openDeposit s) test s).pocket = (boundaryClosed s).pocket ∧
    (endOpen (openDeposit s) test s).group = (boundaryClosed s).group ∧ (endOpen (openDeposit s) test s).route = s.route := by
  cases found : openDeposit s with
  | none =>
    rw [← found, endOpen_of_none once single found]
    exact ⟨rfl, rfl, boundaryClosed_route s⟩
  | some o =>
    rw [← found, endOpen_of_some once single found]
    split
    · have work := testClose_work o.slot false (boundaryClosed s)
      exact ⟨work.stands .pocket, work.stands .group, (show (testClose o.slot false (boundaryClosed s)).route = _ from
        work.stands .route).trans (boundaryClosed_route s)⟩
    · exact ⟨rfl, rfl, boundaryClosed_route s⟩

end

end

/-! ### The pending swap (R50, R52) -/

theorem swapAtBoundary_eq {s u : State} (route : u.route = s.route) (item : Word) (id : Option Word) : swapAtBoundary item id u =
    if s.route.swapPending = true then
      emit (.routes { cardItem := some item, depositId := id, active := s.route.standby, standby := s.route.active })
        { u with route := { (exchange s).route with swapPending := false } }
    else u := by
  have exchanged : (exchange u).setRoute { (exchange u).route with swapPending := false } =
      { u with route := { (exchange s).route with swapPending := false } } := by
    simp only [exchange, State.setRoute, route]
  have report : routesReport (some item) id { u with route := { (exchange s).route with swapPending := false } } =
      .routes { cardItem := some item, depositId := id, active := s.route.standby, standby := s.route.active } := by
    simp only [routesReport, exchange, State.setRoute]
  simp only [swapAtBoundary, route, exchanged, report]

/-! ### The four cases -/

theorem loseBoundary_eq {s : State} (once : (s.deposit.deposits.map (·.slot)).Nodup)
    (single : (s.deposit.deposits.countP fun d => d.state == .openState) ≤ 1) (noSlot : Bool) (r : SeparatorRecord) (item : Word) :
    loseBoundary noSlot r item s =
      let lost := emit (depositFault noSlot r item s) (withDeposits (openChanged Deposit.flagged s.deposit.deposits) s)
      if noSlot then raiseCause .depositFull lost else lost := by
  simp only [loseBoundary]
  rw [show (fun d : Deposit => { d with boundaryLost := true }) = Deposit.flagged from rfl, modifySlot_open once single,
    depositFault_openChanged (f := Deposit.flagged) (fun _ => rfl) (fun _ => rfl) (fun _ => rfl)]

section

variable {r : SeparatorRecord} {s : State} (item : Word) (late : Bool)

theorem takeSeparator_of_repeated {o : Deposit} (found : openDeposit s = some o) (same : o.id = r.depositId) :
    takeSeparator r item late s = (bump .depositRepeat s, (openDeposit s).map (·.slot)) :=
  if_pos (by rw [found, Option.any_some]; exact beq_iff_eq.mpr same)

section

variable (new : ¬ ∃ o, openDeposit s = some o ∧ o.id = r.depositId)

include new

theorem takeSeparator_of_new : takeSeparator r item late s =
    if (!r.endFlag && idInUse r.depositId s) = true then (loseBoundary false r item s, (openDeposit s).map (·.slot))
    else if (!r.endFlag && (freeSlot s).isNone) = true then (loseBoundary true r item s, (openDeposit s).map (·.slot))
    else takeBoundary r item late s := by
  refine if_neg fun repeated => new ?_
  obtain ⟨o, found, same⟩ := (Option.any_eq_true _ _).mp repeated
  exact ⟨o, found, beq_iff_eq.mp same⟩

theorem takeSeparator_of_inUse (notEnd : r.endFlag = false) (inUse : ∃ d ∈ s.deposit.deposits, d.state = .closing ∧ d.id = r.depositId) :
    takeSeparator r item late s = (loseBoundary false r item s, (openDeposit s).map (·.slot)) := by
  rw [takeSeparator_of_new item late new, if_pos]
  simpa [notEnd, idInUse] using inUse

theorem takeSeparator_of_full (notEnd : r.endFlag = false) (notInUse : ¬ ∃ d ∈ s.deposit.deposits, d.state = .closing ∧ d.id = r.depositId)
    (full : ∀ k, (depositAt k s).isSome = true) :
    takeSeparator r item late s = (loseBoundary true r item s, (openDeposit s).map (·.slot)) := by
  rw [takeSeparator_of_new item late new, if_neg, if_pos]
  · rw [notEnd, (freeSlot_isNone_iff s).mpr full]
    rfl
  · simpa [notEnd, idInUse] using notInUse

theorem takeSeparator_of_boundary (taken : r.endFlag = true ∨
      ((¬ ∃ d ∈ s.deposit.deposits, d.state = .closing ∧ d.id = r.depositId) ∧ ¬ ∀ k, (depositAt k s).isSome = true)) :
    takeSeparator r item late s = takeBoundary r item late s := by
  rw [takeSeparator_of_new item late new]
  obtain isEnd | ⟨notInUse, notFull⟩ := taken
  · simp [isEnd]
  · rw [if_neg, if_neg]
    · rw [Bool.and_eq_true, freeSlot_isNone_iff]
      exact fun both => notFull both.2
    · rw [Bool.and_eq_true, idInUse, List.any_eq_true]
      rintro ⟨-, d, held, both⟩
      rw [Bool.and_eq_true, beq_iff_eq, beq_iff_eq] at both
      exact notInUse ⟨d, held, both⟩

end

end

end Sys2Proof.Machine
end

section
/-! SUPPORT. The statement about separators (R50, R52, R90, R115, R148, R153 to R157). -/

set_option Elab.async false

namespace Sys2Proof.Machine

/-- A late separator's entry, its mark taken. -/
theorem updateAwaiting_separator {seq : Byte} {before after : List Entry} {e : Entry} {s : State} (queue : s.track.queue = before ++ e :: after)
    (others : ∀ x ∈ before, x.awaits seq = false) (waits : e.awaits seq = true) :
    updateAwaiting seq (·.takeLate none none none none) s =
      { s with track := { s.track with queue := before ++ e.takeLate none none none none :: after } } := by
  rw [updateAwaiting, queue, updateFirst_append others waits]
  rfl

section

variable {s : State} (once : (s.deposit.deposits.map (·.slot)).Nodup) (single : (s.deposit.deposits.countP fun d => d.state == .openState) ≤ 1)

include once single

/-- Every slot in use after the boundary was in use before it. -/
theorem endOpen_slots (test : Bool) : ∀ d ∈ (endOpen (openDeposit s) test s).deposit.deposits, ∃ x ∈ s.deposit.deposits, x.slot = d.slot := by
  intro d held
  by_cases ends : EndsAtOnce test s
  · rw [(endOpen_of_ended once single ends).1] at held
    exact ⟨d, (List.mem_filter.mp held).1, rfl⟩
  · rw [endOpen_of_kept once single ends, boundaryClosed_deposit] at held
    obtain ⟨x, inList, rfl⟩ := List.mem_map.mp held
    refine ⟨x, inList, ?_⟩
    split <;> rfl

theorem freeSlot_endOpen (test : Bool) (notFull : ¬ ∀ k, (depositAt k s).isSome = true) :
    ∃ k, freeSlot (endOpen (openDeposit s) test s) = some k := by
  cases isFree : freeSlot (endOpen (openDeposit s) test s) with
  | some k => exact ⟨k, rfl⟩
  | none =>
    refine absurd (fun k => ?_) notFull
    obtain ⟨d, held, same⟩ := (depositAt_isSome_iff k _).mp ((freeSlot_isNone_iff _).mp (Option.isNone_iff_eq_none.mpr isFree) k)
    obtain ⟨x, inList, slot⟩ := endOpen_slots once single test d held
    exact (depositAt_isSome_iff k s).mpr ⟨x, inList, slot.trans same⟩

end

/-! ### The boundary by its end flag -/

section

variable (r : SeparatorRecord) (item : Word) (late : Bool) (s : State)

theorem takeBoundary_of_end (isEnd : r.endFlag = true) : takeBoundary r item late s =
    (swapAtBoundary item none (endOpen (openDeposit s) (!r.endFlag || late) s), (openDeposit s).map (·.slot)) :=
  if_pos isEnd

theorem takeBoundary_of_open (notEnd : r.endFlag = false) {k : SlotNo}
    (isFree : freeSlot (endOpen (openDeposit s) (!r.endFlag || late) s) = some k) : takeBoundary r item late s =
      (swapAtBoundary item (some r.depositId) (openNew k r item (endOpen (openDeposit s) (!r.endFlag || late) s)), some k) := by
  simp only [takeBoundary, isFree]
  exact if_neg (by rw [notEnd]; exact Bool.false_ne_true)

end

/-! ### What the swap leaves -/

section

variable {s u : State} (item : Word) (id : Option Word)

theorem swapAtBoundary_pocket (u : State) : (swapAtBoundary item id u).pocket = u.pocket := (swapAtBoundary_work item id u).stands .pocket

theorem swapAtBoundary_group (u : State) : (swapAtBoundary item id u).group = u.group := (swapAtBoundary_work item id u).stands .group

theorem swapAtBoundary_deposit (u : State) : (swapAtBoundary item id u).deposit = u.deposit :=
  (swapAtBoundary_work item id u).stands .deposit

theorem swapAtBoundary_fullStands (u : State) : FullStands u (swapAtBoundary item id u) := by
  rw [swapAtBoundary_eq rfl]
  exact .ite (FullStands.trans (t := { u with route := { (exchange u).route with swapPending := false } }) (.of_line rfl) (emit_fullStands _ _))
    (.refl u)

theorem swapAtBoundary_route_of_clear (route : u.route = s.route) (clear : s.route.swapPending = false) :
    (swapAtBoundary item id u).route = s.route := by
  rw [swapAtBoundary_eq route, if_neg (by rw [clear]; exact Bool.false_ne_true), route]

theorem swapAtBoundary_route_of_pending (route : u.route = s.route) (pending : s.route.swapPending = true) :
    (swapAtBoundary item id u).route.swapPending = false ∧ (swapAtBoundary item id u).route.active = s.route.standby ∧
      (swapAtBoundary item id u).route.standby = s.route.active := by
  rw [swapAtBoundary_eq route, if_pos pending, emit_route]
  exact ⟨rfl, rfl, rfl⟩

end

/-- A boundary taken is the swap after works on the deposits alone. -/
theorem takeBoundary_swaps {s : State} (once : (s.deposit.deposits.map (·.slot)).Nodup)
    (single : (s.deposit.deposits.countP fun d => d.state == .openState) ≤ 1) (r : SeparatorRecord) (item : Word) (late : Bool)
    (taken : r.endFlag = true ∨ ¬ ∀ k, (depositAt k s).isSome = true) : ∃ id u, (takeBoundary r item late s).1 = swapAtBoundary item id u ∧
      u.pocket = (boundaryClosed s).pocket ∧ u.group = (boundaryClosed s).group ∧ u.route = s.route ∧
      u.line = (endOpen (openDeposit s) (!r.endFlag || late) s).line := by
  obtain ⟨pocket, group, route⟩ := endOpen_stands once single (!r.endFlag || late)
  by_cases isEnd : r.endFlag = true
  · exact ⟨_, _, congrArg Prod.fst (takeBoundary_of_end r item late s isEnd), pocket, group, route, rfl⟩
  · obtain ⟨k, isFree⟩ := freeSlot_endOpen once single (!r.endFlag || late) (taken.resolve_left isEnd)
    exact ⟨_, _, congrArg Prod.fst (takeBoundary_of_open r item late s (Bool.not_eq_true _ ▸ isEnd) isFree), pocket, group, route, rfl⟩

theorem boundaryClosed_groups (s : State) (j : GroupNo) : (groupAt j (boundaryClosed s)).members = (groupAt j s).members ∧
    (groupAt j (boundaryClosed s)).current = (groupAt j s).current :=
  ⟨foldl_oddClose_members _ j _, foldl_oddClose_current _ j _⟩

theorem boundaryClosed_accs (s : State) : (boundaryClosed s).group.accs = s.group.accs := foldl_oddClose_accs _ _

/-- Settles O45: the four cases of a separator, its boundary in order, and a late SEPARATOR record. -/
theorem separatorCases : Obligations.SeparatorCases := by
  unfold Obligations.SeparatorCases
  constructor
  · intro r item late s once single t slot present repeated inUse full flagged fault key pure shut members closed tested opened swapped ends
    have isKey : openKey s = key := by
      simp only [openKey, key]
      cases openDeposit s <;> rfl
    have isClosed : boundaryClosed s = closed := by
      rw [boundaryClosed, isKey]
      rfl
    have isTest : (!r.endFlag || late) = true ↔ r.endFlag = false ∨ late = true := by
      rw [Bool.or_eq_true, Bool.not_eq_true']
    have isTested : endOpen (openDeposit s) (!r.endFlag || late) s = tested := by
      cases found : openDeposit s with
      | none =>
        rw [← found, endOpen_of_none once single found, isClosed]
        simp only [tested, found]
      | some o =>
        rw [← found, endOpen_of_some once single found, isClosed]
        simp only [tested, found, isTest]
    have isFault (noSlot : Bool) : loseBoundary noSlot r item s = if noSlot then raiseCause .depositFull (fault noSlot) else fault noSlot :=
      loseBoundary_eq once single noSlot r item
    have isEnds : EndsAtOnce (!r.endFlag || late) s ↔ ends := by
      simp only [EndsAtOnce, ends, isTest]
    have isSwapped {u : State} (route : u.route = s.route) (id : Option Word) : swapAtBoundary item id u = swapped id u :=
      swapAtBoundary_eq route item id
    refine ⟨?_, fun new notEnd inUse => ?_, fun new notEnd notInUse full => ?_, fun new boundary => ?_⟩
    · rintro ⟨o, found, same⟩
      have taken := takeSeparator_of_repeated item late found same
      exact ⟨congrArg Prod.fst taken, congrArg Prod.snd taken⟩
    · have taken := takeSeparator_of_inUse item late new notEnd inUse
      exact ⟨congrArg Prod.snd taken, (congrArg Prod.fst taken).trans (isFault false)⟩
    · have taken := takeSeparator_of_full item late new notEnd notInUse full
      have lost : t = raiseCause .depositFull (fault true) := (congrArg Prod.fst taken).trans (isFault true)
      exact ⟨congrArg Prod.snd taken, lost, lost ▸ raiseCause_full _⟩
    have taken : takeSeparator r item late s = takeBoundary r item late s := takeSeparator_of_boundary item late new boundary
    obtain ⟨id, u, isSwap, pocket, group, route, line⟩ := takeBoundary_swaps once single r item late (boundary.imp_right fun free => free.2)
    have isResult : t = swapAtBoundary item id u := (congrArg Prod.fst taken).trans isSwap
    have resultGroup : t.group = (boundaryClosed s).group := by
      rw [isResult, swapAtBoundary_group, group]
    have resultPocket : t.pocket = (boundaryClosed s).pocket := by
      rw [isResult, swapAtBoundary_pocket, pocket]
    have resultFull : t.line.causes.depositFull = tested.line.causes.depositFull := by
      rw [isResult, ← isTested, ← line]
      exact swapAtBoundary_fullStands item id u
    have testedRoute : tested.route = s.route := isTested ▸ (endOpen_stands once single _).2.2
    have records (j : GroupNo) : groupAt j t = groupAt j (boundaryClosed s) := groupAt_congr (congrArg GroupUnit.groups resultGroup) j
    refine ⟨fun g => ?_, fun j => ?_, ?_, fun kept => ?_, fun ends => ?_, fun clear => ?_, fun pending => ?_, fun isEnd => ?_, fun notEnd => ?_⟩
    · intro p
      rw [pocketAt_congr (congrArg PocketUnit.pockets resultPocket), pocketAt_boundaryClosed, isKey]
      rfl
    · rw [records]
      exact boundaryClosed_groups s j
    · rw [resultGroup, boundaryClosed_accs]
    · have stays : tested = closed := by
        rw [← isTested, ← isClosed]
        exact endOpen_of_kept once single (mt isEnds.mp kept)
      rw [resultFull, stays, ← isClosed]
      refine ⟨rfl, ?_, ?_, boundaryClosed_fullStands s⟩
      · rw [boundaryClosed_deposit]
        rfl
      · rw [boundaryClosed_deposit]
    · rw [resultFull, ← isTested]
      exact endOpen_of_ended once single (isEnds.mpr ends)
    · rw [isResult]
      exact swapAtBoundary_route_of_clear item id route clear
    · rw [isResult]
      exact swapAtBoundary_route_of_pending item id route pending
    · have whole := taken.trans (takeBoundary_of_end r item late s isEnd)
      have result : t = swapAtBoundary item none tested := isTested ▸ congrArg Prod.fst whole
      exact ⟨congrArg Prod.snd whole, result.trans (isSwapped testedRoute none),
        (congrArg State.deposit result).trans (swapAtBoundary_deposit item none tested)⟩
    · have notFull : ¬ ∀ k, (depositAt k s).isSome = true := (boundary.resolve_left (by rw [notEnd]; exact Bool.false_ne_true)).2
      obtain ⟨k, isFree⟩ := freeSlot_endOpen once single (!r.endFlag || late) notFull
      have whole := taken.trans (takeBoundary_of_open r item late s notEnd isFree)
      rw [isTested] at isFree whole
      have result : t = swapAtBoundary item (some r.depositId) (opened k) := congrArg Prod.fst whole
      exact ⟨k, congrArg Prod.snd whole, freeSlot_eq_some isFree, fun j below => freeSlot_least isFree below,
        result.trans (isSwapped (u := opened k) testedRoute (some r.depositId)),
        (congrArg State.deposit result).trans (swapAtBoundary_deposit item _ (opened k))⟩
  · intro r before after e s unheld queue others kind seq mark x
    have waits : e.awaits r.seq = true := (awaits_iff r.seq e).mpr ⟨kind, seq, mark⟩
    have otherwise : ∀ y ∈ before, y.awaits r.seq = false := fun y isIn =>
      Bool.eq_false_iff.mpr fun waiting => others y isIn ((awaits_iff r.seq y).mp waiting)
    have found : s.track.queue.find? (·.awaits r.seq) = some e := find?_of_first queue otherwise waits
    have taken : exec (.separatorRecord r) s = .next (applyLateSeparator e r s) :=
      congrArg Host.Outcome.next ((takeRecord_of_unheld unheld).1 e found)
    rw [taken, applyLateSeparator, updateAwaiting_separator queue otherwise waits]
    rfl

end Sys2Proof.Machine
end

section
/-! SUPPORT. The bytes of the common encodings as numbers, and the segments of a body (R190, R191, sections 11.1, 11.2). -/

set_option Elab.async false

namespace Sys2Proof.Machine

/-! ### Numbers, most significant byte first -/

theorem extractLsb'_ofNat_eight {w : Nat} (k n : Nat) (fits : k + 8 ≤ w) :
    (BitVec.ofNat w n).extractLsb' k 8 = BitVec.ofNat 8 (n / 2 ^ k) := by
  refine BitVec.eq_of_getLsbD_eq fun i inByte => ?_
  simp only [BitVec.getLsbD_extractLsb', BitVec.getLsbD_ofNat, Nat.testBit_div_two_pow]
  have inWord : k + i < w := by omega
  simp [inByte, inWord, Nat.add_comm]

theorem extractLsb'_eight {w : Nat} (x : BitVec w) (k : Nat) (fits : k + 8 ≤ w) : x.extractLsb' k 8 = BitVec.ofNat 8 (x.toNat / 2 ^ k) := by
  have same := extractLsb'_ofNat_eight k x.toNat fits
  rwa [BitVec.ofNat_toNat, BitVec.setWidth_eq] at same

theorem countBytes_eq (n : Nat) : countBytes n = [BitVec.ofNat 8 (n / 256), BitVec.ofNat 8 n] := by
  rw [countBytes, bytes16, extractLsb'_ofNat_eight 8 n (by decide), extractLsb'_ofNat_eight 0 n (by decide)]
  simp

theorem bytes16_eq (x : Half) : bytes16 x = [BitVec.ofNat 8 (x.toNat / 256), BitVec.ofNat 8 x.toNat] := by
  rw [bytes16, extractLsb'_eight x 8 (by decide), extractLsb'_eight x 0 (by decide)]
  simp

theorem bytes24_eq (x : Pos) :
    bytes24 x = [BitVec.ofNat 8 (x.toNat / 65536), BitVec.ofNat 8 (x.toNat / 256), BitVec.ofNat 8 x.toNat] := by
  rw [bytes24, extractLsb'_eight x 16 (by decide), extractLsb'_eight x 8 (by decide), extractLsb'_eight x 0 (by decide)]
  simp

theorem bytes32_ofNat (n : Nat) : bytes32 (BitVec.ofNat 32 n) =
    [BitVec.ofNat 8 (n / 16777216), BitVec.ofNat 8 (n / 65536), BitVec.ofNat 8 (n / 256), BitVec.ofNat 8 n] := by
  rw [bytes32, extractLsb'_ofNat_eight 24 n (by decide), extractLsb'_ofNat_eight 16 n (by decide), extractLsb'_ofNat_eight 8 n (by decide),
    extractLsb'_ofNat_eight 0 n (by decide)]
  simp

theorem bytes32_eq (x : Word) : bytes32 x =
    [BitVec.ofNat 8 (x.toNat / 16777216), BitVec.ofNat 8 (x.toNat / 65536), BitVec.ofNat 8 (x.toNat / 256), BitVec.ofNat 8 x.toNat] := by
  rw [← bytes32_ofNat, BitVec.ofNat_toNat, BitVec.setWidth_eq]

/-! ### Bits, least significant first -/

/-- The number a list of bits makes, bit 0 first. -/
def weight (bits : List Bool) : Nat := (bits.zipIdx.map fun b => if b.1 then 2 ^ b.2 else 0).sum

theorem weight_nil : weight [] = 0 := rfl

theorem weight_cons (b : Bool) (bits : List Bool) : weight (b :: bits) = b.toNat + 2 * weight bits := by
  have shifted : (bits.zipIdx 1).map (fun b => if b.1 then 2 ^ b.2 else 0) =
      (bits.zipIdx.map fun b => if b.1 then 2 ^ b.2 else 0).map fun n => 2 * n := by
    rw [List.zipIdx_succ, List.map_map, List.map_map]
    refine List.map_congr_left fun x _ => ?_
    simp only [Function.comp_apply]
    split
    · exact Nat.pow_succ'
    · rfl
  rw [weight, weight, List.zipIdx_cons, List.map_cons, List.sum_cons, shifted, List.sum_map_mul_left, List.map_id']
  cases b <;> rfl

theorem toNat_append_ofBool {n : Nat} (x : BitVec n) (b : Bool) : (x ++ BitVec.ofBool b).toNat = b.toNat + 2 * x.toNat := by
  have low : b.toNat < 2 ^ 1 := by cases b <;> decide
  rw [BitVec.toNat_append, BitVec.toNat_ofBool, Nat.shiftLeft_eq, Nat.mul_comm x.toNat, ← Nat.two_pow_add_eq_or_of_lt low]
  omega

theorem causeBits_toNat (c : CauseSet) :
    c.bits.toNat = weight ([c.operator, c.command, c.quarantineFull, c.backlog, c.depositFull] ++ c.groupFull.toList) := by
  have groups : c.groupFull.toList = [c.groupFull[0], c.groupFull[1], c.groupFull[2], c.groupFull[3], c.groupFull[4], c.groupFull[5],
      c.groupFull[6], c.groupFull[7]] := by
    rw [toList_eq_finRange]
    rfl
  rw [groups]
  simp only [CauseSet.bits, List.cons_append, List.nil_append, weight_cons, weight_nil, toNat_append_ofBool]
  rfl

theorem bundleFlags_eq (recount many carried unbricked : Bool) :
    bundleFlags recount many carried unbricked = BitVec.ofNat 8 (weight [recount, many, carried, unbricked]) := by
  revert recount many carried unbricked
  decide

theorem depositFlags_eq (declared lost after : Bool) :
    ((0#5) ++ BitVec.ofBool after ++ BitVec.ofBool lost ++ BitVec.ofBool declared : Byte) = BitVec.ofNat 8 (weight [declared, lost, after]) := by
  revert declared lost after
  decide

/-- Bits set one above the other in a word. -/
theorem foldl_setBits (bits : List Bool) {k : Nat} {w : Half} (below : w.toNat < 2 ^ (k + 1)) (fits : k + bits.length ≤ 15) :
    ((bits.zipIdx k).foldl (fun w p => if p.1 then w ||| (1#16 <<< (p.2 + 1)) else w) w).toNat = w.toNat + 2 ^ (k + 1) * weight bits := by
  induction bits generalizing k w with
  | nil => rfl
  | cons b rest ih =>
    rw [List.length_cons] at fits
    have bound : 2 ^ (k + 1) < 2 ^ 16 := Nat.pow_lt_pow_right (by decide) (by omega)
    have next : (if b then w ||| (1#16 <<< (k + 1)) else w).toNat = w.toNat + 2 ^ (k + 1) * b.toNat := by
      cases b with
      | false => rfl
      | true =>
        have one : (1#16 <<< (k + 1)).toNat = 2 ^ (k + 1) := by
          rw [BitVec.toNat_shiftLeft, Nat.shiftLeft_eq]
          exact (congrArg (· % 2 ^ 16) (Nat.one_mul _)).trans (Nat.mod_eq_of_lt bound)
        have both := Nat.two_pow_add_eq_or_of_lt below 1
        rw [if_pos rfl, BitVec.toNat_or, one, Nat.or_comm]
        simp only [Nat.mul_one] at both
        rw [← both, Bool.toNat_true, Nat.mul_one, Nat.add_comm]
    rw [List.zipIdx_cons, List.foldl_cons, ih (by rw [next, Nat.pow_succ]; cases b <;> simp <;> omega) (by omega), next, weight_cons,
      Nat.pow_succ 2 (k + 1)]
    ring

theorem gateBytes_eq (gates : Vector Bool 15) :
    gateBytes gates = [BitVec.ofNat 8 (weight (false :: gates.toList) / 256), BitVec.ofNat 8 (weight (false :: gates.toList))] := by
  have bits := foldl_setBits gates.toList (k := 0) (w := 0) (by decide) (by simp)
  have value : 0 + 2 ^ (0 + 1) * weight gates.toList = weight (false :: gates.toList) := by
    rw [weight_cons]
    rfl
  rw [gateBytes, bytes16_eq, bits]
  exact congrArg (fun n => [BitVec.ofNat 8 (n / 256), BitVec.ofNat 8 n]) value

/-! ### Segments -/

theorem flatMap_chunks {α : Type} (size : Nat) (body : List α) (n : Nat) :
    ((List.range n).flatMap fun i => (body.drop (size * i)).take size) = body.take (size * n) := by
  induction n with
  | zero => simp
  | succ n ih => rw [List.range_succ, List.flatMap_append, ih, Nat.mul_succ, List.take_add, List.flatMap_singleton]

section

variable (q : Queued)

/-- The segments hold the body, and none but the last ends before 253 bytes. -/
theorem segments_hold : q.report.body.length ≤ 253 * q.report.segments := by
  have size : q.report.segments = max 1 ((q.report.body.length + 253 - 1) / 253) := rfl
  omega

theorem segments_flatMap : ((List.range q.report.segments).flatMap fun n => (segmentPayload q n).drop 2) = q.report.body := by
  have chunks := flatMap_chunks 253 q.report.body q.report.segments
  rw [List.take_of_length_le (segments_hold q)] at chunks
  exact chunks

theorem lastSegment_iff {n : Nat} (inRange : n < q.report.segments) : q.report.lastSegment n = true ↔ n + 1 = q.report.segments := by
  rw [Report.lastSegment, decide_eq_true_iff]
  omega

theorem segmentPayload_length {n : Nat} (notLast : n + 1 < q.report.segments) : (segmentPayload q n).length = 255 := by
  have size : q.report.segments = max 1 ((q.report.body.length + 253 - 1) / 253) := rfl
  have long : ((q.report.body.drop (253 * n)).take 253).length = 253 := by
    rw [List.length_take, List.length_drop]
    omega
  exact congrArg (· + 1 + 1) long

theorem segmentMark_last (last : Bool) (n : Nat) : (BitVec.ofBool last ++ BitVec.ofNat 7 n : BitVec 8).getLsbD 7 = last := by
  rw [BitVec.getLsbD_append]
  cases last <;> rfl

theorem segmentMark_number (last : Bool) {n : Nat} (small : n < 128) :
    ((BitVec.ofBool last ++ BitVec.ofNat 7 n : BitVec 8).extractLsb' 0 7).toNat = n := by
  rw [BitVec.extractLsb'_append_eq_right, BitVec.toNat_ofNat]
  exact Nat.mod_eq_of_lt small

end

end Sys2Proof.Machine
end

section
/-! SUPPORT. The bodies of the reports, field by field (section 11.5). -/

set_option Elab.async false

namespace Sys2Proof.Machine

theorem depositLine_bytes (l : DepositLine) : l.bytes = (match l.denom with
    | some d => denomByte (some d)
    | none => 0xFE) :: (countBytes l.accepted ++ countBytes (l.declared.getD 0xFFFF)) := by
  unfold DepositLine.bytes
  cases l.declared <;> rfl

theorem lineCauseByte_groupFull (k : GroupNo) : lineCauseByte (some (.condition (.groupFull k))) = BitVec.ofNat 8 (0x15 + k.val) := by
  show BitVec.ofNat 8 (0x10 + (5 + k.val)) = _
  rw [← Nat.add_assoc]

/-- Settles O11: the model's encoders are the section's, so every body is laid out as its kind says; and the segments cut it. -/
theorem segmentsCarryTheBody : Obligations.SegmentsCarryTheBody := by
  unfold Obligations.SegmentsCarryTheBody
  intro one byte two three four number flag sum option list word serial denom bundleDenom result reason cls line resume pocket kind gate
    dest jam causes flags slotState detail group is
  have isTwo : countBytes = two := funext countBytes_eq
  have isThree : bytes24 = three := funext bytes24_eq
  have isNumber : bytes32 = number := funext bytes32_eq
  have isOption {α : Type} : @optionBytes α = option α := by
    funext f x
    cases x <;> rfl
  have isSerial : serialBytes = serial := by
    funext x
    cases x <;> rfl
  have isDenom : denomByte = denom := by
    funext x
    cases x with
    | none => rfl
    | some d => exact BitVec.eq_of_toNat_eq (by simp [denomByte, denom, one])
  have isBundleDenom : bundleDenomByte = bundleDenom := by
    funext x
    cases x with
    | none => rfl
    | some x =>
      cases x with
      | code d => exact BitVec.eq_of_toNat_eq (by simp [bundleDenomByte, bundleDenom, one])
      | mixed => rfl
      | uncoded => rfl
  have isDest : destByte = dest := by
    funext d
    cases d <;> rfl
  have isCauses : causeBytes = causes := by
    funext c
    rw [causeBytes, bytes16_eq, causeBits_toNat]
    rfl
  have isFlags : bundleFlags = flags := by
    funext a b c d
    exact bundleFlags_eq a b c d
  have isJam : jamBytes = jam := by
    funext j
    cases j with
    | none => rfl
    | some j => cases j <;> simp only [jamBytes, JamCause.item, JamCause.pocket, isNumber] <;> rfl
  have isDetail : Detail.bytes = detail := by
    funext d
    cases d with
    | none => rfl
    | entries n => exact congrFun isTwo n
    | slot k => cases k <;> rfl
    | flush members bricks => rfl
    | reset r => simp only [Detail.bytes, isTwo]; rfl
    | causes c => exact congrFun isCauses c
  have isResult : resultCode = result := by
    funext x
    cases x with
    | none => rfl
    | some r => cases r <;> rfl
  have isResume : resumeByte = resume := by
    funext x
    rcases x with _ | x
    · rfl
    · cases x <;> rfl
  have isAccumulator : accumulatorBytes = fun a => match a with
      | some (g, d, n) => [one g.val, one d.toNat, one n]
      | none => [0xFF, 0xFF, 0] := by
    funext a
    cases a with
    | none => rfl
    | some a =>
      simp only [accumulatorBytes, isDenom]
      rfl
  have flag_not (b : Bool) : flagByte (!b) = if b then 0 else 1 := by cases b <;> rfl
  have isLineCause : lineCauseByte = fun c => match c with
      | none => 0xFF
      | some (.jam (.missing _)) => 0
      | some (.jam (.stray _)) => 1
      | some (.jam (.trackFull _)) => 2
      | some (.jam .stall) => 3
      | some (.condition .operator) => 0x10
      | some (.condition .command) => 0x11
      | some (.condition .quarantineFull) => 0x12
      | some (.condition .backlog) => 0x13
      | some (.condition .depositFull) => 0x14
      | some (.condition (.groupFull g)) => one (0x15 + g.val) := by
    funext x
    match x with
    | none => rfl
    | some (.jam j) => cases j <;> rfl
    | some (.condition (.groupFull k)) => exact lineCauseByte_groupFull k
    | some (.condition .operator) => rfl
    | some (.condition .command) => rfl
    | some (.condition .quarantineFull) => rfl
    | some (.condition .backlog) => rfl
    | some (.condition .depositFull) => rfl
  have isGeometry : geometryBytes = fun g =>
      (g.d.toList.map fun d => two d.toNat).flatten ++ [g.lead, g.lag, g.tol] ++ two g.admitLimit.toNat := by
    funext g
    rw [geometryBytes, encodeGeometry, show bytes16 = fun x => two x.toNat from funext bytes16_eq]
    rfl
  have isPocketStatus : PocketStatus.bytes = fun p => [pocket p.state] ++ two p.committed ++ two p.confirmed ++ two (p.target.getD 0) ++
      [bundleDenom p.denom, flags p.recount p.manyDeposits p.carried false, flag p.lateMark, flag p.enabled] := by
    funext p
    simp only [PocketStatus.bytes, isTwo, isBundleDenom, isFlags]
    rfl
  have isGroupStatus : GroupStatus.bytes = fun g => list Gate (fun p => [gate p]) g.members ++
      byte (match g.current with
        | some p => gate p
        | none => 0xFF) ++
      [flag g.denomPure, flag g.depositPure, one g.strap, one g.brickSize, one g.lowThreshold] ++
      byte (match g.overflow with
        | .runOut => 0
        | .halt => 1) := by
    funext g
    simp only [GroupStatus.bytes, byte, List.append_assoc, List.cons_append, List.nil_append]
    cases g.overflow <;> rfl
  have isSlotStatus : slotBytes = fun d => match d with
      | some d => slotState d.state :: number d.id ++ [one d.inFlight, flag d.boundaryLost]
      | none => [0, 0, 0, 0, 0, 0, 0] := by
    funext d
    cases d with
    | none => rfl
    | some d =>
      simp only [slotBytes, isNumber]
      rfl
  have number_ofNat (n : Nat) : number (BitVec.ofNat 32 n) = four n := by rw [← isNumber, bytes32_ofNat]
  have isContribution : contributionBytes = fun c => (match c.1 with
      | .none => [0]
      | .id w => 1 :: number w) ++ two c.2 := by
    funext ⟨k, n⟩
    cases k with
    | none => simp only [contributionBytes, isTwo, List.cons_append, List.nil_append]
    | id w =>
      simp only [contributionBytes, isTwo, isNumber]
  have isBundleDeposit : bundleDepositBytes = fun d => match d with
      | none => [0]
      | some (.id w) => 1 :: number w
      | some .none => [2] := by
    funext d
    rcases d with _ | _ | w
    · rfl
    · rfl
    · simp only [bundleDepositBytes, isNumber]
  have isDepositLine : DepositLine.bytes = fun l => (match l.denom with
      | some d => one d.toNat
      | none => 0xFE) :: two l.accepted ++ two (l.declared.getD 0xFFFF) := by
    funext l
    rw [depositLine_bytes, isTwo, isDenom]
    rfl
  have isManifest : ManifestEntry.bytes = fun e =>
      number e.item ++ word e.depositId ++ [denom e.denom] ++ serial e.serial ++ word e.caseRef ++ [reason e.reason] := by
    funext e
    simp only [ManifestEntry.bytes, isNumber, isDenom, isSerial, isOption]
    rfl
  have isLoss : LossLine.bytes = fun l => number l.item ++ [kind l.kind] ++ word l.depositId ++ [dest l.dest, denom l.denom] := by
    funext l
    simp only [LossLine.bytes, isNumber, isDenom, isDest, isOption]
    rfl
  refine ⟨fun tag code refusal d => ⟨rfl, ?_⟩, fun r => ⟨rfl, ?_⟩, fun r => ⟨rfl, ?_⟩, fun r => ⟨rfl, ?_⟩, fun r => ⟨rfl, ?_⟩,
    fun r => ⟨rfl, ?_⟩, fun r => ⟨rfl, ?_⟩, fun n reasons => ⟨rfl, ?_⟩, fun r => ⟨rfl, ?_⟩, fun k preset priority item => ⟨rfl, ?_⟩,
    fun r => ⟨rfl, ?_⟩, fun r => ⟨rfl, ?_⟩, fun r => ⟨rfl, ?_⟩, fun r => ⟨rfl, ?_⟩, fun r => ⟨rfl, ?_⟩, fun r => ⟨rfl, ?_⟩, fun r => ⟨rfl, ?_⟩,
    fun revision => ⟨rfl, rfl⟩, fun q => ⟨segments_flatMap q, fun n => lastSegment_iff q, fun n => segmentPayload_length q, fun n inRange => ?_⟩,
    fun q n => ?_⟩
  · rw [Report.body, isDetail, isResult]
    rfl
  · simp only [Report.body, BundleReport.body, isTwo, isNumber, isBundleDenom, isFlags, isBundleDeposit, isContribution, List.append_assoc,
      List.cons_append, List.nil_append, byte]
    rfl
  · simp only [Report.body, BrickReport.body, isNumber, isFlags, number_ofNat, isDenom, List.append_assoc, List.cons_append, List.nil_append]
    rfl
  · simp only [Report.body, DepositReport.body, isNumber, isTwo, depositFlags_eq, isDepositLine, isOption, List.flatMap_cons, List.flatMap_nil,
      List.append_assoc, List.cons_append, List.nil_append, byte]
    rfl
  · simp only [Report.body, DepositFaultReport.body, isNumber, isOption, flag_not, List.append_assoc, List.cons_append, List.nil_append]
    rfl
  · simp only [Report.body, WatchHitReport.body, isNumber, isDenom, isDest, isSerial, isOption, List.append_assoc, List.cons_append,
      List.nil_append]
    rfl
  · simp only [Report.body, QuarantineReport.body, isManifest, List.append_assoc, List.cons_append, List.nil_append]
    rfl
  · simp only [Report.body, isTwo]
    rfl
  · simp only [Report.body, GroupLowReport.body, isTwo, isNumber, isOption, List.append_assoc, List.cons_append, List.nil_append]
    rfl
  · simp only [Report.body, isTwo, isNumber, List.append_assoc, List.cons_append, List.nil_append]
    rfl
  · simp only [Report.body, RoutesReport.body, isNumber, isOption, List.append_assoc, List.cons_append, List.nil_append]
    rfl
  · simp only [Report.body, LineReport.body, isThree, isCauses, isLineCause, isResume, List.append_assoc, List.cons_append, List.nil_append, byte]
    rfl
  · simp only [Report.body, JamReport.body, isJam, isTwo, isThree, isCauses, List.append_assoc, List.cons_append, List.nil_append]
    rfl
  · simp only [Report.body, RecoveryReport.body, isJam, isLoss, List.append_assoc, List.cons_append, List.nil_append]
    rfl
  · simp only [Report.body, TraceReport.body, isTwo, isThree, isNumber, isDenom, isDest, isSerial, isOption, List.append_assoc, List.cons_append,
      List.nil_append, byte]
    cases r.cls with
    | none => rfl
    | some c => cases c <;> rfl
  · simp only [Report.body, TallyReport.body, isNumber, List.cons_append, List.nil_append]
    rfl
  · show StatusReport.body r = _
    unfold StatusReport.body
    simp only [isCauses, isJam, isNumber, gateBytes_eq, isGeometry, isTwo, isPocketStatus, isGroupStatus, isSlotStatus, isAccumulator, isResume]
    simp only [List.append_assoc, List.cons_append, List.nil_append, byte]
    rfl
  · exact ⟨_, _, rfl, by rw [segmentMark_last, lastSegment_iff q inRange], segmentMark_number _⟩
  · intro payload covered
    exact congrArg (fun check => 0xC3 :: covered ++ check) (bytes16_eq (crc covered))

end Sys2Proof.Machine
end
